-- ==== Sys2Proof/Word.lean ====
section
/-! DEFINITION. The word types of the module: register words, bytes, 48.16 time values, and the sparse store
that every memory and register file of the model is held in (its operations stand in Machine/Sparse.lean). -/

namespace Sys2Proof

/-- A register or memory word (R7: registers are 32 bits wide). -/
abbrev Word := BitVec 32

/-- One byte. -/
abbrev Byte := BitVec 8

/-- A time value in the 48.16 format of R6: an unsigned count of 2^-16 ns. -/
abbrev Time := BitVec 64

/-- A sparse store: pairs of a key and a value, keys strictly rising, no pair whose value is what an unlisted key
reads as. -/
abbrev Sparse (α : Type) := List (Nat × α)

end Sys2Proof
end

