-- ==== Sys2Proof/Frames.lean ====
section
/-! DEFINITION. The operands of commands that are more than a number: who makes an access, and the frames, records,
messages and datagrams that reach the module or a node. -/

namespace Sys2Proof

/-- The direction of a frame on a Warp ring (R70: DIR 0b01 clockwise, 0b10 counter-clockwise). -/
inductive Dir where
  | cw
  | ccw
  deriving DecidableEq, Repr

/-- Who makes a register access: a Crown core, a management session of the host, the Graft mirror of the peer, or the
seed loader (the master codes of R309, the origins of R315). -/
inductive Master where
  | crown (core : Fin 2)
  | host (port : Fin 4) (role : Fin 5) (session : Fin 128)
  | mirror
  | loader (section_ : Fin 16)
  deriving DecidableEq, Repr

/-- The units that hold a pending time (R41, R42): the grid origin, the capture trigger, a CAN transmit buffer. -/
inductive PendingUnit where
  | gridOrigin
  | captureTrigger
  | canBuffer (c : Fin 2) (b : Fin 32)
  deriving DecidableEq, Repr

/-- What a receiver finds between the SOF and the EOF of a frame besides its data blocks (R68, R73, R77): a BLK block, a pre-empting
COLLECT frame, a RESUME block, the SOF of a frame of another type, any other control block, a loss of block lock. -/
inductive LineItem where
  | blk
  | collect
  | resume
  | sof (type : Byte)
  | control (block : BitVec 64)
  | lockLost
  deriving DecidableEq, Repr

/-- The header of a Warp frame as it stands on the line (R70), with HCRC, with STOMP and FCRC of its EOF (R67), and with what stood
between its blocks. DIR is `dir` where `dirOk`, else one of its two other values. Reserved bits are 0. -/
structure FrameHdr where
  dir     : Dir
  dst     : BitVec 6
  src     : BitVec 6
  ring    : BitVec 2
  hops    : BitVec 6
  timed   : Bool
  seq     : BitVec 16
  mandate : BitVec 16
  corr    : Time
  len     : BitVec 16
  hcrc    : Word
  dirOk   : Bool
  line    : List LineItem
  fcrc    : Word
  stomp   : Bool
  deriving DecidableEq, Repr

/-- A Draft entry: its TIME word and its CTRL word (R191). -/
structure Entry where
  time : Time
  ctrl : BitVec 64
  deriving DecidableEq, Repr

/-- A section of a cycle frame: node, slot offset 2 to 5, and its entries in the order sent (R84). -/
structure Section where
  node    : BitVec 6
  offset  : Nat
  entries : List Entry
  deriving DecidableEq, Repr

/-- A CYCLE frame: header, cycle header and sections (R84). -/
structure CycleFrame where
  hdr      : FrameHdr
  b2       : Time
  safe     : BitVec 64
  tcyc     : Word
  cflags   : Byte
  sections : List Section
  deriving DecidableEq, Repr

/-- A COLLECT frame: header, BK and the records appended so far, 16 words each (R87, R88). -/
structure CollectFrame where
  hdr     : FrameHdr
  bk      : Time
  records : List (List Word)
  deriving DecidableEq, Repr

/-- A SYNC frame (R90). -/
structure SyncFrame where
  hdr    : FrameHdr
  origin : Time
  path   : Time
  deriving DecidableEq, Repr

/-- A MGMT frame (R91): operation, status, pad blocks, request words (the address first) and reply words. -/
structure MgmtFrame where
  hdr    : FrameHdr
  op     : Byte
  status : Byte
  npad   : Byte
  req    : List Word
  rpl    : List Word
  deriving DecidableEq, Repr

/-- A HELLO frame (R94). -/
structure HelloFrame where
  hdr    : FrameHdr
  nodeId : Word
  serial : BitVec 64
  hstate : Byte
  mandHi : BitVec 16
  deriving DecidableEq, Repr

/-- A frame on a Warp ring by type (R74), a frame of another type with its body, or a block outside a frame (R67, R68): a control
block or a data block. -/
inductive WarpFrame where
  | cycle   (f : CycleFrame)
  | collect (f : CollectFrame)
  | sync    (f : SyncFrame)
  | mgmt    (f : MgmtFrame)
  | hello   (f : HelloFrame)
  | unknown (type : Byte) (h : FrameHdr) (body : List Byte)
  | block (control : Bool) (bits : BitVec 64)
  deriving DecidableEq, Repr

/-- A port of the module's on ring n: 0 is WP(2n) and 1 is WP(2n+1) (R65). -/
structure RingPort where
  ring : Fin 4
  port : Fin 2
  deriving DecidableEq, Repr

/-- A block outside a frame as it comes in at a port of a node: control or data by its sync bits, and its 64 bits (R68). -/
structure BlockIn where
  port    : Fin 2
  control : Bool
  bits    : BitVec 64
  deriving DecidableEq, Repr

/-- What a node takes in for a status record beside its measurements (R89): its temperature in 1/128 °C, its own fault code and whether
its power-stage bypass device is closed. -/
structure NodeInputs where
  temp   : BitVec 16
  nfault : BitVec 16
  closed : Bool
  deriving DecidableEq, Repr

/-- What a node is built as (R93): identity, capabilities, and the module's ring role code of R89. -/
structure NodeMake where
  maker   : BitVec 16
  product : BitVec 16
  rev     : Word
  serial  : BitVec 64
  nmeas   : Nat
  maxEnt  : Nat
  ntgt    : Nat
  role    : Nat
  deriving DecidableEq, Repr

/-- What the Graft line adds to a body (R251, R252): POS, ROLE, K and LEN of the header, HCRC, FCRC, and whether both lanes' blocks were
intact when the frame was received. -/
structure GraftLine where
  pos    : Bool
  role   : Nat
  k      : Word
  len    : Nat
  hcrc   : Word
  fcrc   : Word
  intact : Bool
  deriving DecidableEq, Repr

/-- A STATUS frame on the Graft link (R252, R254). -/
structure GraftStatus where
  line     : GraftLine
  origin   : Time
  rxPeer   : Time
  rxK      : Word
  flags    : Word
  configId : Word
  tcyc     : Word
  bk       : Time
  deriving DecidableEq, Repr

/-- One engine block of a state image (R257). -/
structure ImageEngine where
  flags   : Byte
  hov     : Byte
  segAct  : BitVec 16
  segEn   : BitVec 16
  swapCyc : Word
  tracked : Byte
  consec  : Byte
  states  : List (BitVec 48)
  deriving DecidableEq, Repr

/-- One string section of a state image (R257). -/
structure ImageString where
  ref     : Time
  en      : Word
  oos     : Word
  ret     : Word
  mode    : BitVec 2
  n       : Nat
  derated : Bool
  head    : Word
  deriving DecidableEq, Repr

/-- One quad section of a state image (R257): the DAB reference and the four ψ last built, in 2^-32 turn. -/
structure ImageQuad where
  ref : Time
  psi : List Word
  deriving DecidableEq, Repr

/-- One ring section of a state image (R257). -/
structure ImageRing where
  mandate   : BitVec 16
  state     : Nat
  wrapUp    : Nat
  wrapDn    : Nat
  presentLo : Word
  presentHi : Byte
  cut       : Word
  deriving DecidableEq, Repr

/-- The Draft section of a state image for one ring (R257). -/
structure ImageDraft where
  first : Nat
  count : Nat
  slots : Nat
  deriving DecidableEq, Repr

/-- A MIRROR frame (R260): MSEQ of its first write, and the writes as address and word. -/
structure MirrorFrame where
  line   : GraftLine
  mseq   : Word
  writes : List (Word × Word)
  deriving DecidableEq, Repr

/-- A state image with the line that carries it (R252, R257). -/
structure Image where
  line      : GraftLine
  k         : Word
  bk        : Time
  tcyc      : Word
  configId  : Word
  size      : Nat
  handoff   : Bool
  mirrorSeq : Word
  run       : Nat
  cls       : Nat
  epoch     : Word
  supv      : List Word
  rings     : List ImageRing
  front     : Bool
  draft     : List ImageDraft
  strings   : List ImageString
  quads     : List ImageQuad
  engines   : List ImageEngine
  deriving DecidableEq, Repr

/-- A safety PDU copy (R293): the LAN it came on and its bytes. -/
structure SafetyPdu where
  lanB  : Bool
  bytes : List Byte
  deriving DecidableEq, Repr

/-- The safety parameter block (R297), its 64 bytes. -/
abbrev SafetyBlock := List Byte

/-- How a safe input came to demand (R280): it toggled, or stayed low; `run` is the number of samples of 10 ns since the first change. -/
structure DemandRun where
  toggling : Bool
  run      : Nat
  deriving DecidableEq, Repr

/-- A test-pulse source that turns off, and the levels of the eight inputs as last sampled (R282, R301). -/
structure TestSample where
  src    : Fin 4
  levels : BitVec 8
  deriving DecidableEq, Repr

/-- By what an uncorrectable error was found (R309, R310): the code of the master, its access and its width. -/
structure EccFinder where
  master : Byte
  access : BitVec 2
  width  : BitVec 2
  deriving DecidableEq, Repr

/-- The corrected errors since the last pass of the scrubber (R34, R125): what this pass has corrected, and the count of each engine. -/
structure ScrubCounts where
  corrected : Nat
  heddle    : List Nat
  deriving DecidableEq, Repr

/-- The capture fields of a raise that an access caused (R309). -/
structure Capture where
  addr   : Word
  master : Byte
  access : BitVec 2
  width  : BitVec 2
  deriving DecidableEq, Repr

/-- One entry of the change journal (R315). `cont` says that a STAMP entry follows. -/
structure JEntry where
  t0     : Time
  t2     : BitVec 48
  epoch  : BitVec 16
  origin : BitVec 16
  type   : Byte
  flags  : Byte
  target : Word
  old    : Word
  new    : Word
  deriving DecidableEq, Repr

/-- A received Ethernet frame as the bridge and the local handlers see it (R373, R377, R379). The destination and
source are MAC addresses as numbers; `rct` is the redundancy control trailer's sequence number and LAN identifier. -/
structure EthFrame where
  errored   : Bool
  dst       : BitVec 48
  src       : BitVec 48
  ethertype : BitVec 16
  listened  : Bool
  len       : Nat
  vid       : Option (BitVec 12)
  pcp       : Nat
  rct       : Option (BitVec 16 × BitVec 4)
  supervision : Bool
  ipDst     : Word
  ipPlain   : Bool
  proto     : Nat
  udpSrc    : BitVec 16
  udpPort   : BitVec 16
  payload   : List Byte
  deriving DecidableEq, Repr

/-- The fields of a received PTP message that the profile checks and the selection use (R381 to R384). The origin timestamp is
`wraps` times 2^48 ns and `origin`. -/
structure PtpMsg where
  version    : Nat
  lengthOk   : Bool
  domain     : Byte
  sdo        : BitVec 4
  srcPort    : BitVec 80
  seqId      : BitVec 16
  correction : BitVec 64
  origin     : Time
  wraps      : Word
  twoStep    : Bool
  deriving DecidableEq, Repr

/-- The data set of an Announce (R381, R382): the grandmaster identity, the comparison key of the default data set
comparison (a smaller key is better), the UTC word and the Announce interval exponent. -/
structure AnnounceData where
  gm   : BitVec 64
  rank : List Nat
  utc  : Word
  logInterval : Int
  deriving DecidableEq, Repr

/-- The header of a management request (R385): session, sequence number, whether its tag verified, and the port its
accepted copy came in on. -/
structure MgmtHdr where
  port    : Fin 4
  session : Fin 128
  seq     : BitVec 64
  tagOk   : Bool
  deriving DecidableEq, Repr

/-- A CAN frame (R396, R400, R410), and the time from its SOF to its end in 2^-16 ns (R57). -/
structure CanFrame where
  id   : BitVec 29
  ide  : Bool
  rtr  : Bool
  fdf  : Bool
  brs  : Bool
  esi  : Bool
  dlc  : BitVec 4
  data : List Byte
  since : Nat
  deriving DecidableEq, Repr

/-- One register record of a seed image section (R415): an address and its words. -/
structure SeedRecord where
  addr  : Nat
  words : List Word
  deriving DecidableEq, Repr

/-- One address of a ring map (R18, R102): the node's role code (R89) and index. -/
structure MapNode where
  addr  : Nat
  role  : Nat
  index : Nat
  deriving DecidableEq, Repr

/-- A ring map (R18, R102, R106, R196): its nodes, the asymmetry of each link in 2^-16 ns, and per role (cell, LV
bridge, head, other) the eight words written to NODE_MEAS_SCALE and which MEAS words are assigned a quantity. -/
structure RingMap where
  nodes    : List MapNode
  alpha    : List Int
  scales   : List (List Word)
  assigned : List (BitVec 8)
  deriving DecidableEq, Repr

/-- What the boot ROM finds on one image bank (R414 to R416): MAGIC, FORMAT, the types of its section table, whether the SHA-256 of
PUBKEY equals the key slot, SIG verifies, every hash agrees and every section lies inside the bank; KEY_SLOT, REVOKE and IMAGE_VER;
the ring maps of its section 0x05 and their code of T_cyc. -/
structure BankHeader where
  magic    : Word
  format   : BitVec 16
  types    : List (BitVec 16)
  pubkeyOk : Bool
  sigOk    : Bool
  hashOk   : Bool
  inside   : Bool
  keySlot  : Fin 4
  revoke   : BitVec 4
  imageVer : Word
  maps     : List RingMap
  tcyc     : BitVec 2
  deriving DecidableEq, Repr

/-- A copy of the card descriptor (R413). -/
structure Descriptor where
  magic   : Word
  seq     : Word
  active  : Byte
  pending : Byte
  blocks  : BitVec 16
  crc     : Word
  deriving DecidableEq, Repr

/-- An entry slot of the card's journal region, with the CRC programmed beside it (R319). -/
structure JSlot where
  entry : JEntry
  crc   : Word
  deriving DecidableEq, Repr

/-- A block of the card's journal region (R319): what its header page holds (mark, sequence, erase count, the bad mark), whether it is
erased, and the entry slots programmed, in order. -/
structure JBlock where
  magic   : Word
  seq     : Nat
  erases  : Nat
  bad     : Bool
  erased  : Bool
  entries : List JSlot
  deriving DecidableEq, Repr

/-- What the boot ROM finds at the card slot (R411 to R414): both copies of the descriptor and both banks; `journal` is the journal
region of a card that has not been in this module before, none where it is the card that was. -/
structure CardScan where
  present   : Bool
  supported : Bool
  uniqueId  : BitVec 64
  desc0     : Descriptor
  desc1     : Descriptor
  bank0     : BankHeader
  bank1     : BankHeader
  journal   : Option (Sparse JBlock)
  deriving DecidableEq, Repr

/-- The Sap parameter block of the boot set (R345, R347, R354, R368): its settings of Sap mailbox registers, group enables and
automatic start at start, mains-loss level and minimum bus level as ADC codes of AH0 and AH1, and the scale words. -/
structure SapBlock where
  settings  : List SeedRecord
  grpEn     : BitVec 4
  autoStart : BitVec 10
  mainsLoss : BitVec 12
  minBus    : BitVec 12
  scales    : List Word
  deriving DecidableEq, Repr

/-- The content of a seed image section as it is applied (R415). -/
inductive SectionData where
  | bootSet      (sap : SapBlock) (recs : List SeedRecord)
  | firmware     (words : List SeedRecord)
  | heddle       (recs : List SeedRecord)
  | weaver       (recs : List SeedRecord)
  | ringMaps     (maps : List RingMap) (recs : List SeedRecord)
  | network      (recs : List SeedRecord)
  | can          (recs : List SeedRecord)
  | safety
  | roleKeys     (valid : BitVec 20)
  | journalRegion (blocks : Nat)
  deriving DecidableEq, Repr

end Sys2Proof
end

