-- ==== Sys2Proof/Syntax.lean ====
section
/-! DEFINITION. The commands of the block: one constructor per row of spec/opcode_table.json, in the table's order,
each with the operands its row carries. A command is an event (a strobe, a pin, a timer that has run out, a frame or
a message that has arrived), an access to a register, a pick of a Heddle engine's pattern, or a management request.
A pick command names only its engine: the pick it runs is the next one of that engine's own pattern (R136). -/

namespace Sys2Proof

/-- The commands (R-number of the row after each). -/
inductive Instr where
  /-- CYCLE_BOUNDARY: At each TB0 cycle boundary every node samples, the cycle number increments and boundary-timed actions take effect (R22) -/
  | cycleBoundary
  /-- COLLECT_LAUNCH: At boundary plus 0.25 us the Shuttle engines launch a COLLECT frame on both directions of every enabled ring (R87) -/
  | collectLaunch
  /-- INPUT_CUT: At the effective input cut the staging copies become the input region and every running Heddle engine starts its pattern (R130) -/
  | inputCut
  /-- T_OUT: The t_out strobe closes the run window of every engine and starts the Weaver (R146) -/
  | tOut
  /-- DRAFT_HANDOVER: At t_out plus t_wv the Draft banks swap and the cycle frames and state image are released (R205) -/
  | draftHandover (finished : Bool)
  /-- TB_WRAP: A time base counter wraps to zero and increments its epoch register (R39) -/
  | tbWrap (n : Fin 4)
  /-- SERVO_SAMPLE: A servo receives one measured offset and updates I and F, or enters slew or step mode (R47) -/
  | servoSample (n : Fin 4) (e : Time)
  /-- TB_LOAD: A write of TIM_TBn_LOAD requests an absolute correction of a time base (R51) -/
  | tbLoad (n : Fin 4) (m : Master) (v : Time)
  /-- TB_ADJ: A write of TIM_TBn_ADJ requests a relative correction of a time base (R51) -/
  | tbAdj (n : Fin 4) (m : Master) (delta : Word)
  /-- SLEW_DONE: A slewing privileged base comes within its jump threshold and steps the remainder (R51) -/
  | slewDone (n : Fin 4)
  /-- PENDING_TIME_DUE: A pending time held by a unit becomes due and is handled (R42) -/
  | pendingTimeDue (u : PendingUnit)
  /-- COMP_SAMPLE: The oscillator temperature sensor is sampled and the compensation C is recomputed or frozen (R46) -/
  | compSample (t : Option (BitVec 16))
  /-- HOLDOVER_TIMEOUT: TB2 or TB3 enters holdover after three expected sample intervals without an accepted sample (R55) -/
  | holdoverTimeout (b : Fin 2)
  /-- HOLDOVER_LIMIT: HOLD_S reaches HOLD_LIM and HOLD_EXPIRED is set with fault 0x0106 (R55) -/
  | holdoverLimit (b : Fin 2)
  /-- XCHK_SAMPLE: Every 100 us the safety cores compare TB1 with TB0 against the cross-check limit (R56) -/
  | xchkSample
  /-- RATE_CHECK: Every 10 ms the raw oscillator rate ratio is checked against +-1,000 ppm (R56) -/
  | rateCheck (dev : Word)
  /-- OSC_STOPPED: An oscillator without edges for 10 us raises fault 0x0109 (R56) -/
  | oscStopped (o : Fin 2)
  /-- XSTAMP_TRIG: A write of TIM_XSTAMP_CTRL.TRIG latches all four bases in one clock (R58) -/
  | xstampTrig (m : Master)
  /-- DISARM: TIM_CTRL.DISARM returns TB0 to unarmed in the stopped state or is refused (R52) -/
  | disarm (m : Master)
  /-- GRID_ORIGIN_WRITE: A write of TIM_GRID_ORIGIN sets cycle 0 of the grid or is refused with 0x010B (R44) -/
  | gridOriginWrite (m : Master) (v : Time)
  /-- TCYC_WRITE: A write of TIM_CYCLE_CFG.TCYC changes T_cyc in the stopped state after its checks, or is refused (R29) -/
  | tcycWrite (m : Master) (v : BitVec 2)
  /-- TIN_TOUT_WRITE: A write of TIM_T_IN or TIM_T_OUT takes effect at the next boundary if R27 holds, or is refused (R29) -/
  | tinToutWrite (m : Master) (isOut : Bool) (v : BitVec 17)
  /-- SERVO_RESET_I: A write of RESET_I sets the servo integrator of the named bases to 0 (R62) -/
  | servoResetI (m : Master) (mask : BitVec 4)
  /-- RING_ENABLE: Setting a RING_EN bit starts the bring-up of that ring (R100) -/
  | ringEnable (r : Fin 4) (m : Master)
  /-- RING_DISABLE: Clearing a RING_EN bit disables the ring and closes its selvedge bypass (R98) -/
  | ringDisable (r : Fin 4) (m : Master)
  /-- RING_LOCK_TIMEOUT: After 50 ms the ring continues wrapped on one locked port or is set FAILED (R100) -/
  | ringLockTimeout (r : Fin 4)
  /-- BLOCK_LOCK_CHANGE: A module Warp port gains or loses block lock (R66) -/
  | blockLockChange (p : Fin 8) (locked : Bool)
  /-- BYPASS_MOVE_DONE: A selvedge bypass completes its change of state (R99) -/
  | bypassMoveDone (r : Fin 4)
  /-- STATUS_RECORD_RECEIVE: The module receives a node status record and writes its first valid copy into signal memory or counts it late (R89) -/
  | statusRecordReceive (r : Fin 4) (hdr : FrameHdr) (bk : Time) (returning : Bool) (rec : List Word)
  /-- COLLECT_FRAME_RETURN: A COLLECT frame arrives at a ring end of the module (R110) -/
  | collectFrameReturn (r : Fin 4) (port : Fin 2) (f : CollectFrame)
  /-- RING_CLOSE: After 16 normal cycles a wrapped ring is declared closed and the cut restored (R113) -/
  | ringClose (r : Fin 4)
  /-- NODE_LOSS: A node missing from both directions for NODE_LOSS cycles is lost (R115) -/
  | nodeLoss (r : Fin 4) (a : Fin 64)
  /-- SYNC_LAUNCH: The module launches a SYNC exchange on both ends of a ring (R105) -/
  | syncLaunch (r : Fin 4)
  /-- SYNC_FRAME_RETURN: A SYNC frame returns to the module and the ring delay of its direction is measured (R60) -/
  | syncFrameReturn (r : RingPort) (f : SyncFrame)
  /-- RING_CONVERGED: Every admitted node reports SYNC_OK in 16 consecutive collect cycles and the ring becomes running (R105) -/
  | ringConverged (r : Fin 4)
  /-- CONVERGE_TIMEOUT: A ring not converged 100 ms after step 6 raises fault 0x0206 (R105) -/
  | convergeTimeout (r : Fin 4)
  /-- MGMT_TRANSACTION_SEND: The module places a MGMT frame on a ring when the cycle leaves room (R91) -/
  | mgmtTransactionSend (r : Fin 4)
  /-- MGMT_REPLY_RECEIVE: The module receives a MGMT frame carrying a node reply (R92) -/
  | mgmtReplyReceive (r : RingPort) (f : MgmtFrame)
  /-- HELLO_RECEIVE: The module receives a HELLO frame and counts it or assigns an address or declares a stranger (R116) -/
  | helloReceive (r : Fin 4) (port : Fin 2) (f : HelloFrame)
  /-- READMIT: WRP_RINGn_CMD.READMIT re-admits a node or is refused (R115) -/
  | readmit (r : Fin 4) (a : Fin 64) (m : Master)
  /-- RESYNC: WRP_RINGn_CMD.RESYNC returns the ring to PERIOD_CONV until it converges again (R122) -/
  | resync (r : Fin 4) (m : Master)
  /-- YIELD: A module in control that sees a higher mandate stops releasing frames and becomes an unqualified standby (R265) -/
  | yield (r : Fin 4) (mandate : BitVec 16)
  /-- PASS_FORWARD: A module in pass mode forwards a frame in cut-through, stomping CYCLE frames under a machine demand (R97) -/
  | passForward (r : Fin 4) (dir : Dir) (residence : Time) (f : WarpFrame)
  /-- NODE_RESET: A node resets, clearing MAND_HI and its address (R82) -/
  | nodeReset (r : Fin 4) (p : Fin 64) (make : NodeMake)
  /-- NODE_FRAME_RECEIVE: A node receives a frame whole, checks validity and forwards it with its changes (R73) -/
  | nodeFrameReceive (r : Fin 4) (p : Fin 64) (port : Fin 2) (residence : Time) (f : WarpFrame)
  /-- NODE_CYCLE_FRAME_RECEIVE: A node takes the sets of a valid CYCLE frame and replaces held sets by the replacement rules (R86) -/
  | nodeCycleFrameReceive (r : Fin 4) (p : Fin 64) (f : CycleFrame)
  /-- NODE_COLLECT_APPEND: A node appends its status record to a passing COLLECT frame (R88) -/
  | nodeCollectAppend (r : Fin 4) (p : Fin 64) (residence : Time) (f : CollectFrame) (raw : List Word) (x : NodeInputs)
  /-- NODE_SYNC_RECEIVE: A node uses a SYNC exchange to compute its offset and upstream delay (R104) -/
  | nodeSyncReceive (r : Fin 4) (p : Fin 64) (stamp : Time) (f : SyncFrame)
  /-- NODE_MGMT_RECEIVE: A node serves a MGMT READ or WRITE addressed to it in cut-through (R92) -/
  | nodeMgmtReceive (r : Fin 4) (p : Fin 64) (inTime : Bool) (f : MgmtFrame)
  /-- NODE_HELLO_SEND: A node sends a HELLO frame on both ports (R94) -/
  | nodeHelloSend (r : Fin 4) (p : Fin 64)
  /-- NODE_BLK_RECEIVE: A node forwards a BLK block, enters BLOCKED and puts every target into HOLD (R79) -/
  | nodeBlkReceive (r : Fin 4) (p : Fin 64) (block : BlockIn)
  /-- NODE_SLOT_DECISION: At t_fd before a slot the node decides which set to execute, or enters HOLD (R31) -/
  | nodeSlotDecision (r : Fin 4) (p : Fin 64) (slot : Time)
  /-- NODE_ADOPTION: At the adoption time the executed set becomes current for the target (R193) -/
  | nodeAdoption (r : Fin 4) (p : Fin 64) (slot : Time)
  /-- NODE_ENTRY_DUE: An EDGE or HOLD entry executes at its time T (R193) -/
  | nodeEntryDue (r : Fin 4) (p : Fin 64) (tgt : Fin 8)
  /-- NODE_MASTER_TIMEOUT: A node's master timer reaches 8 x TCYC and MASTER_LOST is set (R117) -/
  | nodeMasterTimeout (r : Fin 4) (p : Fin 64)
  /-- NODE_SYNC_TIMEOUT: A node without an exchange for 10 ms clears SYNC_OK (R104) -/
  | nodeSyncTimeout (r : Fin 4) (p : Fin 64)
  /-- NODE_PORT_LOCK_LOSS: A node port loses block lock and the node becomes a wrap point (R108) -/
  | nodePortLockLoss (r : Fin 4) (p : Fin 64) (port : Fin 2)
  /-- NODE_WRAP_END: A wrap point stops turned copies after 1 ms of block lock (R113) -/
  | nodeWrapEnd (r : Fin 4) (p : Fin 64) (port : Fin 2)
  /-- NODE_RETURNING_FRAME: A node forwards a returning frame out of its other port (R109) -/
  | nodeReturningFrame (r : Fin 4) (p : Fin 64) (port : Fin 2) (residence : Time) (f : WarpFrame)
  /-- NOP: Pick that does nothing for one clock (R183) -/
  | nop (e : Fin 8)
  /-- END: Pick that closes the pass (R183) -/
  | endPass (e : Fin 8)
  /-- LDC: Pick that loads a coefficient into a signal word (R159) -/
  | ldc (e : Fin 8)
  /-- GAIN: Pick that multiplies a signal by a coefficient, optionally adding B (R160) -/
  | gain (e : Fin 8)
  /-- SUM: Pick that forms a signed sum, optionally as an angle (R161) -/
  | sum (e : Fin 8)
  /-- MUL: Pick that multiplies two signals (R162) -/
  | mul (e : Fin 8)
  /-- DIV: Pick that writes the quotient of two signals (R163) -/
  | div (e : Fin 8)
  /-- LIM: Pick that clamps a signal between limits (R164) -/
  | lim (e : Fin 8)
  /-- RAT: Pick that limits the rate of change of a signal (R166) -/
  | rat (e : Fin 8)
  /-- BIQ: Pick that runs a second-order section (R165) -/
  | biq (e : Fin 8)
  /-- TRK: Pick that back-calculates the states of a BIQ to follow a tracked value (R168) -/
  | trk (e : Fin 8)
  /-- XFD: Pick that crossfades two values by a weight state (R169) -/
  | xfd (e : Fin 8)
  /-- HLD: Pick that holds a value or delays it by one cycle (R167) -/
  | hld (e : Fin 8)
  /-- SEL: Pick that selects between two values by a condition (R171) -/
  | sel (e : Fin 8)
  /-- CMP: Pick that compares two values and writes a truth value (R170) -/
  | cmp (e : Fin 8)
  /-- LUT: Pick that interpolates in a coefficient table (R172) -/
  | lut (e : Fin 8)
  /-- CLK: Pick that computes the Clarke transform (R174) -/
  | clk (e : Fin 8)
  /-- ICLK: Pick that computes the inverse Clarke transform (R174) -/
  | iclk (e : Fin 8)
  /-- PRK: Pick that computes the Park transform (R175) -/
  | prk (e : Fin 8)
  /-- IPRK: Pick that computes the inverse Park transform (R175) -/
  | iprk (e : Fin 8)
  /-- CMAG: Pick that computes a vector magnitude (R176) -/
  | cmag (e : Fin 8)
  /-- CANG: Pick that computes a vector angle (R176) -/
  | cang (e : Fin 8)
  /-- CSIN: Pick that computes sine and cosine of an angle (R176) -/
  | csin (e : Fin 8)
  /-- INJ: Pick that adds a test signal to a reference (R177) -/
  | inj (e : Fin 8)
  /-- RLY: Pick that replaces a loop output by a relay (R180) -/
  | rly (e : Fin 8)
  /-- SRT: Pick that ranks values on the hardware sorter (R181) -/
  | srt (e : Fin 8)
  /-- SORT_COMPLETE: The sorter finishes a sort, checks the result and releases or withholds it (R213) -/
  | sortComplete (e : Fin 8) (checkFail : Bool) (late : Bool)
  /-- WEV: Pick that binds output words to a Weaver reference channel (R182) -/
  | wev (e : Fin 8)
  /-- HDL_RUN_SET: Setting HDL_CTRL.RUN with PAT_OK arms the engine (R150) -/
  | hdlRunSet (e : Fin 8) (m : Master)
  /-- HDL_RUN_CLEAR: Clearing HDL_CTRL.RUN stops the engine at the next boundary, or is refused (R150) -/
  | hdlRunClear (e : Fin 8) (m : Master)
  /-- CLR_STATES: HDL_CTRL.CLR_STATES sets all committed states to 0 while stopped (R145) -/
  | clrStates (e : Fin 8) (m : Master)
  /-- PATTERN_CHECK: HDL_PAT_CMD.CHECK starts the pattern check (R138) -/
  | patternCheck (e : Fin 8) (m : Master)
  /-- PATTERN_CHECK_DONE: The pattern check completes and sets PAT_OK or reports the reason (R138) -/
  | patternCheckDone (e : Fin 8)
  /-- SWAP: HDL_COEF_CTRL.SWAP requests a bank swap at the next boundary (R140) -/
  | swap (e : Fin 8) (m : Master)
  /-- SWAP_AT: HDL_COEF_CTRL.SWAP_AT requests a bank swap at HDL_COEF_SWAP_CYC (R140) -/
  | swapAt (e : Fin 8) (m : Master)
  /-- CANCEL: HDL_COEF_CTRL.CANCEL withdraws a pending swap (R140) -/
  | cancel (e : Fin 8) (m : Master)
  /-- COEF_COPY_DONE: The copy of the new active bank into the shadow bank finishes (R141) -/
  | coefCopyDone (e : Fin 8)
  /-- PATTERN_WRITE: A fabric write of a pick's low word writes the whole pick or is refused (R124) -/
  | patternWrite (e : Fin 8) (m : Master) (i : Fin 2048) (lo : Word)
  /-- SIGNAL_WRITE: A fabric write to signal memory is accepted or refused (R126) -/
  | signalWrite (e : Fin 8) (m : Master) (w : Fin 8192) (v : Word)
  /-- MAILBOX_WRITE: A write of signal words 992 to 1,023 goes to the mailbox staging copy (R132) -/
  | mailboxWrite (e : Fin 8) (m : Master) (w : Fin 32) (v : Word)
  /-- COEF_WRITE: A fabric write to a coefficient bank is accepted or refused (R126) -/
  | coefWrite (e : Fin 8) (m : Master) (bank : Fin 2) (c : Fin 2048) (v : Word)
  /-- STATE_WRITE: A fabric write to state memory sets the committed value or queues a preset (R145) -/
  | stateWrite (e : Fin 8) (m : Master) (i : Fin 1024) (lo : Word)
  /-- SEG_EN_WRITE: A write of HDL_SEG_EN requests segment enables or is refused (R137) -/
  | segEnWrite (e : Fin 8) (m : Master) (v : BitVec 16)
  /-- SEG_RANGE_WRITE: A write of HDL_SEGn_RANGE sets a segment range and clears PAT_OK, or is refused (R139) -/
  | segRangeWrite (e : Fin 8) (m : Master) (n : Fin 16) (v : Word)
  /-- LOCK_GRP_WRITE: A write of HDL_CTRL.LOCK_GRP sets the lock group while stopped, or is refused (R149) -/
  | lockGrpWrite (e : Fin 8) (m : Master) (g : BitVec 3)
  /-- IMG_COUNT_WRITE: A write of HDL_IMG.COUNT sets the image states or is refused over the limit (R258) -/
  | imgCountWrite (e : Fin 8) (m : Master) (n : BitVec 11)
  /-- IN_MAP_WRITE: A write of HDL_IN_MAPj changes input map entries from the next cut (R133) -/
  | inMapWrite (e : Fin 8) (m : Master) (j : Fin 464) (v : Word)
  /-- HOV_START: HDL_HOV_CTRL.START begins a mode hand-over or is refused (R238) -/
  | hovStart (e : Fin 8) (m : Master)
  /-- HOV_ABORT: HDL_HOV_CTRL.ABORT reverts the hand-over at the next commit (R241) -/
  | hovAbort (e : Fin 8) (m : Master)
  /-- RLY_START: HDL_RLYu_CTRL.START clears the relay unit and starts a measurement (R229) -/
  | rlyStart (e : Fin 8) (u : Fin 4) (m : Master)
  /-- RLY_STOP: HDL_RLYu_CTRL.STOP ends the measurement with STOPPED (R229) -/
  | rlyStop (e : Fin 8) (u : Fin 4) (m : Master)
  /-- CAP_ARM: CAP_CTRL.ARM arms the capture unit or is refused (R233) -/
  | capArm (m : Master)
  /-- CAP_STOP: CAP_CTRL.STOP ends a recording at the next t_out (R235) -/
  | capStop (m : Master)
  /-- CAP_RELEASE: CAP_RELEASE frees a full half of the continuous capture buffer (R234) -/
  | capRelease (m : Master) (halves : BitVec 2)
  /-- OOS_SET: A write of WVR_STRs_OOS_SET requests cell marks, applied at t_out or refused (R218) -/
  | oosSet (s : Fin 3) (m : Master) (v : Word)
  /-- OOS_CLR: A write of WVR_STRs_OOS_CLR requests the return of cells to service (R220) -/
  | oosClr (s : Fin 3) (m : Master) (v : Word)
  /-- BYPASS_COMMAND: The module sends the bypass close or open MGMT WRITE to a cell node (R219) -/
  | bypassCommand (s : Fin 3) (p : Fin 32)
  /-- BYPASS_TIMEOUT: A bypass not confirmed within WVR_BYP_TMO raises fault 0x040B (R219) -/
  | bypassTimeout (s : Fin 3) (p : Fin 32)
  /-- DRAFT_WRITE: A write to a Draft bank is refused with fault 0x0408 (R207) -/
  | draftWrite (m : Master) (addr : Word) (v : Word)
  /-- GRAFT_STATUS_SEND: Each module sends a STATUS frame at its boundary plus 1 us (R254) -/
  | graftStatusSend
  /-- GRAFT_STATUS_RECEIVE: A module receives a peer STATUS frame and updates delay, TB0 sample and peer state (R255) -/
  | graftStatusReceive (f : GraftStatus)
  /-- GRAFT_IMAGE_RECEIVE: A standby receives an IMAGE frame and validates it (R259) -/
  | graftImageReceive (img : Image)
  /-- GRAFT_MIRROR_SEND: The active module sends pending mirrored writes in a MIRROR frame (R260) -/
  | graftMirrorSend
  /-- GRAFT_MIRROR_RECEIVE: A standby applies the writes of a MIRROR frame (R260) -/
  | graftMirrorReceive (line : GraftLine) (mseq : Word) (writes : List (Word × Word))
  /-- GFT_RESYNC: GFT_CMD.RESYNC makes a standby request a resync (R261) -/
  | gftResync (m : Master)
  /-- GFT_HANDOFF: GFT_CMD.HANDOFF requests an explicit hand-off on the active module (R267) -/
  | gftHandoff (m : Master)
  /-- REVERT_HOLDOFF_EXPIRE: A preferred synchronized standby sets REVERT_REQ after HOLDOFF (R268) -/
  | revertHoldoffExpire
  /-- PEER_STATUS_TIMEOUT: No valid peer STATUS for 8 cycles raises fault 0x0502 (R254) -/
  | peerStatusTimeout
  /-- COLD_TAKEOVER: An unqualified standby with a silent peer and rings brings every ring up itself (R264) -/
  | coldTakeover
  /-- GRAFT_LANE_LOSS: A Graft lane loses block lock and traffic moves to the other lane (R251) -/
  | graftLaneLoss (lane : Fin 2)
  /-- START_WAIT_EXPIRE: A starting duplex module without peer STATUS takes control or becomes an unqualified standby (R269) -/
  | startWaitExpire
  /-- SAFE_INPUT_DEMAND: A safe input channel in PERMIT enters DEMAND (R280) -/
  | safeInputDemand (ch : Fin 8) (d : DemandRun)
  /-- BLK_REPEAT: BLK injection repeats every 1 us for 10 us and then once per cycle while SPB is latched (R287) -/
  | blkRepeat
  /-- SAFE_INPUT_PERMIT: A channel in DEMAND returns to PERMIT (R280) -/
  | safeInputPermit (ch : Fin 8)
  /-- TEST_PULSE: A test-pulse source turns off for TP_WID and opens the test windows of its channels (R282) -/
  | testPulse (x : TestSample)
  /-- TEST_WINDOW_END: At the end of a test window a missing return is judged and diagnosed (R282) -/
  | testWindowEnd (n : Fin 4) (sawLow : BitVec 8) (lowAtEnd : BitVec 8)
  /-- PAIR_DISCREPANCY: A pair disagreeing longer than DISC is latched in DEMAND with fault 0x0603 (R283) -/
  | pairDiscrepancy (i : Fin 4)
  /-- RESET_INPUT_ACK: The release of a RESET input high pulse gives a restart acknowledgement (R281) -/
  | resetInputAck (ch : Fin 8)
  /-- OUTPUT_TEST: A safe output dark pulse opens one of its switches (R285) -/
  | outputTest (o : Fin 2)
  /-- OUTPUT_TEST_END: At the end of a dark pulse the switch recloses or stays open and the test is evaluated or discarded (R286) -/
  | outputTestEnd (o : Fin 2) (fell : Bool)
  /-- OUTPUT_OVERLOAD: A safe output above 0.7 A for 100 us is turned off with fault 0x0608 (R284) -/
  | outputOverload (o : Fin 2)
  /-- SV24_OUT_OF_RANGE: SV24 outside its range for 1 ms makes a machine demand with fault 0x0609 (R284) -/
  | sv24OutOfRange
  /-- AR_DELAY_EXPIRE: AR_DELAY passes with no demanding source and SMT then SPB are released (R277) -/
  | arDelayExpire
  /-- SAFETY_PDU_RECEIVE: A safety core receives a copy of a safety PDU and acts on it (R294) -/
  | safetyPduReceive (p : SafetyPdu)
  /-- SAFETY_WIN_EXPIRE: WIN ends with one valid PERMIT copy, handled as a single-copy permit (R294) -/
  | safetyWinExpire
  /-- REMOTE_WATCHDOG_EXPIRE: WD passes without an accepted permit and the WD_ACT demand is made (R296) -/
  | remoteWatchdogExpire
  /-- DEGRADED_EXPIRE: The degraded timer reaches DEG_MAX and single-copy permits are no longer accepted (R295) -/
  | degradedExpire
  /-- SEAL_BANK_READ: Every 100 ms the cores read S1 and the Safety Edit switch and act on changes (R298) -/
  | sealBankRead (code : BitVec 16) (poleA : Bool) (poleB : Bool)
  /-- SAFETY_BLOCK_LOAD: The safety cores load and check the safety parameter block (R297) -/
  | safetyBlockLoad (block : SafetyBlock)
  /-- SELFTEST_DONE: The start-up self-test of the safety cores passes or fails (R276) -/
  | selftestDone (ok : Bool)
  /-- CORE_DISAGREE: SA and SB disagree on a demand for 2 ms and fault 0x060F is raised (R300) -/
  | coreDisagree
  /-- TPS_OVERLOAD: A test-pulse source above 150 mA for 1 ms is switched off with fault 0x0613 (R279) -/
  | tpsOverload (n : Fin 4)
  /-- TPS_RESTART: A switched-off test-pulse source is switched on again after 1 s (R279) -/
  | tpsRestart (n : Fin 4)
  /-- SAFETY_PARAM_DECIDED: Both safety cores decide on a replacement block and it is written or refused (R299) -/
  | safetyParamDecided (agree : Bool) (written : Bool)
  /-- FAULT_RAISE: The fault collector processes a raise, opening or merging a record and applying the class reaction (R305) -/
  | faultRaise (code : BitVec 16) (unit_ : Fin 32) (stamp : Time) (persists : Bool) (cap : Option Capture)
  /-- FAULT_CAUSE_END: The cause of a fault ends and its ACTIVE bit clears (R304) -/
  | faultCauseEnd (code : BitVec 16)
  /-- FLT_ACK: A write of FLT_ACK acknowledges a record (R307) -/
  | fltAck (m : Master) (n : Fin 64)
  /-- FLT_CLEAR: A write of FLT_CLEAR clears a Bough record or is refused (R308) -/
  | fltClear (m : Master) (n : Fin 64)
  /-- FLT_INJ: A write of FLT_INJ in factory test mode raises a code or poisons a word (R312) -/
  | fltInj (m : Master) (v : Word)
  /-- ECC_UNCORRECTABLE: An uncorrectable ECC error is found and its word is poisoned (R310) -/
  | eccUncorrectable (addr : Word) (finder : EccFinder)
  /-- ECC_RELOAD_DONE: A clean word with an uncorrectable error is reloaded from the seed card (R311) -/
  | eccReloadDone (addr : Word)
  /-- SCRUB_PASS: The ECC scrubber completes a pass over on-chip SRAM (R34) -/
  | scrubPass (x : ScrubCounts)
  /-- BUS_ERROR: An access that is not allowed ends in a bus error with first error capture (R7) -/
  | busError (master : Byte) (addr : Word) (access : BitVec 2) (width : BitVec 2)
  /-- JOURNAL_ENTRY: An entry reaches the journal unit, is cross-stamped and written to the on-chip ring (R316) -/
  | journalEntry (origin : BitVec 16) (type : Byte) (refused : Bool) (target : Word) (old : Word) (new : Word)
  /-- JOURNAL_COPY: The journal copier programmes entries into the seed journal region (R320) -/
  | journalCopy (ok : Option Bool)
  /-- JOURNAL_ERASE_DONE: A background erase of a journal block completes or fails (R320) -/
  | journalEraseDone (ok : Option Bool)
  /-- JOURNAL_RETRY: The copier retries the card every 1 s after fault 0x0B05 (R320) -/
  | journalRetry (responds : Bool)
  /-- JOURNAL_FLUSH_END: The mains-loss flush reaches 8 ms and a LOSS entry covers the rest (R321) -/
  | journalFlushEnd
  /-- JNL_NOTE: A write of JNL_NOTE_NEW submits a NOTE entry (R323) -/
  | jnlNote (m : Master) (v : Word)
  /-- COMPARATOR_RESOLVE: At the end of its settling window a comparator resolves (R328) -/
  | comparatorResolve (c : Fin 66) (inBand : Bool) (above : Bool)
  /-- COMPARATOR_CROSSING: A comparator input crosses its threshold and the output changes (R326) -/
  | comparatorCrossing (c : Fin 66) (above : Bool)
  /-- COMPARATOR_CALIBRATION: The calibrator swaps a comparator with the trimmed spare (R332) -/
  | comparatorCalibration (c : Fin 66) (agreed : Bool) (inRange : Bool)
  /-- CMP_CFG_WRITE: A write of CMP_Cc_CFG changes comparator settings or is refused (R327) -/
  | cmpCfgWrite (c : Fin 64) (m : Master) (v : Word)
  /-- CMP_THRESHOLD_WRITE: A write of CMP_Cc_THR or CMP_DACc changes the threshold within 1 us (R329) -/
  | cmpThresholdWrite (c : Fin 64) (m : Master) (dac : Bool) (v : Word)
  /-- CMP_LATCH_CLEAR: A write of 1 to CMP_LATCH clears a comparator latch (R330) -/
  | cmpLatchClear (m : Master) (cold : Bool) (v : Word)
  /-- ROUTER_EVENT: A router source asserts and the stamped event goes to its destinations (R334) -/
  | routerEvent (src : Fin 256)
  /-- EVR_UNMASK: A write of EVR_UNMASK unmasks a source and closes its window (R338) -/
  | evrUnmask (m : Master) (src : Fin 256)
  /-- SOURCE_STUCK: A source asserted for STUCK_T is stuck and fault 0x0802 is raised (R339) -/
  | sourceStuck (src : Fin 256)
  /-- EVR_GDIS_REL: A write of EVR_GDIS_REL releases a gate group held off by the router, or is refused (R335) -/
  | evrGdisRel (m : Master) (v : BitVec 4)
  /-- EVR_SWTRIG: A write of EVR_SWTRIG pulses software sources (R333) -/
  | evrSwtrig (m : Master) (hi : Bool) (v : Word)
  /-- SAP_SERVICE_MISSING: No Sap service for 100 us turns off the groups and resets the Sap engine (R345) -/
  | sapServiceMissing
  /-- SAP_GATE_COMMAND: The Sap engine commands a gate channel, subject to the precedence of R365 (R365) -/
  | sapGateCommand (ch : Fin 16) (on : Bool)
  /-- DEAD_TIME_END: A delayed on command takes effect at the end of the dead time (R355) -/
  | deadTimeEnd (ch : Fin 16)
  /-- HARD_CROSSING: A hard crossing starts the two-step turn-off of its group (R362) -/
  | hardCrossing (chans : BitVec 16)
  /-- SOFT_TURNOFF_END: After t_SOFT1 every channel of the tripped group sinks through GnL (R362) -/
  | softTurnoffEnd (g : Fin 4)
  /-- WARN_CROSSING: The first warn assertion in a PWM period raises fault 0x0701 (R361) -/
  | warnCrossing (ch : Fin 16)
  /-- BLANKING_END: Blanking after a turn-on ends and the warn comparator is unmasked (R360) -/
  | blankingEnd (ch : Fin 16)
  /-- GDR_REL: A write of GDR_REL releases a tripped group or is refused (R366) -/
  | gdrRel (m : Master) (v : BitVec 4)
  /-- GRP_EN_WRITE: A write of GDR_CTRL.GRP_EN enables or turns off gate groups, or is refused (R354) -/
  | grpEnWrite (m : Master) (v : BitVec 4)
  /-- RPTONLY_WRITE: A write of GDR_RPTONLY selects report-only groups or is refused, raising 0x0707 (R364) -/
  | rptonlyWrite (m : Master) (v : BitVec 4)
  /-- BOOTSTRAP_REFRESH: A high side refreshes its bootstrap after t_REFRESH (R356) -/
  | bootstrapRefresh (leg : Fin 8)
  /-- BOOTSTRAP_UV: A bootstrap falls below 8.5 V and its high side is forced off (R358) -/
  | bootstrapUv (leg : Fin 8)
  /-- BOOTSTRAP_RELEASE: A bootstrap reaches 10 V and its high side follows commands again (R358) -/
  | bootstrapRelease (leg : Fin 8)
  /-- VDRV_OUT_OF_RANGE: VDRV out of range for 5 us turns off every group with fault 0x0708 (R353) -/
  | vdrvOutOfRange
  /-- VDRV_RECOVERED: VDRV within range for 1 ms allows the groups to restart (R353) -/
  | vdrvRecovered
  /-- SENSE_TRIM: The sense-input offset of a channel is re-trimmed in an off interval (R359) -/
  | senseTrim (ch : Fin 16) (inRange : Bool)
  /-- SAP_START: A SAP_CMD START bit starts the PFC, a loop or a spare leg, or is refused (R370) -/
  | sapStart (m : Master) (stage : Fin 5)
  /-- SAP_STOP: A SAP_CMD STOP bit stops the named stage (R370) -/
  | sapStop (m : Master) (stage : Fin 5)
  /-- MAINS_LOSS: AH0 below the mains-loss level for 10 ms stops the PFC and raises fault 0x0C05 (R347) -/
  | mainsLoss
  /-- MAINS_RESTORED: Mains back within range for 1 s ends the cause of fault 0x0C05 (R425) -/
  | mainsRestored
  /-- INRUSH_CLOSE: The Sap engine closes the inrush bypass once the PFC bus has settled (R347) -/
  | inrushClose
  /-- LOOP_FAULT: A loop that cannot reach IREF within 100 ms is stopped with fault 0x0C07 (R348) -/
  | loopFault (x : Fin 2)
  /-- SAP_INPUT_ACTION: An event at a Sap input makes the Sap engine carry out its configured action (R350) -/
  | sapInputAction (i : Fin 8)
  /-- SAP_HEARTBEAT: The Sap engine pulses its heartbeat flag every 1 ms (R350) -/
  | sapHeartbeat
  /-- HOT_ADC_SAMPLE: The hot-side ADC samples its 16 inputs every 10 us (R368) -/
  | hotAdcSample (codes : List (BitVec 12))
  /-- ETH_FRAME_RECEIVE: A frame received on a line port is discarded, forwarded or delivered to the PRP node (R373) -/
  | ethFrameReceive (p : Fin 4) (f : EthFrame)
  /-- PRP_SUPERVISION_SEND: The PRP node sends supervision frames on both LANs every LIFE (R376) -/
  | prpSupervisionSend
  /-- LAN_SILENT: A LAN silent for SILENT seconds raises fault 0x0902 (R378) -/
  | lanSilent (lan : Fin 2)
  /-- ETH_LINK_DOWN: An enabled port with open relay loses link and fault 0x0901 is raised (R375) -/
  | ethLinkDown (p : Fin 4)
  /-- ETH_LINK_UP: A port's link returns (R375) -/
  | ethLinkUp (p : Fin 4) (gig : Bool)
  /-- RELAY_MOVE_DONE: An Ethernet bypass relay completes its change of state (R372) -/
  | relayMoveDone (pair : Fin 2)
  /-- RELAY_MISMATCH: A relay readback differing from its command for 20 ms raises fault 0x0905 (R372) -/
  | relayMismatch (pair : Fin 2)
  /-- BYP_CLOSE_WRITE: A write of ETH_CTRL.BYP_CLOSE commands a pair's relay (R372) -/
  | bypCloseWrite (m : Master) (v : BitVec 2)
  /-- PORT_EN_WRITE: A write of ETH_CTRL.PORT_EN powers a port's PHY up or down (R375) -/
  | portEnWrite (m : Master) (v : BitVec 4)
  /-- PDELAY_REQ_SEND: Each enabled line port sends Pdelay_Req every 1 s (R384) -/
  | pdelayReqSend (p : Fin 4)
  /-- PDELAY_RESP_RECEIVE: A Pdelay_Resp updates the port's link delay (R384) -/
  | pdelayRespReceive (p : Fin 4) (msg : PtpMsg) (delay : Time)
  /-- PDELAY_REQ_RECEIVE: A line port answers a neighbour's Pdelay_Req as a one-step responder (R384) -/
  | pdelayReqReceive (p : Fin 4) (msg : PtpMsg) (turnaround : Time)
  /-- PTP_SYNC_RECEIVE: A Sync is received, forwarded with corrected residence and used as a TB2 sample (R382) -/
  | ptpSyncReceive (p : Fin 4) (msg : PtpMsg) (egress : Time)
  /-- PTP_FOLLOW_UP_RECEIVE: A Follow_Up completes a two-step Sync sample (R382) -/
  | ptpFollowUpReceive (p : Fin 4) (msg : PtpMsg)
  /-- FOLLOW_UP_TIMEOUT: A two-step Sync without Follow_Up within one interval is discarded (R382) -/
  | followUpTimeout (lan : Fin 2)
  /-- PTP_ANNOUNCE_RECEIVE: An Announce is compared and qualifies or selects a master (R382) -/
  | ptpAnnounceReceive (p : Fin 4) (msg : PtpMsg) (d : AnnounceData)
  /-- ANNOUNCE_TIMEOUT: Announce receipt times out on a port after 3 intervals (R381) -/
  | announceTimeout (lan : Fin 2)
  /-- ARP_REQUEST: An ARP request for ETH_IP is answered (R379) -/
  | arpRequest (p : Fin 4) (ip : Word) (asker : BitVec 48)
  /-- ICMP_ECHO: An ICMP echo request is answered within the rate limit (R379) -/
  | icmpEcho (p : Fin 4) (data : List Byte)
  /-- OPEN: Management OPEN opens a session or is refused (R386) -/
  | openSession (port : Fin 4) (role : Fin 5) (key : Fin 4) (flags : Byte) (nonce : BitVec 128) (tagOk : Bool)
  /-- CLOSE: Management CLOSE closes the session after the reply (R388) -/
  | closeSession (h : MgmtHdr)
  /-- KEEPALIVE: Management KEEPALIVE keeps a session open (R388) -/
  | keepalive (h : MgmtHdr)
  /-- SUBSCRIBE: Management SUBSCRIBE turns fault notifications on or off (R388) -/
  | subscribe (h : MgmtHdr) (on : Bool)
  /-- MGMT_READ: Management READ returns words of the Crown view subject to role (R389) -/
  | mgmtRead (h : MgmtHdr) (addr : Word) (n : Nat)
  /-- MGMT_WRITE: Management WRITE writes words in rising address order, stopping at the first failure (R390) -/
  | mgmtWrite (h : MgmtHdr) (addr : Word) (words : List Word)
  /-- JOURNAL_READ: Management JOURNAL_READ returns on-chip entries or a seed journal page (R388) -/
  | journalRead (h : MgmtHdr) (src : Byte) (first : Word) (n : Nat)
  /-- CAPTURE_READ: Management CAPTURE_READ returns capture status and buffer words (R388) -/
  | captureRead (h : MgmtHdr) (word : Word) (n : Nat)
  /-- CMD_START: Management CMD 0x0001 requests an Operator start (R424) -/
  | cmdStart (h : MgmtHdr)
  /-- CMD_STOP: Management CMD 0x0002 requests an Operator stop (R424) -/
  | cmdStop (h : MgmtHdr)
  /-- HOSTMSG: Management HOSTMSG places a message in the firmware queue (R388) -/
  | hostmsg (h : MgmtHdr) (bytes : List Byte)
  /-- SAFETY_PARAM: Management SAFETY_PARAM passes a replacement safety block to both cores (R299) -/
  | safetyParam (h : MgmtHdr) (block : SafetyBlock)
  /-- SEED_BEGIN: Management SEED_BEGIN starts a seed update (R426) -/
  | seedBegin (h : MgmtHdr) (section_ : BitVec 16) (total : Nat)
  /-- SEED_DATA: Management SEED_DATA programmes contiguous image bytes (R426) -/
  | seedData (h : MgmtHdr) (off : Nat) (bytes : List Byte)
  /-- SEED_COMMIT: Management SEED_COMMIT starts verification of the written bank (R426) -/
  | seedCommit (h : MgmtHdr)
  /-- SEED_COMMIT_DONE: Verification completes and PENDING is written and role keys installed, or the update fails (R426) -/
  | seedCommitDone (bank : BankHeader) (keysOk : Bool) (newKeys : BitVec 20) (changed : BitVec 20)
  /-- SEED_ABORT: Management SEED_ABORT abandons the update (R426) -/
  | seedAbort (h : MgmtHdr)
  /-- SESSION_IDLE_TIMEOUT: A session without an accepted request for IDLE seconds closes (R387) -/
  | sessionIdleTimeout (n : Fin 128)
  /-- NOTIFY: A subscribed session is sent a NOTIFY for a record opening or class rise (R392) -/
  | notify (n : Fin 128) (rec : Fin 64)
  /-- ETH_ISLAND_RESTART: A restart of the Ethernet island returns it to stage 0 and closes every session (R380) -/
  | ethIslandRestart
  /-- CAN_FRAME_RECEIVE: A CAN frame ends and is filtered into a queue or rejected (R400) -/
  | canFrameReceive (c : Fin 2) (f : CanFrame)
  /-- TIME_SYNC_MESSAGE: A SYNC time message is stamped for TB3 discipline (R407) -/
  | timeSyncMessage (c : Fin 2) (f : CanFrame)
  /-- TIME_FUP_MESSAGE: A FUP time message is matched and yields a TB3 sample, or is rejected (R407) -/
  | timeFupMessage (c : Fin 2) (f : CanFrame)
  /-- CAN_TXREQ: A write of CAN_TXREQ submits transmit buffers (R402) -/
  | canTxreq (c : Fin 2) (m : Master) (v : Word)
  /-- CAN_TX_BUFFER_WRITE: A write to a transmit buffer loads it or is refused while pending (R402) -/
  | canTxBufferWrite (c : Fin 2) (m : Master) (b : Fin 32) (w : Fin 24) (v : Word)
  /-- CAN_TXCANCEL: A write of CAN_TXCANCEL cancels a buffer or defers the cancel (R405) -/
  | canTxcancel (c : Fin 2) (m : Master) (v : Word)
  /-- CAN_TX_ELIGIBLE: A pending timed buffer becomes eligible at TIME (R404) -/
  | canTxEligible (c : Fin 2) (b : Fin 32)
  /-- CAN_TX_LATE: A buffer whose window ends without an attempt becomes LATE (R404) -/
  | canTxLate (c : Fin 2) (b : Fin 32)
  /-- CAN_TX_SUCCESS: A transmit attempt completes and the buffer becomes SENT (R403) -/
  | canTxSuccess (c : Fin 2) (b : Fin 32) (sof : Time)
  /-- CAN_TX_LOST: A transmit attempt loses arbitration or errs and the buffer stays pending (R403) -/
  | canTxLost (c : Fin 2) (b : Fin 32) (error : Bool)
  /-- CAN_ERROR_PASSIVE: The controller becomes error-passive and fault 0x0A01 is raised (R406) -/
  | canErrorPassive (c : Fin 2) (tec : BitVec 9) (rec : BitVec 8)
  /-- CAN_BUS_OFF: TEC passes 255 and the controller goes bus-off (R406) -/
  | canBusOff (c : Fin 2) (tec : BitVec 9)
  /-- CAN_RECOVER: A write of CAN_CTRL.RECOVER starts bus-off recovery (R406) -/
  | canRecover (c : Fin 2) (m : Master)
  /-- CAN_RECOVERY_DONE: Bus-off recovery completes after 128 idle sequences (R406) -/
  | canRecoveryDone (c : Fin 2)
  /-- CAN_RXQ_REL: A write of CAN_RXQq_REL releases the oldest messages of a queue (R401) -/
  | canRxqRel (c : Fin 2) (q : Fin 2) (m : Master) (n : BitVec 7)
  /-- CAN_MODE_WRITE: A write of CAN_CTRL.MODE changes mode at the next bus idle (R398) -/
  | canModeWrite (c : Fin 2) (m : Master) (mode : BitVec 2)
  /-- CAN_INTEGRATED: After 11 recessive bits the controller has integrated into the bus (R398) -/
  | canIntegrated (c : Fin 2)
  /-- CAN_TXD_TIMEOUT: TXD dominant for 4 ms switches the driver off with fault 0x0A07 (R397) -/
  | canTxdTimeout (c : Fin 2)
  /-- POWER_ON: Mains is applied and start-up begins in the safe start-up state (R419) -/
  | powerOn (scan : CardScan)
  /-- SEED_SECTION_APPLY: A seed image section is re-read, hashed and applied (R420) -/
  | seedSectionApply (hashOk : Bool) (data : SectionData)
  /-- END_OF_BOOT: Role keys are decrypted, BOOT_DONE set, RWL fields locked and key slots revoked (R419) -/
  | endOfBoot (keysOk : Bool)
  /-- SEED_CARD_REMOVED: The seed card is removed in service and fault 0x0B0A is raised (R427) -/
  | seedCardRemoved
  /-- SEED_CARD_INSERTED: A card is inserted again and used only if its unique ID matches (R427) -/
  | seedCardInserted (uniqueId : BitVec 64)
  /-- RUN_CMD_START: SED_RUN_CMD.START moves RUN from ready to running or is refused (R424) -/
  | runCmdStart (m : Master)
  /-- RUN_CMD_STOP: SED_RUN_CMD.STOP moves RUN from running to stopping (R424) -/
  | runCmdStop (m : Master)
  /-- CROWN_WATCHDOG_EXPIRE: The Crown watchdog expires and fault 0x0D09 is raised (R313) -/
  | crownWatchdogExpire (core : Fin 2)
  /-- POWER_LOSS: The supplies fall and every output takes its unpowered state (R98) -/
  | powerLoss
  /-- THERMAL_SAMPLE: The 16 temperature sensors are sampled and T_max is formed (R430) -/
  | thermalSample (readings : List (Option (BitVec 16)))
  /-- THROTTLE_INTERVAL: At the end of a 2 s interval THROTTLE rises, falls or holds (R433) -/
  | throttleInterval
  /-- THERMAL_COOLED: T_max below 105 °C for 10 s meets the restart condition (R435) -/
  | thermalCooled
  /-- RAIL_SAMPLE: The internal rails are checked and out-of-regulation rails raise 0x0C06 or hold islands in reset (R438) -/
  | railSample (in5 : BitVec 7) (in10 : BitVec 7)
  /-- REGISTER_WRITE: A write to a register field without a row of its own takes effect by its access type (R11) -/
  | registerWrite (m : Master) (addr : Word) (width : BitVec 2) (v : Word)
  /-- REGISTER_READ: A firmware read of a register with read behaviour clears its RC fields, or captures _HI on a read of _LO (R12) -/
  | registerRead (m : Master) (addr : Word) (width : BitVec 2)
  /-- GRAFT_LANE_LOCK: A Graft lane regains block lock and frames are striped over both lanes again (R251) -/
  | graftLaneLock (lane : Fin 2)
  /-- NODE_BLOCK_LOCK_GAIN: A node port gains block lock, ONE_DIR clears once both ports lock, and the 1 ms count toward ending the turned copies starts (R113) -/
  | nodeBlockLockGain (r : Fin 4) (p : Fin 64) (port : Fin 2)
  /-- MASTER_LOST_AGREEMENT: A node that has held MASTER_LOST for 20 ms, with HELLO frames with MASTER_LOST seen on both ports, reaches master-lost agreement (R117) -/
  | masterLostAgreement (r : Fin 4) (p : Fin 64)
  /-- SV24_RESTORED: SV24 comes back within 19.2 to 30 V and the SV24 machine demand ends (R276) -/
  | sv24Restored
  /-- TPS_RECOVERED: A restarted test-pulse source has run for 1 s without overload and the cause of fault 0x0613 ends (R279) -/
  | tpsRecovered (n : Fin 4)
  /-- OUTPUT_RETURN_TIMEOUT: A safe output that has not read back on within 100 us after its dark pulse raises fault 0x0608 and makes a one-shot demand of SPB and SMT (R285) -/
  | outputReturnTimeout (o : Fin 2)
  /-- SCRUB_PASS_OVERDUE: A scrub pass not complete within 2 s raises fault 0x0D0B (R313) -/
  | scrubPassOverdue
  /-- CROWN_LOCKSTEP_MISMATCH: A Crown lockstep pair disagrees and the Bough fault 0x0D08 is raised (R313) -/
  | crownLockstepMismatch (core : Fin 2)
  /-- FABRIC_HANDSHAKE_TIMEOUT: A fabric handshake times out and the Bough fault 0x0D0A is raised (R313) -/
  | fabricHandshakeTimeout
  /-- FACTORY_JUMPER_FITTED: A jumper fitted at X22 outside the factory state raises fault 0x0B09 and sets SED_FACTORY.JUMPER (R423) -/
  | factoryJumperFitted
  /-- CAN_TXD_RECESSIVE: TXD becomes recessive again after a dominant timeout, the driver is switched back on and the cause of fault 0x0A07 ends (R397) -/
  | canTxdRecessive (c : Fin 2)
  /-- SAP_BOOT_DONE: The Sap engine finishes booting after a reset and reports STATE = running again (R345) -/
  | sapBootDone
  /-- SWITCH_READY: The Ethernet switch becomes ready, the relays open and the network enters stage 1 (R380) -/
  | switchReady
  deriving DecidableEq, Repr

end Sys2Proof
end

