-- ==== Sys2Proof/Decode.lean ====
section
/-! DEFINITION. The command that a word spells. The table gives no row any bits: commands reach the block as accesses, pins,
timers and frames, and none has an encoding, so no word spells one. -/

namespace Sys2Proof

/-- The command spelled by the lowest `nbits` bits of a word, by the bits of spec/opcode_table.json. -/
def decodeTableWord (_nbits _w : Nat) : Option Instr := none

end Sys2Proof
end

