-- ==== Sys2Proof/Machine/Bits.lean ====
section
/-! DEFINITION. Fields of words, signed values, saturation and byte order, as plain arithmetic: a field is read as a
natural number, a signed value as an integer, and a word is formed again at the end. -/

namespace Sys2Proof

/-- Bits `hi` down to `lo` of a natural number, as a number. -/
def nfld (n hi lo : Nat) : Nat := n / 2 ^ lo % 2 ^ (hi + 1 - lo)

/-- Bits `hi` down to `lo` of a word, as a number. -/
def fld (w : Word) (hi lo : Nat) : Nat := nfld w.toNat hi lo

/-- Bit `i` of a natural number. -/
def nbit (n i : Nat) : Bool := decide (n / 2 ^ i % 2 = 1)

/-- Bit `i` of a word. -/
def bit (w : Word) (i : Nat) : Bool := nbit w.toNat i

/-- 1 for true, 0 for false. -/
def b2n (b : Bool) : Nat := if b then 1 else 0

/-- The number with bits `hi` down to `lo` replaced by `v`. -/
def nput (n hi lo v : Nat) : Nat :=
  n - nfld n hi lo * 2 ^ lo + v % 2 ^ (hi + 1 - lo) * 2 ^ lo

/-- The word with bits `hi` down to `lo` replaced by `v`. -/
def putFld (w : Word) (hi lo v : Nat) : Word := BitVec.ofNat 32 (nput w.toNat hi lo v)

/-- The word with bit `i` replaced. -/
def putBit (w : Word) (i : Nat) (b : Bool) : Word := putFld w i i (b2n b)

/-- The `n`-bit number `x` read as two's complement. -/
def sext (n x : Nat) : Int := if x % 2 ^ n < 2 ^ (n - 1) then ((x % 2 ^ n : Nat) : Int) else ((x % 2 ^ n : Nat) : Int) - ((2 ^ n : Nat) : Int)

/-- A bit vector with bit `i` replaced. -/
def bvPut {w : Nat} (x : BitVec w) (i : Nat) (b : Bool) : BitVec w := BitVec.ofNat w (nput x.toNat i i (b2n b))

/-- An integer as an `n`-bit two's-complement number. -/
def toU (n : Nat) (x : Int) : Nat := (x % ((2 ^ n : Nat) : Int)).toNat

/-- An integer as a register word. -/
def wordOfInt (x : Int) : Word := BitVec.ofNat 32 (toU 32 x)

/-- A natural number as a register word. -/
def w32 (n : Nat) : Word := BitVec.ofNat 32 n

/-- An integer clamped to a range. -/
def clampI (lo hi x : Int) : Int := if x < lo then lo else if hi < x then hi else x

/-- A count plus an increment, held at its greatest value. -/
def satAdd (max n d : Nat) : Nat := if max < n + d then max else n + d

/-- Floor of `a / b` for a positive `b`. -/
def floorDiv (a : Int) (b : Nat) : Int := a / (b : Int)

/-- `a / b` rounded to nearest, a tie away from zero; 0 for `b` of 0. -/
def roundDiv (a : Int) (b : Nat) : Int :=
  if b = 0 then 0 else
  let q := (2 * a.natAbs + b) / (2 * b)
  if a < 0 then - (q : Int) else (q : Int)

/-- Low word of a 64-bit number. -/
def lo32 (n : Nat) : Word := BitVec.ofNat 32 (n % 2 ^ 32)

/-- High word of a 64-bit number. -/
def hi32 (n : Nat) : Word := BitVec.ofNat 32 (n / 2 ^ 32 % 2 ^ 32)

/-- The 64-bit number of a low and a high word. -/
def join64 (lo hi : Word) : Nat := lo.toNat + hi.toNat * 2 ^ 32

/-- The bit set whose only member is `i`. -/
def one (i : Nat) : Word := BitVec.ofNat 32 (2 ^ i)

/-- Number of set bits among the lowest `n` of a number. -/
def popcount : Nat → Nat → Nat
  | 0, _ => 0
  | n + 1, x => x % 2 + popcount n (x / 2)

/-- The positions of the set bits among bits `i` to `i + n - 1` of a number. -/
def setBitsFrom (x i : Nat) : Nat → List Nat
  | 0 => []
  | n + 1 => if nbit x i then i :: setBitsFrom x (i + 1) n else setBitsFrom x (i + 1) n

/-- The positions of the set bits of a number below `2 ^ n`. -/
def setBits (x n : Nat) : List Nat := setBitsFrom x 0 n

/-- Bytes, least significant first (R7: little-endian), as a number. -/
def leNat : List Byte → Nat
  | [] => 0
  | b :: bs => b.toNat + 256 * leNat bs

/-- A number as `n` bytes, least significant first. -/
def natLe : Nat → Nat → List Byte
  | 0, _ => []
  | n + 1, x => BitVec.ofNat 8 x :: natLe n (x / 256)

/-- Bytes, most significant first, as a number. -/
def beNat (bs : List Byte) : Nat := leNat bs.reverse

/-- A number as `n` bytes, most significant first. -/
def natBe (n x : Nat) : List Byte := (natLe n x).reverse

/-- Element `i` of a list, or a default. -/
def nth {α : Type} (l : List α) (i : Nat) (d : α) : α := l.getD i d

/-- The list with element `i` replaced (unchanged where it has none). -/
def setNth {α : Type} : List α → Nat → α → List α
  | [], _, _ => []
  | _ :: xs, 0, v => v :: xs
  | x :: xs, i + 1, v => x :: setNth xs i v

/-- The numbers `lo`, `lo + 1`, … of which there are `n`. -/
def upTo (lo : Nat) : Nat → List Nat
  | 0 => []
  | n + 1 => lo :: upTo (lo + 1) n

/-- One step of a bitwise CRC over a reflected 32-bit register. -/
def crcBit (poly x : Nat) : Nat := if x % 2 = 1 then Nat.xor (x / 2) poly else x / 2

/-- `n` steps of it. -/
def crcBits (poly : Nat) : Nat → Nat → Nat
  | 0, x => x
  | n + 1, x => crcBits poly n (crcBit poly x)

/-- A reflected CRC register after a list of bytes. -/
def crcBytes (poly : Nat) : List Byte → Nat → Nat
  | [], x => x
  | b :: bs, x => crcBytes poly bs (crcBits poly 8 (Nat.xor x b.toNat))

/-- CRC-32C: polynomial 0x1EDC_6F41 reflected, initial value and final exclusive-or all ones. -/
def crc32c (bs : List Byte) : Nat := Nat.xor (crcBytes 0x82F63B78 bs 0xFFFFFFFF) 0xFFFFFFFF

/-- Bits set in `a` and clear in `b`. -/
def andNot (a b : Nat) : Nat := a - Nat.land a b

end Sys2Proof
end

