-- ==== Sys2Proof/Machine/Line.lean ====
section
/-! DEFINITION. The line coding of Warp frames: block types, frames as blocks and bytes, their check words, and what makes a frame
valid at its receiver (R67 to R73, R77). -/

namespace Sys2Proof

/-! ## Blocks (R67) -/

/-- The type byte of a control block. -/
def blockType (b : BitVec 64) : Nat := b.toNat % 256

/-- The bytes 1 to 7 of a control block as a number. -/
def blockRest (b : BitVec 64) : Nat := b.toNat / 256

/-- The bytes 1 to 7 of a BLK block. -/
def blkRest : Nat := leNat [0x5A, 0xC3, 0x96, 0x3C, 0xA5, 0x69, 0xF0]

/-- A block of eight bytes, the first in its lowest bits. -/
def blockOf (bs : List Byte) : BitVec 64 := BitVec.ofNat 64 (leNat bs)

/-- IDLE. -/
def idleBlock : BitVec 64 := blockOf [0x1E]

/-- RESUME. -/
def resumeBlock : BitVec 64 := blockOf [0x66]

/-- BLK, the safe-block symbol. -/
def blkBlock : BitVec 64 := BitVec.ofNat 64 (0x4B + 256 * blkRest)

/-- SOF of a frame type: the type and its complement. -/
def sofBlock (type : Byte) : BitVec 64 := blockOf [0x33, type, ~~~type]

/-- EOF: end status and FCRC. -/
def eofBlock (stomp : Bool) (fcrc : Word) : BitVec 64 := blockOf ([0x87, BitVec.ofNat 8 (b2n stomp), 0, 0] ++ natLe 4 fcrc.toNat)

/-- A block is recognised as BLK by its type byte or by its other seven bytes (R79). -/
def isBlk (b : BitVec 64) : Bool := blockType b == 0x4B || blockRest b == blkRest

/-- A control block that is invalid (R68): of a type that the link does not use, or an SOF whose bytes 1 and 2 are no complements. -/
def blockBad (b : BitVec 64) : Bool :=
  if blockType b = 0x33 then nfld b.toNat 15 8 + nfld b.toNat 23 16 != 255
  else !([0x1E, 0x87, 0x66, 0x4B].contains (blockType b))

/-! ## The header (R70) -/

/-- DIR, the other values standing for a direction that is not valid. -/
def dirBits (h : FrameHdr) : Nat :=
  match h.dir, h.dirOk with
  | .cw, true => 1
  | .ccw, true => 2
  | .cw, false => 0
  | .ccw, false => 3

/-- Bytes 0 to 19 of the header. -/
def headerBytes (h : FrameHdr) : List Byte :=
  [BitVec.ofNat 8 (h.dst.toNat + 64 * dirBits h), BitVec.ofNat 8 (h.src.toNat + 64 * h.ring.toNat), BitVec.ofNat 8 h.hops.toNat,
    BitVec.ofNat 8 (b2n h.timed)]
  ++ natLe 2 h.seq.toNat ++ natLe 2 h.mandate.toNat ++ natLe 8 h.corr.toNat ++ natLe 2 h.len.toNat ++ [0, 0]

/-- HCRC of a header (R72). -/
def hcrcOf (h : FrameHdr) : Word := BitVec.ofNat 32 (crc32c (headerBytes h))

/-- The HCRC received is right. -/
def FrameHdr.hcrcOk (h : FrameHdr) : Bool := h.hcrc == hcrcOf h

/-- A header that a hop has changed (R73): HCRC is formed again where it was right. -/
def reHcrc (old new : FrameHdr) : FrameHdr := { new with hcrc := if old.hcrcOk then hcrcOf new else old.hcrc }

/-! ## Bodies -/

/-- An entry (R191). -/
def entryBytes (e : Entry) : List Byte := natLe 8 e.time.toNat ++ natLe 8 e.ctrl.toNat

/-- A section (R84). -/
def sectionBytes (x : Section) : List Byte :=
  [BitVec.ofNat 8 x.node.toNat, BitVec.ofNat 8 x.offset] ++ natLe 2 x.entries.length ++ natLe 4 0 ++ x.entries.flatMap entryBytes

/-- Bytes padded with zeros to a multiple of 8 (R91). -/
def pad8 (l : List Byte) : List Byte := l ++ List.replicate ((8 - l.length % 8) % 8) 0

/-- Words as bytes. -/
def wordBytes (l : List Word) : List Byte := l.flatMap (fun w => natLe 4 w.toNat)

/-- The body of a frame (R84, R87, R90, R91, R94). -/
def frameBody : WarpFrame → List Byte
  | .cycle f => natLe 8 f.b2.toNat ++ natLe 8 f.safe.toNat ++ natLe 4 f.tcyc.toNat ++ natLe 2 f.sections.length ++ [f.cflags, 0]
      ++ f.sections.flatMap sectionBytes
  | .collect f => natLe 8 f.bk.toNat ++ f.records.flatMap wordBytes
  | .sync f => natLe 8 f.origin.toNat ++ natLe 8 f.path.toNat
  | .mgmt f => [f.op, f.status, f.npad, 0] ++ natLe 2 f.req.length ++ natLe 2 f.rpl.length ++ pad8 (wordBytes f.req)
      ++ List.replicate (8 * f.npad.toNat) 0 ++ pad8 (wordBytes f.rpl)
  | .hello f => natLe 4 f.nodeId.toNat ++ natLe 8 f.serial.toNat ++ [f.hstate, 0] ++ natLe 2 f.mandHi.toNat
  | .unknown _ _ body => body
  | .block _ _ => []

/-- The frame type in the SOF (R74). -/
def frameType : WarpFrame → Byte
  | .cycle _ => 0x01
  | .collect _ => 0x02
  | .sync _ => 0x03
  | .mgmt _ => 0x04
  | .hello _ => 0x05
  | .unknown type _ _ => type
  | .block _ _ => 0

/-- The header of a frame. -/
def frameHdr : WarpFrame → Option FrameHdr
  | .cycle f => some f.hdr
  | .collect f => some f.hdr
  | .sync f => some f.hdr
  | .mgmt f => some f.hdr
  | .hello f => some f.hdr
  | .unknown _ h _ => some h
  | .block _ _ => none

/-- The frame with its header changed. -/
def mapHdr (k : FrameHdr → FrameHdr) : WarpFrame → WarpFrame
  | .cycle f => .cycle { f with hdr := k f.hdr }
  | .collect f => .collect { f with hdr := k f.hdr }
  | .sync f => .sync { f with hdr := k f.hdr }
  | .mgmt f => .mgmt { f with hdr := k f.hdr }
  | .hello f => .hello { f with hdr := k f.hdr }
  | .unknown t h b => .unknown t (k h) b
  | .block c b => .block c b

/-- FCRC of a frame (R72). -/
def fcrcOf (f : WarpFrame) : Word := BitVec.ofNat 32 (crc32c (frameBody f))

/-- The number of blocks from SOF to EOF (R69): SOF, three header blocks, the body and EOF. -/
def blockCount (f : WarpFrame) : Nat := 5 + ((frameBody f).length + 7) / 8

/-- Bytes as data blocks. -/
def dataBlocks (l : List Byte) : List (Bool × BitVec 64) :=
  (List.range ((l.length + 7) / 8)).map (fun i => (false, blockOf ((l.drop (8 * i)).take 8)))

/-- A frame as it stands on the line (R69, R70): its blocks, true for a control block. -/
def frameBlocks (f : WarpFrame) : List (Bool × BitVec 64) :=
  match frameHdr f with
  | some h => (true, sofBlock (frameType f)) :: dataBlocks (headerBytes h ++ natLe 4 h.hcrc.toNat) ++ dataBlocks (frameBody f)
      ++ [(true, eofBlock h.stomp h.fcrc)]
  | none => []

/-- A frame as its originator or the node that changed its body sends it: LEN, FCRC and HCRC are formed (R69, R72, R73). -/
def formed (f : WarpFrame) : WarpFrame :=
  mapHdr (fun h => { h with len := BitVec.ofNat 16 (blockCount f), fcrc := fcrcOf f,
                            hcrc := hcrcOf { h with len := BitVec.ofNat 16 (blockCount f) } }) f

/-! ## Validity (R73) -/

/-- COLLECT, the one frame that pre-empts (R77). -/
def isCollect : WarpFrame → Bool
  | .collect _ => true
  | _ => false

/-- How far a pre-emption has come at a receiver: none yet, one open, one ended. -/
inductive Preempt where
  | none
  | inside
  | ended
  deriving DecidableEq, Repr

/-- What stood between SOF and EOF leaves the frame valid (R68, R73 conditions 1 and 2, R77): only BLK blocks, and a frame other than
COLLECT pre-empted once by a COLLECT frame that a RESUME follows. -/
def lineItemsOk (collect : Bool) : Preempt → List LineItem → Bool
  | p, [] => p != .inside
  | p, .blk :: l => lineItemsOk collect p l
  | .none, .collect :: l => !collect && lineItemsOk collect .inside l
  | .inside, .resume :: l => lineItemsOk collect .ended l
  | _, _ => false

/-- Conditions 1 and 2 of R73. -/
def lineOk (f : WarpFrame) (h : FrameHdr) : Bool := lineItemsOk (isCollect f) .none h.line

/-- A valid frame at its receiver (R73). -/
def frameValid (f : WarpFrame) : Bool :=
  match frameHdr f with
  | some h => lineOk f h && h.len.toNat == blockCount f && h.dirOk && h.hcrcOk && h.fcrc == fcrcOf f && !h.stomp
  | none => false

end Sys2Proof
end

