-- ==== Sys2Proof/Config.lean ====
section
/-! DEFINITION. What a part holds from the factory, and the values the spec leaves open. Every constant here is opaque:
nothing can be proved of its value, so a claim holds whatever it is. -/

namespace Sys2Proof.Config

/-- Factory calibration cm of the main oscillator (R46, R62), coefficient `m`. (DESIGN CHOICE: log entry 3) -/
opaque compCoef : Nat → Word

/-- Factory MAC address of the module (ETH_MAC_LO). (DESIGN CHOICE: log entry 3) -/
opaque macLo : Word

/-- Factory MAC address of the module (ETH_MAC_HI). (DESIGN CHOICE: log entry 3) -/
opaque macHi : Word

/-- Factory device serial (R429), low word. (DESIGN CHOICE: log entry 3) -/
opaque serialLo : Word

/-- Factory device serial (R429), high word. (DESIGN CHOICE: log entry 3) -/
opaque serialHi : Word

/-- Factory device public key (R429), word `w`. (DESIGN CHOICE: log entry 3) -/
opaque pubKey : Nat → Word

/-- The content of the boot ROM (R36: 64 KiB), byte at offset `a`. The spec does not give it.
(DESIGN CHOICE: log entry 3) -/
opaque bootRom : Nat → Byte

/-- The first 16 bits of the key hash and the USED and REVOKED marks of OTP key slot `s` as the part is delivered (R417,
R428). (DESIGN CHOICE: log entry 3) -/
opaque keySlot : Nat → Word

/-- Firmware revisions of the safety cores (SAF_FW_ID, R301). (DESIGN CHOICE: log entry 3) -/
opaque safetyFwId : Word

/-- The `n`-th free word: a value the spec leaves undefined where a register or memory word is read or written.
(DESIGN CHOICE: log entry 7) -/
opaque freeWord : Nat → Word

/-- The `n`-th free small offset, for results that the spec bounds but does not fix (R172, R173, R176): a number of least
significant bits that the model clamps to the bound the spec states. (DESIGN CHOICE: log entry 7) -/
opaque freeErr : Nat → Int

/-- The result of a pick on operands for which the spec states none: opcode, and the operand words.
(DESIGN CHOICE: log entry 7) -/
opaque freePick : Nat → List Int → Int

/-- What KU (`false`) and PHI (`true`) report where the spec states no quotient (R230): a measured amplitude of 0 with a height, or a
hysteresis, of 0. (DESIGN CHOICE: log entry 7) -/
opaque relayOpen : Bool → Word

/-- The delay of link `i` of ring `r` in 2^-16 ns, given the ring's measured delay (R110).
(DESIGN CHOICE: log entries 7 and 27) -/
opaque linkDelay : Nat → Nat → Int → Nat

/-- CONFIG_ID (R256): the CRC over the ring maps and settings named there, whose byte layout the spec does not give. The
arguments are the four maps, and T_cyc with the settings of the engines. (DESIGN CHOICE: log entries 7 and 36) -/
opaque configId : List RingMap → List Nat → Word


/-- The interpolator's reading of a stamp (R57), in steps of 10 ps: how far base `n` has come past its count. The argument after
the base is the count, of 80 bits. (DESIGN CHOICE: log entry 7; DEDUCED: log entry 16) -/
opaque interp : Nat → Nat → Nat

/-- Where the buffers lie that R37 puts into the Warp (0), Graft (1) and Ethernet (2) windows: their offset from the window's base, which
the spec does not give. (DESIGN CHOICE: log entry 10) -/
opaque bufOffset : Nat → Nat

/-- A session's 128-bit nonce (R386), the `n`-th. (DESIGN CHOICE: log entry 7) -/
opaque freeNonce : Nat → BitVec 128

end Sys2Proof.Config
end

