-- ==== Sys2Proof/Machine/Regs.lean ====
section
/-! DEFINITION. The register map: the Crown address of every register under its own name (an index of the register is
an argument), and the table of what each register's bits are (R11) and what it holds at reset (R8). -/

namespace Sys2Proof

/-! ## Addresses -/

/-! ### TIM (02_time_bases.md) -/

/-- TIM_CTRL (R62). -/
abbrev TIM_CTRL : Nat := 0x31000000
/-- TIM_STATUS (R62). -/
abbrev TIM_STATUS : Nat := 0x31000004
/-- TIM_CYCLE_CFG (R62). -/
abbrev TIM_CYCLE_CFG : Nat := 0x31000010
/-- TIM_T_IN (R62). -/
abbrev TIM_T_IN : Nat := 0x31000014
/-- TIM_T_OUT (R62). -/
abbrev TIM_T_OUT : Nat := 0x31000018
/-- TIM_GRID_ORIGIN_LO (R62). -/
abbrev TIM_GRID_ORIGIN_LO : Nat := 0x31000020
/-- TIM_GRID_ORIGIN_HI (R62). -/
abbrev TIM_GRID_ORIGIN_HI : Nat := 0x31000024
/-- TIM_CYCLE_NUM (R62). -/
abbrev TIM_CYCLE_NUM : Nat := 0x31000028
/-- TIM_BOUNDARY_LO (R62). -/
abbrev TIM_BOUNDARY_LO : Nat := 0x31000030
/-- TIM_BOUNDARY_HI (R62). -/
abbrev TIM_BOUNDARY_HI : Nat := 0x31000034
/-- TIM_SERVO_CTRL (R62). -/
abbrev TIM_SERVO_CTRL : Nat := 0x31000040
/-- TIM_XSTAMP_CTRL (R62). -/
abbrev TIM_XSTAMP_CTRL : Nat := 0x31000050
/-- TIM_XSTAMP_TBn_LO (R62). -/
abbrev TIM_XSTAMP_TB_LO (n : Nat) : Nat := 0x31000058 + 0x8 * n
/-- TIM_XSTAMP_TBn_HI (R62). -/
abbrev TIM_XSTAMP_TB_HI (n : Nat) : Nat := 0x3100005C + 0x8 * n
/-- TIM_COMP_CTRL (R62). -/
abbrev TIM_COMP_CTRL : Nat := 0x31000080
/-- TIM_COMP_TEMP (R62). -/
abbrev TIM_COMP_TEMP : Nat := 0x31000084
/-- TIM_COMP_PPB (R62). -/
abbrev TIM_COMP_PPB : Nat := 0x31000088
/-- TIM_COMP_Cm (R62). -/
abbrev TIM_COMP_C (m : Nat) : Nat := 0x3100008C + 0x4 * m
/-- TIM_XCHK_LIMIT (R62). -/
abbrev TIM_XCHK_LIMIT : Nat := 0x310000A0
/-- TIM_XCHK_OFFSET (R62). -/
abbrev TIM_XCHK_OFFSET : Nat := 0x310000A4
/-- TIM_XCHK_RATE (R62). -/
abbrev TIM_XCHK_RATE : Nat := 0x310000A8
/-- TIM_EVENTS (R62). -/
abbrev TIM_EVENTS : Nat := 0x310000B0
/-- TIM_TBn_NOW_LO (R63). -/
abbrev TIM_TB_NOW_LO (n : Nat) : Nat := 0x31000100 + 0x100 * n
/-- TIM_TBn_NOW_HI (R63). -/
abbrev TIM_TB_NOW_HI (n : Nat) : Nat := 0x31000104 + 0x100 * n
/-- TIM_TBn_CTRL (R63). -/
abbrev TIM_TB_CTRL (n : Nat) : Nat := 0x31000108 + 0x100 * n
/-- TIM_TBn_STATUS (R63). -/
abbrev TIM_TB_STATUS (n : Nat) : Nat := 0x3100010C + 0x100 * n
/-- TIM_TBn_LOAD_LO (R63). -/
abbrev TIM_TB_LOAD_LO (n : Nat) : Nat := 0x31000110 + 0x100 * n
/-- TIM_TBn_LOAD_HI (R63). -/
abbrev TIM_TB_LOAD_HI (n : Nat) : Nat := 0x31000114 + 0x100 * n
/-- TIM_TBn_ADJ (R63). -/
abbrev TIM_TB_ADJ (n : Nat) : Nat := 0x31000118 + 0x100 * n
/-- TIM_TBn_KP (R63). -/
abbrev TIM_TB_KP (n : Nat) : Nat := 0x3100011C + 0x100 * n
/-- TIM_TBn_KI (R63). -/
abbrev TIM_TB_KI (n : Nat) : Nat := 0x31000120 + 0x100 * n
/-- TIM_TBn_FLIM (R63). -/
abbrev TIM_TB_FLIM (n : Nat) : Nat := 0x31000124 + 0x100 * n
/-- TIM_TBn_GATE (R63). -/
abbrev TIM_TB_GATE (n : Nat) : Nat := 0x31000128 + 0x100 * n
/-- TIM_TBn_JUMP (R63). -/
abbrev TIM_TB_JUMP (n : Nat) : Nat := 0x3100012C + 0x100 * n
/-- TIM_TBn_FADJ (R63). -/
abbrev TIM_TB_FADJ (n : Nat) : Nat := 0x31000130 + 0x100 * n
/-- TIM_TBn_OFFSET (R63). -/
abbrev TIM_TB_OFFSET (n : Nat) : Nat := 0x31000134 + 0x100 * n
/-- TIM_TBn_CNT (R63). -/
abbrev TIM_TB_CNT (n : Nat) : Nat := 0x31000138 + 0x100 * n
/-- TIM_TBn_HOLD_S (R63). -/
abbrev TIM_TB_HOLD_S (n : Nat) : Nat := 0x3100013C + 0x100 * n
/-- TIM_TBn_HOLD_LIM (R63). -/
abbrev TIM_TB_HOLD_LIM (n : Nat) : Nat := 0x31000140 + 0x100 * n
/-- TIM_TBn_EPOCH (R63). -/
abbrev TIM_TB_EPOCH (n : Nat) : Nat := 0x31000144 + 0x100 * n

/-! ### WRP (04_warp_ring_operation.md) -/

/-- WRP_CTRL (R121). -/
abbrev WRP_CTRL : Nat := 0x30000000
/-- WRP_WRAP_CUT (R121). -/
abbrev WRP_WRAP_CUT : Nat := 0x30000004
/-- WRP_EVENTS (R121). -/
abbrev WRP_EVENTS : Nat := 0x30000008
/-- WRP_RINGn_STATE (R122). -/
abbrev WRP_RING_STATE (n : Nat) : Nat := 0x30000100 + 0x100 * n
/-- WRP_RINGn_CMD (R122). -/
abbrev WRP_RING_CMD (n : Nat) : Nat := 0x30000104 + 0x100 * n
/-- WRP_RINGn_MANDATE (R122). -/
abbrev WRP_RING_MANDATE (n : Nat) : Nat := 0x30000108 + 0x100 * n
/-- WRP_RINGn_WRAP (R122). -/
abbrev WRP_RING_WRAP (n : Nat) : Nat := 0x3000010C + 0x100 * n
/-- WRP_RINGn_PATH_LO (R122). -/
abbrev WRP_RING_PATH_LO (n : Nat) : Nat := 0x30000110 + 0x100 * n
/-- WRP_RINGn_PATH_HI (R122). -/
abbrev WRP_RING_PATH_HI (n : Nat) : Nat := 0x30000114 + 0x100 * n
/-- WRP_RINGn_TRET (R122). -/
abbrev WRP_RING_TRET (n : Nat) : Nat := 0x30000118 + 0x100 * n
/-- WRP_RINGn_WRAP_BOUND (R122). -/
abbrev WRP_RING_WRAP_BOUND (n : Nat) : Nat := 0x3000011C + 0x100 * n
/-- WRP_RINGn_SYNC_CFG (R122). -/
abbrev WRP_RING_SYNC_CFG (n : Nat) : Nat := 0x30000120 + 0x100 * n
/-- WRP_RINGn_LOSS (R122). -/
abbrev WRP_RING_LOSS (n : Nat) : Nat := 0x30000124 + 0x100 * n
/-- WRP_RINGn_PRESENT_LO (R122). -/
abbrev WRP_RING_PRESENT_LO (n : Nat) : Nat := 0x30000128 + 0x100 * n
/-- WRP_RINGn_PRESENT_HI (R122). -/
abbrev WRP_RING_PRESENT_HI (n : Nat) : Nat := 0x3000012C + 0x100 * n
/-- WRP_RINGn_SYNCOK_LO (R122). -/
abbrev WRP_RING_SYNCOK_LO (n : Nat) : Nat := 0x30000130 + 0x100 * n
/-- WRP_RINGn_SYNCOK_HI (R122). -/
abbrev WRP_RING_SYNCOK_HI (n : Nat) : Nat := 0x30000134 + 0x100 * n
/-- WRP_RINGn_CNT0 (R122). -/
abbrev WRP_RING_CNT0 (n : Nat) : Nat := 0x30000138 + 0x100 * n
/-- WRP_RINGn_CNT1 (R122). -/
abbrev WRP_RING_CNT1 (n : Nat) : Nat := 0x3000013C + 0x100 * n
/-- WRP_RINGn_CNT2 (R122). -/
abbrev WRP_RING_CNT2 (n : Nat) : Nat := 0x30000140 + 0x100 * n
/-- WRP_RINGn_NODEFLT_LO (R122). -/
abbrev WRP_RING_NODEFLT_LO (n : Nat) : Nat := 0x30000144 + 0x100 * n
/-- WRP_RINGn_NODEFLT_HI (R122). -/
abbrev WRP_RING_NODEFLT_HI (n : Nat) : Nat := 0x30000148 + 0x100 * n
/-- WRP_RINGn_REPLACED_LO (R122). -/
abbrev WRP_RING_REPLACED_LO (n : Nat) : Nat := 0x3000014C + 0x100 * n
/-- WRP_RINGn_REPLACED_HI (R122). -/
abbrev WRP_RING_REPLACED_HI (n : Nat) : Nat := 0x30000150 + 0x100 * n

/-! ### HDL (05_heddle_engines.md) -/

/-- HDL_CTRL (R152). -/
abbrev HDL_CTRL (e : Nat) : Nat := 0x20030000 + 0x40000 * e
/-- HDL_STATUS (R152). -/
abbrev HDL_STATUS (e : Nat) : Nat := 0x20030004 + 0x40000 * e
/-- HDL_PAT_CMD (R152). -/
abbrev HDL_PAT_CMD (e : Nat) : Nat := 0x20030008 + 0x40000 * e
/-- HDL_PAT_STATUS (R152). -/
abbrev HDL_PAT_STATUS (e : Nat) : Nat := 0x2003000C + 0x40000 * e
/-- HDL_WCET (R152). -/
abbrev HDL_WCET (e : Nat) : Nat := 0x20030010 + 0x40000 * e
/-- HDL_RUN_CLK (R152). -/
abbrev HDL_RUN_CLK (e : Nat) : Nat := 0x20030014 + 0x40000 * e
/-- HDL_SEG_EN (R152). -/
abbrev HDL_SEG_EN (e : Nat) : Nat := 0x20030020 + 0x40000 * e
/-- HDL_SEG_ACT (R152). -/
abbrev HDL_SEG_ACT (e : Nat) : Nat := 0x20030024 + 0x40000 * e
/-- HDL_SEGn_RANGE (R152). -/
abbrev HDL_SEG_RANGE (e n : Nat) : Nat := 0x20030040 + 0x40000 * e + 0x4 * n
/-- HDL_COEF_CTRL (R152). -/
abbrev HDL_COEF_CTRL (e : Nat) : Nat := 0x20030080 + 0x40000 * e
/-- HDL_COEF_SWAP_CYC (R152). -/
abbrev HDL_COEF_SWAP_CYC (e : Nat) : Nat := 0x20030084 + 0x40000 * e
/-- HDL_OVR (R152). -/
abbrev HDL_OVR (e : Nat) : Nat := 0x20030090 + 0x40000 * e
/-- HDL_EVENTS (R152). -/
abbrev HDL_EVENTS (e : Nat) : Nat := 0x20030094 + 0x40000 * e
/-- HDL_SAT (R152). -/
abbrev HDL_SAT (e : Nat) : Nat := 0x20030098 + 0x40000 * e
/-- HDL_PRESET (R152). -/
abbrev HDL_PRESET (e : Nat) : Nat := 0x2003009C + 0x40000 * e
/-- HDL_IMG (R152). -/
abbrev HDL_IMG (e : Nat) : Nat := 0x200300A0 + 0x40000 * e
/-- HDL_ECC_CNT (R152). -/
abbrev HDL_ECC_CNT (e : Nat) : Nat := 0x200300A4 + 0x40000 * e
/-- HDL_SATMAPn (R152). -/
abbrev HDL_SATMAP (e n : Nat) : Nat := 0x20030100 + 0x40000 * e + 0x4 * n
/-- HDL_IN_MAPj (R152). -/
abbrev HDL_IN_MAP (e j : Nat) : Nat := 0x20032000 + 0x40000 * e + 0x4 * j
/-- HDL_HOV_CTRL (R245). -/
abbrev HDL_HOV_CTRL (e : Nat) : Nat := 0x20032800 + 0x40000 * e
/-- HDL_HOV_SEGS (R245). -/
abbrev HDL_HOV_SEGS (e : Nat) : Nat := 0x20032804 + 0x40000 * e
/-- HDL_HOV_CFG (R245). -/
abbrev HDL_HOV_CFG (e : Nat) : Nat := 0x20032808 + 0x40000 * e
/-- HDL_HOV_LIM (R245). -/
abbrev HDL_HOV_LIM (e : Nat) : Nat := 0x2003280C + 0x40000 * e
/-- HDL_HOV_GAP (R245). -/
abbrev HDL_HOV_GAP (e : Nat) : Nat := 0x20032810 + 0x40000 * e
/-- HDL_HOV_XFD (R245). -/
abbrev HDL_HOV_XFD (e : Nat) : Nat := 0x20032814 + 0x40000 * e
/-- HDL_HOV_STATUS (R245). -/
abbrev HDL_HOV_STATUS (e : Nat) : Nat := 0x20032818 + 0x40000 * e
/-- HDL_HOV_CNT (R245). -/
abbrev HDL_HOV_CNT (e : Nat) : Nat := 0x2003281C + 0x40000 * e
/-- HDL_TUNE_EVENTS (R245). -/
abbrev HDL_TUNE_EVENTS (e : Nat) : Nat := 0x20032820 + 0x40000 * e
/-- HDL_RLYu_CTRL (R245). -/
abbrev HDL_RLY_CTRL (e u : Nat) : Nat := 0x20032900 + 0x40000 * e + 0x20 * u
/-- HDL_RLYu_TMO (R245). -/
abbrev HDL_RLY_TMO (e u : Nat) : Nat := 0x20032904 + 0x40000 * e + 0x20 * u
/-- HDL_RLYu_STAT (R245). -/
abbrev HDL_RLY_STAT (e u : Nat) : Nat := 0x20032908 + 0x40000 * e + 0x20 * u
/-- HDL_RLYu_PER (R245). -/
abbrev HDL_RLY_PER (e u : Nat) : Nat := 0x2003290C + 0x40000 * e + 0x20 * u
/-- HDL_RLYu_AMP (R245). -/
abbrev HDL_RLY_AMP (e u : Nat) : Nat := 0x20032910 + 0x40000 * e + 0x20 * u
/-- HDL_RLYu_CTR (R245). -/
abbrev HDL_RLY_CTR (e u : Nat) : Nat := 0x20032914 + 0x40000 * e + 0x20 * u
/-- HDL_RLYu_KU (R245). -/
abbrev HDL_RLY_KU (e u : Nat) : Nat := 0x20032918 + 0x40000 * e + 0x20 * u
/-- HDL_RLYu_PHI (R245). -/
abbrev HDL_RLY_PHI (e u : Nat) : Nat := 0x2003291C + 0x40000 * e + 0x20 * u

/-! ### WVR (07_weaver_and_draft.md) -/

/-- WVR_CTRL (R209). -/
abbrev WVR_CTRL : Nat := 0x24000000
/-- WVR_STATUS (R209). -/
abbrev WVR_STATUS : Nat := 0x24000004
/-- WVR_ENTRIES (R209). -/
abbrev WVR_ENTRIES : Nat := 0x24000008
/-- WVR_DUR (R209). -/
abbrev WVR_DUR : Nat := 0x2400000C
/-- WVR_EVENTS (R209). -/
abbrev WVR_EVENTS : Nat := 0x24000010
/-- WVR_CNT (R209). -/
abbrev WVR_CNT : Nat := 0x24000014
/-- WVR_PH_MAX (R209). -/
abbrev WVR_PH_MAX : Nat := 0x24000018
/-- WVR_RINGr_HEAD (R209). -/
abbrev WVR_RING_HEAD (r : Nat) : Nat := 0x24000020 + 0x4 * r
/-- WVR_RINGr_SLOTS (R209). -/
abbrev WVR_RING_SLOTS (r : Nat) : Nat := 0x24000030 + 0x4 * r
/-- WVR_STRs_CFG (R210). -/
abbrev WVR_STR_CFG (s : Nat) : Nat := 0x24000100 + 0x20 * s
/-- WVR_STRs_CAR_PER (R210). -/
abbrev WVR_STR_CAR_PER (s : Nat) : Nat := 0x24000104 + 0x20 * s
/-- WVR_STRs_EN (R210). -/
abbrev WVR_STR_EN (s : Nat) : Nat := 0x24000108 + 0x20 * s
/-- WVR_STRs_NIN (R210). -/
abbrev WVR_STR_NIN (s : Nat) : Nat := 0x2400010C + 0x20 * s
/-- WVR_CARPHs_p (R210). -/
abbrev WVR_CARPH (s p : Nat) : Nat := 0x24000400 + 0x80 * s + 0x4 * p
/-- WVR_QUADq_PER (R210). -/
abbrev WVR_QUAD_PER (q : Nat) : Nat := 0x24000800 + 0x10 * q
/-- WVR_QUADq_CFG (R210). -/
abbrev WVR_QUAD_CFG (q : Nat) : Nat := 0x24000804 + 0x10 * q
/-- WVR_CHn_CFG (R210). -/
abbrev WVR_CH_CFG (n : Nat) : Nat := 0x24001000 + 0x4 * n
/-- WVR_RINGr_EPSa (R210). -/
abbrev WVR_RING_EPS (r a : Nat) : Nat := 0x24002000 + 0x100 * r + 0x4 * a
/-- WVR_BYP_ADDR (R226). -/
abbrev WVR_BYP_ADDR : Nat := 0x24000040
/-- WVR_BYP_CLOSE (R226). -/
abbrev WVR_BYP_CLOSE : Nat := 0x24000044
/-- WVR_BYP_OPEN (R226). -/
abbrev WVR_BYP_OPEN : Nat := 0x24000048
/-- WVR_BYP_TMO (R226). -/
abbrev WVR_BYP_TMO : Nat := 0x2400004C
/-- WVR_RWV_EVENTS (R226). -/
abbrev WVR_RWV_EVENTS : Nat := 0x24000050
/-- WVR_STRs_OOS (R226). -/
abbrev WVR_STR_OOS (s : Nat) : Nat := 0x24000110 + 0x20 * s
/-- WVR_STRs_OOS_SET (R226). -/
abbrev WVR_STR_OOS_SET (s : Nat) : Nat := 0x24000114 + 0x20 * s
/-- WVR_STRs_OOS_CLR (R226). -/
abbrev WVR_STR_OOS_CLR (s : Nat) : Nat := 0x24000118 + 0x20 * s
/-- WVR_STRs_RWV (R226). -/
abbrev WVR_STR_RWV (s : Nat) : Nat := 0x2400011C + 0x20 * s
/-- WVR_STRs_DEMAND (R226). -/
abbrev WVR_STR_DEMAND (s : Nat) : Nat := 0x24000180 + 0x10 * s
/-- WVR_STRs_HEAD (R226). -/
abbrev WVR_STR_HEAD (s : Nat) : Nat := 0x24000184 + 0x10 * s
/-- WVR_STRs_BYP (R226). -/
abbrev WVR_STR_BYP (s : Nat) : Nat := 0x24000188 + 0x10 * s
/-- WVR_STRs_RET (R226). -/
abbrev WVR_STR_RET (s : Nat) : Nat := 0x2400018C + 0x10 * s

/-! ### SRT (08_balancing_and_cell_redundancy.md) -/

/-- SRT_EVENTS (R225). -/
abbrev SRT_EVENTS : Nat := 0x25000000
/-- SRT_WAIT (R225). -/
abbrev SRT_WAIT : Nat := 0x25000004
/-- SRT_CNT (R225). -/
abbrev SRT_CNT : Nat := 0x25000008
/-- SRT_LANEn_STAT (R225). -/
abbrev SRT_LANE_STAT (n : Nat) : Nat := 0x25000100 + 0x100 * n
/-- SRT_LANEn_CYC (R225). -/
abbrev SRT_LANE_CYC (n : Nat) : Nat := 0x25000104 + 0x100 * n
/-- SRT_LANEn_MASK (R225). -/
abbrev SRT_LANE_MASK (n : Nat) : Nat := 0x25000108 + 0x100 * n
/-- SRT_LANEn_SWAPCNT (R225). -/
abbrev SRT_LANE_SWAPCNT (n : Nat) : Nat := 0x2500010C + 0x100 * n
/-- SRT_LANEn_ORDERj (R225). -/
abbrev SRT_LANE_ORDER (n j : Nat) : Nat := 0x25000140 + 0x100 * n + 0x4 * j

/-! ### CAP (09_tuning_identification_handover.md) -/

/-- CAP_CTRL (R246). -/
abbrev CAP_CTRL : Nat := 0x26000000
/-- CAP_STATUS (R246). -/
abbrev CAP_STATUS : Nat := 0x26000004
/-- CAP_CFG (R246). -/
abbrev CAP_CFG : Nat := 0x26000008
/-- CAP_POST (R246). -/
abbrev CAP_POST : Nat := 0x2600000C
/-- CAP_TRIG_LO (R246). -/
abbrev CAP_TRIG_LO : Nat := 0x26000010
/-- CAP_TRIG_HI (R246). -/
abbrev CAP_TRIG_HI : Nat := 0x26000014
/-- CAP_TRIG_ROW (R246). -/
abbrev CAP_TRIG_ROW : Nat := 0x26000018
/-- CAP_TRIG_CYC (R246). -/
abbrev CAP_TRIG_CYC : Nat := 0x2600001C
/-- CAP_WPTR (R246). -/
abbrev CAP_WPTR : Nat := 0x26000020
/-- CAP_ROWS (R246). -/
abbrev CAP_ROWS : Nat := 0x26000024
/-- CAP_RELEASE (R246). -/
abbrev CAP_RELEASE : Nat := 0x26000028
/-- CAP_EVENTS (R246). -/
abbrev CAP_EVENTS : Nat := 0x2600002C
/-- CAP_LOST (R246). -/
abbrev CAP_LOST : Nat := 0x26000030
/-- CAP_CHn (R246). -/
abbrev CAP_CH (n : Nat) : Nat := 0x26000100 + 0x4 * n

/-! ### GFT (10_duplex_and_graft_link.md) -/

/-- GFT_CTRL (R272). -/
abbrev GFT_CTRL : Nat := 0x32000000
/-- GFT_CFG (R272). -/
abbrev GFT_CFG : Nat := 0x32000004
/-- GFT_REVERT (R272). -/
abbrev GFT_REVERT : Nat := 0x32000008
/-- GFT_CMD (R272). -/
abbrev GFT_CMD : Nat := 0x3200000C
/-- GFT_STATUS (R272). -/
abbrev GFT_STATUS : Nat := 0x32000010
/-- GFT_IMG (R272). -/
abbrev GFT_IMG : Nat := 0x32000014
/-- GFT_CONFIG_ID (R272). -/
abbrev GFT_CONFIG_ID : Nat := 0x32000018
/-- GFT_PEER_ID (R272). -/
abbrev GFT_PEER_ID : Nat := 0x3200001C
/-- GFT_DELAY_LO (R272). -/
abbrev GFT_DELAY_LO : Nat := 0x32000020
/-- GFT_DELAY_HI (R272). -/
abbrev GFT_DELAY_HI : Nat := 0x32000024
/-- GFT_ASYM (R272). -/
abbrev GFT_ASYM : Nat := 0x32000028
/-- GFT_MSEQ (R272). -/
abbrev GFT_MSEQ : Nat := 0x3200002C
/-- GFT_SUPVn (R272). -/
abbrev GFT_SUPV (n : Nat) : Nat := 0x32000040 + 0x4 * n
/-- GFT_EVENTS (R272). -/
abbrev GFT_EVENTS : Nat := 0x32000060
/-- GFT_CNT0 (R272). -/
abbrev GFT_CNT0 : Nat := 0x32000064
/-- GFT_CNT1 (R272). -/
abbrev GFT_CNT1 : Nat := 0x32000068
/-- GFT_CNT2 (R272). -/
abbrev GFT_CNT2 : Nat := 0x3200006C

/-! ### SAF (11_safety_functions.md) -/

/-- SAF_STATUS (R301). -/
abbrev SAF_STATUS : Nat := 0x40000000
/-- SAF_DEMAND (R301). -/
abbrev SAF_DEMAND : Nat := 0x40000004
/-- SAF_LATCH (R301). -/
abbrev SAF_LATCH : Nat := 0x40000008
/-- SAF_LAST_LO (R301). -/
abbrev SAF_LAST_LO : Nat := 0x40000010
/-- SAF_LAST_HI (R301). -/
abbrev SAF_LAST_HI : Nat := 0x40000014
/-- SAF_IN (R301). -/
abbrev SAF_IN : Nat := 0x40000020
/-- SAF_OUT (R301). -/
abbrev SAF_OUT : Nat := 0x40000024
/-- SAF_SEAL (R301). -/
abbrev SAF_SEAL : Nat := 0x40000028
/-- SAF_PARAM_ID (R301). -/
abbrev SAF_PARAM_ID : Nat := 0x4000002C
/-- SAF_REMOTE (R301). -/
abbrev SAF_REMOTE : Nat := 0x40000030
/-- SAF_DEG_LEFT (R301). -/
abbrev SAF_DEG_LEFT : Nat := 0x40000034
/-- SAF_CNT0 (R301). -/
abbrev SAF_CNT0 : Nat := 0x40000040
/-- SAF_CNT1 (R301). -/
abbrev SAF_CNT1 : Nat := 0x40000044
/-- SAF_FW_ID (R301). -/
abbrev SAF_FW_ID : Nat := 0x40000050

/-! ### FLT (12_faults_and_change_journal.md) -/

/-- FLT_STATUS (R322). -/
abbrev FLT_STATUS : Nat := 0x41000000
/-- FLT_ACK (R322). -/
abbrev FLT_ACK : Nat := 0x41000004
/-- FLT_CLEAR (R322). -/
abbrev FLT_CLEAR : Nat := 0x41000008
/-- FLT_CNT (R322). -/
abbrev FLT_CNT : Nat := 0x4100000C
/-- FLT_NEWEST (R322). -/
abbrev FLT_NEWEST : Nat := 0x41000010
/-- FLT_EVENTS (R322). -/
abbrev FLT_EVENTS : Nat := 0x41000014
/-- FLT_RECn_STAT (R322). -/
abbrev FLT_REC_STAT (n : Nat) : Nat := 0x41000100 + 0x40 * n
/-- FLT_RECn_CODES (R322). -/
abbrev FLT_REC_CODES (n : Nat) : Nat := 0x41000104 + 0x40 * n
/-- FLT_RECn_ACTIVE (R322). -/
abbrev FLT_REC_ACTIVE (n : Nat) : Nat := 0x41000108 + 0x40 * n
/-- FLT_RECn_SRC (R322). -/
abbrev FLT_REC_SRC (n : Nat) : Nat := 0x4100010C + 0x40 * n
/-- FLT_RECn_MERGE (R322). -/
abbrev FLT_REC_MERGE (n : Nat) : Nat := 0x41000110 + 0x40 * n
/-- FLT_RECn_FIRST_LO (R322). -/
abbrev FLT_REC_FIRST_LO (n : Nat) : Nat := 0x41000114 + 0x40 * n
/-- FLT_RECn_FIRST_HI (R322). -/
abbrev FLT_REC_FIRST_HI (n : Nat) : Nat := 0x41000118 + 0x40 * n
/-- FLT_RECn_LAST_LO (R322). -/
abbrev FLT_REC_LAST_LO (n : Nat) : Nat := 0x4100011C + 0x40 * n
/-- FLT_RECn_LAST_HI (R322). -/
abbrev FLT_REC_LAST_HI (n : Nat) : Nat := 0x41000120 + 0x40 * n
/-- FLT_RECn_FEC_ADDR (R322). -/
abbrev FLT_REC_FEC_ADDR (n : Nat) : Nat := 0x41000124 + 0x40 * n
/-- FLT_RECn_FEC_INFO (R322). -/
abbrev FLT_REC_FEC_INFO (n : Nat) : Nat := 0x41000128 + 0x40 * n
/-- FLT_INJ (R322). -/
abbrev FLT_INJ : Nat := 0x41002000

/-! ### JNL (12_faults_and_change_journal.md) -/

/-- JNL_HEAD (R323). -/
abbrev JNL_HEAD : Nat := 0x42000000
/-- JNL_COPIED (R323). -/
abbrev JNL_COPIED : Nat := 0x42000004
/-- JNL_EPOCH (R323). -/
abbrev JNL_EPOCH : Nat := 0x42000008
/-- JNL_LOST (R323). -/
abbrev JNL_LOST : Nat := 0x4200000C
/-- JNL_STATUS (R323). -/
abbrev JNL_STATUS : Nat := 0x42000010
/-- JNL_WEAR (R323). -/
abbrev JNL_WEAR : Nat := 0x42000014
/-- JNL_EVENTS (R323). -/
abbrev JNL_EVENTS : Nat := 0x42000018
/-- JNL_NOTE_TGT (R323). -/
abbrev JNL_NOTE_TGT : Nat := 0x42000020
/-- JNL_NOTE_OLD (R323). -/
abbrev JNL_NOTE_OLD : Nat := 0x42000024
/-- JNL_NOTE_NEW (R323). -/
abbrev JNL_NOTE_NEW : Nat := 0x42000028

/-! ### CMP (13_comparators_and_event_router.md) -/

/-- CMP_CTRL (R342). -/
abbrev CMP_CTRL : Nat := 0x44000000
/-- CMP_RAW_HOT (R342). -/
abbrev CMP_RAW_HOT : Nat := 0x44000010
/-- CMP_RAW_COLD (R342). -/
abbrev CMP_RAW_COLD : Nat := 0x44000014
/-- CMP_LATCH_HOT (R342). -/
abbrev CMP_LATCH_HOT : Nat := 0x44000018
/-- CMP_LATCH_COLD (R342). -/
abbrev CMP_LATCH_COLD : Nat := 0x4400001C
/-- CMP_UNRES_HOT (R342). -/
abbrev CMP_UNRES_HOT : Nat := 0x44000020
/-- CMP_UNRES_COLD (R342). -/
abbrev CMP_UNRES_COLD : Nat := 0x44000024
/-- CMP_WINDOW (R342). -/
abbrev CMP_WINDOW : Nat := 0x44000028
/-- CMP_EVENTS (R342). -/
abbrev CMP_EVENTS : Nat := 0x44000030
/-- CMP_CAL (R342). -/
abbrev CMP_CAL : Nat := 0x44000034
/-- CMP_Cc_CFG (R342). -/
abbrev CMP_C_CFG (c : Nat) : Nat := 0x44000100 + 0x8 * c
/-- CMP_Cc_THR (R342). -/
abbrev CMP_C_THR (c : Nat) : Nat := 0x44000104 + 0x8 * c
/-- CMP_DACc (R342). -/
abbrev CMP_DAC (c : Nat) : Nat := 0x44000800 + 0x4 * c

/-! ### EVR (13_comparators_and_event_router.md) -/

/-- EVR_SWTRIG_LO (R343). -/
abbrev EVR_SWTRIG_LO : Nat := 0x43000000
/-- EVR_SWTRIG_HI (R343). -/
abbrev EVR_SWTRIG_HI : Nat := 0x43000004
/-- EVR_IRQ (R343). -/
abbrev EVR_IRQ : Nat := 0x43000010
/-- EVR_IRQ_EN (R343). -/
abbrev EVR_IRQ_EN : Nat := 0x43000014
/-- EVR_IRQ_CORE (R343). -/
abbrev EVR_IRQ_CORE : Nat := 0x43000018
/-- EVR_GDIS (R343). -/
abbrev EVR_GDIS : Nat := 0x43000020
/-- EVR_GDIS_REL (R343). -/
abbrev EVR_GDIS_REL : Nat := 0x43000024
/-- EVR_EVENTS (R343). -/
abbrev EVR_EVENTS : Nat := 0x43000028
/-- EVR_UNMASK (R343). -/
abbrev EVR_UNMASK : Nat := 0x4300002C
/-- EVR_HDLn (R343). -/
abbrev EVR_HDL (n : Nat) : Nat := 0x43000040 + 0x4 * n
/-- EVR_CANj (R343). -/
abbrev EVR_CAN (j : Nat) : Nat := 0x43000060 + 0x4 * j
/-- EVR_FLAGf (R343). -/
abbrev EVR_FLAG (f : Nat) : Nat := 0x43000100 + 0x4 * f
/-- EVR_MASKEDj (R343). -/
abbrev EVR_MASKED (j : Nat) : Nat := 0x43000200 + 0x4 * j
/-- EVR_STUCKj (R343). -/
abbrev EVR_STUCK (j : Nat) : Nat := 0x43000220 + 0x4 * j
/-- EVR_DSTd_CNT (R343). -/
abbrev EVR_DST_CNT (d : Nat) : Nat := 0x43000400 + 0x4 * d
/-- EVR_SRCn_CFG (R343). -/
abbrev EVR_SRC_CFG (n : Nat) : Nat := 0x43001000 + 0x10 * n
/-- EVR_SRCn_DST_LO (R343). -/
abbrev EVR_SRC_DST_LO (n : Nat) : Nat := 0x43001004 + 0x10 * n
/-- EVR_SRCn_DST_HI (R343). -/
abbrev EVR_SRC_DST_HI (n : Nat) : Nat := 0x43001008 + 0x10 * n
/-- EVR_SRCn_STAT (R343). -/
abbrev EVR_SRC_STAT (n : Nat) : Nat := 0x4300100C + 0x10 * n

/-! ### GDR (14_aux_power_and_gate_drive.md) -/

/-- GDR_CTRL (R369). -/
abbrev GDR_CTRL : Nat := 0x45000000
/-- GDR_STATUS (R369). -/
abbrev GDR_STATUS : Nat := 0x45000004
/-- GDR_REL (R369). -/
abbrev GDR_REL : Nat := 0x45000008
/-- GDR_RPTONLY (R369). -/
abbrev GDR_RPTONLY : Nat := 0x4500000C
/-- GDR_EVENTS (R369). -/
abbrev GDR_EVENTS : Nat := 0x45000010
/-- GDR_CNT (R369). -/
abbrev GDR_CNT : Nat := 0x45000014
/-- GDR_LEGn_DT (R369). -/
abbrev GDR_LEG_DT (n : Nat) : Nat := 0x45000040 + 0x8 * n
/-- GDR_LEGn_PROT (R369). -/
abbrev GDR_LEG_PROT (n : Nat) : Nat := 0x45000044 + 0x8 * n
/-- GDR_LEGn_CNT (R369). -/
abbrev GDR_LEG_CNT (n : Nat) : Nat := 0x45000080 + 0x4 * n
/-- GDR_TRIPg (R369). -/
abbrev GDR_TRIP (g : Nat) : Nat := 0x450000A0 + 0x4 * g

/-! ### SAP (14_aux_power_and_gate_drive.md) -/

/-- SAP_STATUS (R370). -/
abbrev SAP_STATUS : Nat := 0x46000000
/-- SAP_CMD (R370). -/
abbrev SAP_CMD : Nat := 0x46000004
/-- SAP_FLAGS (R370). -/
abbrev SAP_FLAGS : Nat := 0x46000008
/-- SAP_CNT (R370). -/
abbrev SAP_CNT : Nat := 0x4600000C
/-- SAP_INACTi (R370). -/
abbrev SAP_INACT (i : Nat) : Nat := 0x46000010 + 0x4 * i
/-- SAP_PFC_VBUS (R370). -/
abbrev SAP_PFC_VBUS : Nat := 0x46000040
/-- SAP_PFC_ILIM (R370). -/
abbrev SAP_PFC_ILIM : Nat := 0x46000044
/-- SAP_PFC_FREQ (R370). -/
abbrev SAP_PFC_FREQ : Nat := 0x46000048
/-- SAP_LOOPx_IREF (R370). -/
abbrev SAP_LOOP_IREF (x : Nat) : Nat := 0x46000060 + 0x10 * x
/-- SAP_LOOPx_PLIM (R370). -/
abbrev SAP_LOOP_PLIM (x : Nat) : Nat := 0x46000064 + 0x10 * x
/-- SAP_LOOPx_FREQ (R370). -/
abbrev SAP_LOOP_FREQ (x : Nat) : Nat := 0x46000068 + 0x10 * x
/-- SAP_LOOPx_MEAS (R370). -/
abbrev SAP_LOOP_MEAS (x : Nat) : Nat := 0x4600006C + 0x10 * x
/-- SAP_ADCn (R370). -/
abbrev SAP_ADC (n : Nat) : Nat := 0x46000100 + 0x4 * n
/-- SAP_SCALEn (R370). -/
abbrev SAP_SCALE (n : Nat) : Nat := 0x46000140 + 0x4 * n

/-! ### ETH (15_farm_network.md) -/

/-- ETH_CTRL (R394). -/
abbrev ETH_CTRL : Nat := 0x33000000
/-- ETH_STATUS (R394). -/
abbrev ETH_STATUS : Nat := 0x33000004
/-- ETH_EVENTS (R394). -/
abbrev ETH_EVENTS : Nat := 0x33000008
/-- ETH_MAC_LO (R394). -/
abbrev ETH_MAC_LO : Nat := 0x33000010
/-- ETH_MAC_HI (R394). -/
abbrev ETH_MAC_HI : Nat := 0x33000014
/-- ETH_IP (R394). -/
abbrev ETH_IP : Nat := 0x33000018
/-- ETH_NETMASK (R394). -/
abbrev ETH_NETMASK : Nat := 0x3300001C
/-- ETH_GATEWAY (R394). -/
abbrev ETH_GATEWAY : Nat := 0x33000020
/-- ETH_MGMT_CFG (R394). -/
abbrev ETH_MGMT_CFG : Nat := 0x33000024
/-- ETH_VLAN (R394). -/
abbrev ETH_VLAN : Nat := 0x33000028
/-- ETH_PRP_CFG (R394). -/
abbrev ETH_PRP_CFG : Nat := 0x33000030
/-- ETH_PRP_CNT (R394). -/
abbrev ETH_PRP_CNT : Nat := 0x33000034
/-- ETH_PTP_CFG (R394). -/
abbrev ETH_PTP_CFG : Nat := 0x33000040
/-- ETH_PTP_STATUS (R394). -/
abbrev ETH_PTP_STATUS : Nat := 0x33000044
/-- ETH_PTP_GM_LO (R394). -/
abbrev ETH_PTP_GM_LO : Nat := 0x33000048
/-- ETH_PTP_GM_HI (R394). -/
abbrev ETH_PTP_GM_HI : Nat := 0x3300004C
/-- ETH_PTP_UTC (R394). -/
abbrev ETH_PTP_UTC : Nat := 0x33000050
/-- ETH_PTP_OFFB (R394). -/
abbrev ETH_PTP_OFFB : Nat := 0x33000054
/-- ETH_PTP_CNT (R394). -/
abbrev ETH_PTP_CNT : Nat := 0x33000058
/-- ETH_SESS (R394). -/
abbrev ETH_SESS : Nat := 0x33000060
/-- ETH_MGMT_CNT (R394). -/
abbrev ETH_MGMT_CNT : Nat := 0x33000064
/-- ETH_MGMT_CNT2 (R394). -/
abbrev ETH_MGMT_CNT2 : Nat := 0x33000068
/-- ETH_LOCAL_CNT (R394). -/
abbrev ETH_LOCAL_CNT : Nat := 0x3300006C
/-- ETH_PORTn_CFG (R395). -/
abbrev ETH_PORT_CFG (n : Nat) : Nat := 0x33000100 + 0x40 * n
/-- ETH_PORTn_STATUS (R395). -/
abbrev ETH_PORT_STATUS (n : Nat) : Nat := 0x33000104 + 0x40 * n
/-- ETH_PORTn_LDLY (R395). -/
abbrev ETH_PORT_LDLY (n : Nat) : Nat := 0x33000108 + 0x40 * n
/-- ETH_PORTn_ASYM (R395). -/
abbrev ETH_PORT_ASYM (n : Nat) : Nat := 0x3300010C + 0x40 * n
/-- ETH_PORTn_RX (R395). -/
abbrev ETH_PORT_RX (n : Nat) : Nat := 0x33000110 + 0x40 * n
/-- ETH_PORTn_TX (R395). -/
abbrev ETH_PORT_TX (n : Nat) : Nat := 0x33000114 + 0x40 * n
/-- ETH_PORTn_ERR (R395). -/
abbrev ETH_PORT_ERR (n : Nat) : Nat := 0x33000118 + 0x40 * n
/-- ETH_PORTn_DROP (R395). -/
abbrev ETH_PORT_DROP (n : Nat) : Nat := 0x3300011C + 0x40 * n
/-- ETH_PORTn_RES (R395). -/
abbrev ETH_PORT_RES (n : Nat) : Nat := 0x33000120 + 0x40 * n

/-! ### CAN (16_can_fd.md) -/

/-- CAN_CTRL (R409). -/
abbrev CAN_CTRL (c : Nat) : Nat := 0x34000000 + 0x10000 * c
/-- CAN_STATUS (R409). -/
abbrev CAN_STATUS (c : Nat) : Nat := 0x34000004 + 0x10000 * c
/-- CAN_ERRCNT (R409). -/
abbrev CAN_ERRCNT (c : Nat) : Nat := 0x34000008 + 0x10000 * c
/-- CAN_NBT (R409). -/
abbrev CAN_NBT (c : Nat) : Nat := 0x34000010 + 0x10000 * c
/-- CAN_DBT (R409). -/
abbrev CAN_DBT (c : Nat) : Nat := 0x34000014 + 0x10000 * c
/-- CAN_EVENTS (R409). -/
abbrev CAN_EVENTS (c : Nat) : Nat := 0x34000018 + 0x10000 * c
/-- CAN_CNT0 (R409). -/
abbrev CAN_CNT0 (c : Nat) : Nat := 0x3400001C + 0x10000 * c
/-- CAN_CNT1 (R409). -/
abbrev CAN_CNT1 (c : Nat) : Nat := 0x34000020 + 0x10000 * c
/-- CAN_NOMATCH (R409). -/
abbrev CAN_NOMATCH (c : Nat) : Nat := 0x34000024 + 0x10000 * c
/-- CAN_TXREQ (R409). -/
abbrev CAN_TXREQ (c : Nat) : Nat := 0x34000030 + 0x10000 * c
/-- CAN_TXCANCEL (R409). -/
abbrev CAN_TXCANCEL (c : Nat) : Nat := 0x34000034 + 0x10000 * c
/-- CAN_TXPEND (R409). -/
abbrev CAN_TXPEND (c : Nat) : Nat := 0x34000038 + 0x10000 * c
/-- CAN_RXQq_STAT (R409). -/
abbrev CAN_RXQ_STAT (c q : Nat) : Nat := 0x34000050 + 0x10000 * c + 0x8 * q
/-- CAN_RXQq_REL (R409). -/
abbrev CAN_RXQ_REL (c q : Nat) : Nat := 0x34000054 + 0x10000 * c + 0x8 * q
/-- CAN_TS_ID (R409). -/
abbrev CAN_TS_ID (c : Nat) : Nat := 0x34000060 + 0x10000 * c
/-- CAN_TS_CFG (R409). -/
abbrev CAN_TS_CFG (c : Nat) : Nat := 0x34000064 + 0x10000 * c
/-- CAN_TS_CNT (R409). -/
abbrev CAN_TS_CNT (c : Nat) : Nat := 0x34000068 + 0x10000 * c
/-- CAN_FLTn_ID (R409). -/
abbrev CAN_FLT_ID (c n : Nat) : Nat := 0x34001000 + 0x10000 * c + 0x8 * n
/-- CAN_FLTn_MASK (R409). -/
abbrev CAN_FLT_MASK (c n : Nat) : Nat := 0x34001004 + 0x10000 * c + 0x8 * n

/-! ### SED (17_startup_seed_security.md) -/

/-- SED_STATUS (R428). -/
abbrev SED_STATUS : Nat := 0x48000000
/-- SED_RUN (R428). -/
abbrev SED_RUN : Nat := 0x48000004
/-- SED_RUN_CMD (R428). -/
abbrev SED_RUN_CMD : Nat := 0x48000008
/-- SED_IMAGE_VER (R428). -/
abbrev SED_IMAGE_VER : Nat := 0x4800000C
/-- SED_KEYSLOTs (R428). -/
abbrev SED_KEYSLOT (s : Nat) : Nat := 0x48000010 + 0x4 * s
/-- SED_UPDATE (R428). -/
abbrev SED_UPDATE : Nat := 0x48000020
/-- SED_UPDATE_BYTES (R428). -/
abbrev SED_UPDATE_BYTES : Nat := 0x48000024
/-- SED_FACTORY (R428). -/
abbrev SED_FACTORY : Nat := 0x48000028
/-- SED_EVENTS (R428). -/
abbrev SED_EVENTS : Nat := 0x4800002C
/-- SED_CARD_ID_LO (R428). -/
abbrev SED_CARD_ID_LO : Nat := 0x48000030
/-- SED_CARD_ID_HI (R428). -/
abbrev SED_CARD_ID_HI : Nat := 0x48000034

/-! ### DID (17_startup_seed_security.md) -/

/-- DID_PART (R429). -/
abbrev DID_PART : Nat := 0x4F000000
/-- DID_REV (R429). -/
abbrev DID_REV : Nat := 0x4F000004
/-- DID_SERIAL_LO (R429). -/
abbrev DID_SERIAL_LO : Nat := 0x4F000008
/-- DID_SERIAL_HI (R429). -/
abbrev DID_SERIAL_HI : Nat := 0x4F00000C
/-- DID_PUBKEYw (R429). -/
abbrev DID_PUBKEY (w : Nat) : Nat := 0x4F000020 + 0x4 * w

/-! ### THM (18_thermal_electrical_mechanical.md) -/

/-- THM_CTRL (R445). -/
abbrev THM_CTRL : Nat := 0x47000000
/-- THM_CFG (R445). -/
abbrev THM_CFG : Nat := 0x47000004
/-- THM_STATUS (R445). -/
abbrev THM_STATUS : Nat := 0x47000008
/-- THM_SLOPE (R445). -/
abbrev THM_SLOPE : Nat := 0x4700000C
/-- THM_MAX_HOLD (R445). -/
abbrev THM_MAX_HOLD : Nat := 0x47000010
/-- THM_FAILED (R445). -/
abbrev THM_FAILED : Nat := 0x47000014
/-- THM_EVENTS (R445). -/
abbrev THM_EVENTS : Nat := 0x47000018
/-- THM_RAILS (R445). -/
abbrev THM_RAILS : Nat := 0x4700001C
/-- THM_POWER (R445). -/
abbrev THM_POWER : Nat := 0x47000020
/-- THM_SENSn (R445). -/
abbrev THM_SENS (n : Nat) : Nat := 0x47000100 + 0x4 * n

/-! ## The table -/

/-- A register or an array of them: base address, outer count and stride, inner count and stride, reset value, and
the masks of its RO, RW, WO, W1C, RC and RWL bits (R11), and whether it is the low (1) or high (2) word of a 64-bit
quantity (R14), else 0. Bits in no mask are reserved (R9). -/
structure RegSpec where
  base  : Nat
  n1    : Nat
  s1    : Nat
  n2    : Nat
  s2    : Nat
  reset : Nat
  ro    : Nat
  rw    : Nat
  wo    : Nat
  w1c   : Nat
  rc    : Nat
  rwl   : Nat
  half  : Nat
  deriving DecidableEq, Repr

/-- The entry covers address `a`. -/
def RegSpec.covers (r : RegSpec) (a : Nat) : Bool :=
  decide (r.base ≤ a) &&
  (let o := a - r.base
   let i := if r.n1 = 1 then 0 else o / r.s1
   let o2 := o - i * r.s1
   decide (i < r.n1) && decide (o2 % r.s2 = 0) && decide (o2 / r.s2 < r.n2))

/-- The first entry of a list that covers `a`. -/
def findSpec : List RegSpec → Nat → Option RegSpec
  | [], _ => none
  | r :: rs, a => if r.covers a then some r else findSpec rs a

/-- The registers of block TIM (02_time_bases.md, R62, R63), in the order: TIM_CTRL, TIM_STATUS, TIM_CYCLE_CFG, TIM_T_IN, TIM_T_OUT, TIM_GRID_ORIGIN_LO, TIM_GRID_ORIGIN_HI, TIM_CYCLE_NUM, TIM_BOUNDARY_LO, TIM_BOUNDARY_HI, TIM_SERVO_CTRL, TIM_XSTAMP_CTRL, TIM_XSTAMP_TBn_LO, TIM_XSTAMP_TBn_HI, TIM_COMP_CTRL, TIM_COMP_TEMP, TIM_COMP_PPB, TIM_COMP_Cm, TIM_XCHK_LIMIT, TIM_XCHK_OFFSET, TIM_XCHK_RATE, TIM_EVENTS, TIM_TBn_NOW_LO, TIM_TBn_NOW_HI, TIM_TBn_CTRL, TIM_TBn_STATUS, TIM_TBn_LOAD_LO, TIM_TBn_LOAD_HI, TIM_TBn_ADJ, TIM_TBn_KP, TIM_TBn_KI, TIM_TBn_FLIM, TIM_TBn_GATE, TIM_TBn_JUMP, TIM_TBn_FADJ, TIM_TBn_OFFSET, TIM_TBn_CNT, TIM_TBn_HOLD_S, TIM_TBn_HOLD_LIM, TIM_TBn_EPOCH. -/
def timSpecs : List RegSpec := [
  ⟨0x31000000, 1, 0x4, 1, 0x4, 0x0, 0x0, 0x0, 0x1, 0x0, 0x0, 0x0, 0⟩,
  ⟨0x31000004, 1, 0x4, 1, 0x4, 0x0, 0x3F, 0x0, 0x0, 0x0, 0x0, 0x0, 0⟩,
  ⟨0x31000010, 1, 0x4, 1, 0x4, 0x1, 0x0, 0x3, 0x0, 0x0, 0x0, 0x0, 0⟩,
  ⟨0x31000014, 1, 0x4, 1, 0x4, 0x2710, 0x0, 0x1FFFF, 0x0, 0x0, 0x0, 0x0, 0⟩,
  ⟨0x31000018, 1, 0x4, 1, 0x4, 0x55F0, 0x0, 0x1FFFF, 0x0, 0x0, 0x0, 0x0, 0⟩,
  ⟨0x31000020, 1, 0x4, 1, 0x4, 0x0, 0x0, 0xFFFFFFFF, 0x0, 0x0, 0x0, 0x0, 1⟩,
  ⟨0x31000024, 1, 0x4, 1, 0x4, 0x0, 0x0, 0xFFFFFFFF, 0x0, 0x0, 0x0, 0x0, 2⟩,
  ⟨0x31000028, 1, 0x4, 1, 0x4, 0x0, 0xFFFFFFFF, 0x0, 0x0, 0x0, 0x0, 0x0, 0⟩,
  ⟨0x31000030, 1, 0x4, 1, 0x4, 0x0, 0xFFFFFFFF, 0x0, 0x0, 0x0, 0x0, 0x0, 1⟩,
  ⟨0x31000034, 1, 0x4, 1, 0x4, 0x0, 0xFFFFFFFF, 0x0, 0x0, 0x0, 0x0, 0x0, 2⟩,
  ⟨0x31000040, 1, 0x4, 1, 0x4, 0x0, 0x0, 0xFFF, 0xF000, 0x0, 0x0, 0x0, 0⟩,
  ⟨0x31000050, 1, 0x4, 1, 0x4, 0x0, 0x0, 0x2, 0x1, 0x0, 0x100, 0x0, 0⟩,
  ⟨0x31000058, 1, 0x4, 4, 0x8, 0x0, 0xFFFFFFFF, 0x0, 0x0, 0x0, 0x0, 0x0, 1⟩,
  ⟨0x3100005C, 1, 0x4, 4, 0x8, 0x0, 0xFFFFFFFF, 0x0, 0x0, 0x0, 0x0, 0x0, 2⟩,
  ⟨0x31000080, 1, 0x4, 1, 0x4, 0x1, 0x0, 0x0, 0x0, 0x0, 0x0, 0x1, 0⟩,
  ⟨0x31000084, 1, 0x4, 1, 0x4, 0x0, 0xFFFF, 0x0, 0x0, 0x0, 0x0, 0x0, 0⟩,
  ⟨0x31000088, 1, 0x4, 1, 0x4, 0x0, 0xFFFFFFFF, 0x0, 0x0, 0x0, 0x0, 0x0, 0⟩,
  ⟨0x3100008C, 1, 0x4, 4, 0x4, 0x0, 0xFFFFFFFF, 0x0, 0x0, 0x0, 0x0, 0x0, 0⟩,
  ⟨0x310000A0, 1, 0x4, 1, 0x4, 0x7D0, 0x0, 0x0, 0x0, 0x0, 0x0, 0xFFFF, 0⟩,
  ⟨0x310000A4, 1, 0x4, 1, 0x4, 0x0, 0xFFFFFFFF, 0x0, 0x0, 0x0, 0x0, 0x0, 0⟩,
  ⟨0x310000A8, 1, 0x4, 1, 0x4, 0x0, 0xFFFFFFFF, 0x0, 0x0, 0x0, 0x0, 0x0, 0⟩,
  ⟨0x310000B0, 1, 0x4, 1, 0x4, 0x0, 0x0, 0x0, 0x0, 0x7FFF, 0x0, 0x0, 0⟩,
  ⟨0x31000100, 1, 0x4, 4, 0x100, 0x0, 0xFFFFFFFF, 0x0, 0x0, 0x0, 0x0, 0x0, 1⟩,
  ⟨0x31000104, 1, 0x4, 4, 0x100, 0x0, 0xFFFFFFFF, 0x0, 0x0, 0x0, 0x0, 0x0, 2⟩,
  ⟨0x31000108, 1, 0x4, 4, 0x100, 0x0, 0x0, 0x17, 0x0, 0x0, 0x0, 0x0, 0⟩,
  ⟨0x3100010C, 1, 0x4, 4, 0x100, 0x0, 0x3F, 0x0, 0x0, 0x0, 0x0, 0x0, 0⟩,
  ⟨0x31000110, 1, 0x4, 4, 0x100, 0x0, 0x0, 0x0, 0xFFFFFFFF, 0x0, 0x0, 0x0, 1⟩,
  ⟨0x31000114, 1, 0x4, 4, 0x100, 0x0, 0x0, 0x0, 0xFFFFFFFF, 0x0, 0x0, 0x0, 2⟩,
  ⟨0x31000118, 1, 0x4, 4, 0x100, 0x0, 0x0, 0x0, 0xFFFFFFFF, 0x0, 0x0, 0x0, 0⟩,
  ⟨0x3100011C, 1, 0x4, 4, 0x100, 0x0, 0x0, 0xFFFFFFFF, 0x0, 0x0, 0x0, 0x0, 0⟩,
  ⟨0x31000120, 1, 0x4, 4, 0x100, 0x0, 0x0, 0xFFFFFFFF, 0x0, 0x0, 0x0, 0x0, 0⟩,
  ⟨0x31000124, 1, 0x4, 4, 0x100, 0x0, 0x0, 0x3FFFF, 0x0, 0x0, 0x0, 0x0, 0⟩,
  ⟨0x31000128, 1, 0x4, 4, 0x100, 0x0, 0x0, 0xFFFFFFFF, 0x0, 0x0, 0x0, 0x0, 0⟩,
  ⟨0x3100012C, 1, 0x4, 4, 0x100, 0x0, 0x0, 0xFFFFFFFF, 0x0, 0x0, 0x0, 0x0, 0⟩,
  ⟨0x31000130, 1, 0x4, 4, 0x100, 0x0, 0xFFFFFFFF, 0x0, 0x0, 0x0, 0x0, 0x0, 0⟩,
  ⟨0x31000134, 1, 0x4, 4, 0x100, 0x0, 0xFFFFFFFF, 0x0, 0x0, 0x0, 0x0, 0x0, 0⟩,
  ⟨0x31000138, 1, 0x4, 4, 0x100, 0x0, 0x0, 0x0, 0x0, 0x0, 0xFFFFFFFF, 0x0, 0⟩,
  ⟨0x3100013C, 1, 0x4, 4, 0x100, 0x0, 0xFFFFFFFF, 0x0, 0x0, 0x0, 0x0, 0x0, 0⟩,
  ⟨0x31000140, 1, 0x4, 4, 0x100, 0x0, 0x0, 0xFFFFFFFF, 0x0, 0x0, 0x0, 0x0, 0⟩,
  ⟨0x31000144, 1, 0x4, 4, 0x100, 0x0, 0xFFFFFFFF, 0x0, 0x0, 0x0, 0x0, 0x0, 0⟩]

/-- The registers of block WRP (04_warp_ring_operation.md, R121, R122), in the order: WRP_CTRL, WRP_WRAP_CUT, WRP_EVENTS, WRP_RINGn_STATE, WRP_RINGn_CMD, WRP_RINGn_MANDATE, WRP_RINGn_WRAP, WRP_RINGn_PATH_LO, WRP_RINGn_PATH_HI, WRP_RINGn_TRET, WRP_RINGn_WRAP_BOUND, WRP_RINGn_SYNC_CFG, WRP_RINGn_LOSS, WRP_RINGn_PRESENT_LO, WRP_RINGn_PRESENT_HI, WRP_RINGn_SYNCOK_LO, WRP_RINGn_SYNCOK_HI, WRP_RINGn_CNT0, WRP_RINGn_CNT1, WRP_RINGn_CNT2, WRP_RINGn_NODEFLT_LO, WRP_RINGn_NODEFLT_HI, WRP_RINGn_REPLACED_LO, WRP_RINGn_REPLACED_HI. -/
def wrpSpecs : List RegSpec := [
  ⟨0x30000000, 1, 0x4, 1, 0x4, 0xF0, 0x0, 0xFF, 0x0, 0x0, 0x0, 0x0, 0⟩,
  ⟨0x30000004, 1, 0x4, 1, 0x4, 0x0, 0x1FFFF, 0x0, 0x0, 0x0, 0x0, 0x0, 0⟩,
  ⟨0x30000008, 1, 0x4, 1, 0x4, 0x0, 0x0, 0x0, 0x0, 0xFFFF, 0x0, 0x0, 0⟩,
  ⟨0x30000100, 1, 0x4, 4, 0x100, 0x100, 0x3F3F070F, 0x0, 0x0, 0x0, 0x0, 0x0, 0⟩,
  ⟨0x30000104, 1, 0x4, 4, 0x100, 0x0, 0x0, 0x0, 0xFC03, 0x0, 0x0, 0x0, 0⟩,
  ⟨0x30000108, 1, 0x4, 4, 0x100, 0x0, 0xFFFF, 0x0, 0x0, 0x0, 0x0, 0x0, 0⟩,
  ⟨0x3000010C, 1, 0x4, 4, 0x100, 0x0, 0x3F3F, 0x0, 0x0, 0x0, 0x0, 0x0, 0⟩,
  ⟨0x30000110, 1, 0x4, 4, 0x100, 0x0, 0xFFFFFFFF, 0x0, 0x0, 0x0, 0x0, 0x0, 1⟩,
  ⟨0x30000114, 1, 0x4, 4, 0x100, 0x0, 0xFFFFFFFF, 0x0, 0x0, 0x0, 0x0, 0x0, 2⟩,
  ⟨0x30000118, 1, 0x4, 4, 0x100, 0x0, 0xFFFF, 0x0, 0x0, 0x0, 0x0, 0x0, 0⟩,
  ⟨0x3000011C, 1, 0x4, 4, 0x100, 0x0, 0xFFFF, 0x0, 0x0, 0x0, 0x0, 0x0, 0⟩,
  ⟨0x30000120, 1, 0x4, 4, 0x100, 0x2801, 0x0, 0xFFFF, 0x0, 0x0, 0x0, 0x0, 0⟩,
  ⟨0x30000124, 1, 0x4, 4, 0x100, 0x4, 0x0, 0xF, 0x0, 0x0, 0x0, 0x0, 0⟩,
  ⟨0x30000128, 1, 0x4, 4, 0x100, 0x0, 0xFFFFFFFF, 0x0, 0x0, 0x0, 0x0, 0x0, 1⟩,
  ⟨0x3000012C, 1, 0x4, 4, 0x100, 0x0, 0xFF, 0x0, 0x0, 0x0, 0x0, 0x0, 2⟩,
  ⟨0x30000130, 1, 0x4, 4, 0x100, 0x0, 0xFFFFFFFF, 0x0, 0x0, 0x0, 0x0, 0x0, 1⟩,
  ⟨0x30000134, 1, 0x4, 4, 0x100, 0x0, 0xFF, 0x0, 0x0, 0x0, 0x0, 0x0, 2⟩,
  ⟨0x30000138, 1, 0x4, 4, 0x100, 0x0, 0x0, 0x0, 0x0, 0x0, 0xFFFFFFFF, 0x0, 0⟩,
  ⟨0x3000013C, 1, 0x4, 4, 0x100, 0x0, 0x0, 0x0, 0x0, 0x0, 0xFFFFFFFF, 0x0, 0⟩,
  ⟨0x30000140, 1, 0x4, 4, 0x100, 0x0, 0x0, 0x0, 0x0, 0x0, 0xFFFFFFFF, 0x0, 0⟩,
  ⟨0x30000144, 1, 0x4, 4, 0x100, 0x0, 0x0, 0x0, 0x0, 0xFFFFFFFF, 0x0, 0x0, 1⟩,
  ⟨0x30000148, 1, 0x4, 4, 0x100, 0x0, 0x0, 0x0, 0x0, 0xFF, 0x0, 0x0, 2⟩,
  ⟨0x3000014C, 1, 0x4, 4, 0x100, 0x0, 0x0, 0x0, 0x0, 0xFFFFFFFF, 0x0, 0x0, 1⟩,
  ⟨0x30000150, 1, 0x4, 4, 0x100, 0x0, 0x0, 0x0, 0x0, 0xFF, 0x0, 0x0, 2⟩]

/-- The registers of block HDL (05_heddle_engines.md, R152, R245), in the order: HDL_CTRL, HDL_STATUS, HDL_PAT_CMD, HDL_PAT_STATUS, HDL_WCET, HDL_RUN_CLK, HDL_SEG_EN, HDL_SEG_ACT, HDL_SEGn_RANGE, HDL_COEF_CTRL, HDL_COEF_SWAP_CYC, HDL_OVR, HDL_EVENTS, HDL_SAT, HDL_PRESET, HDL_IMG, HDL_ECC_CNT, HDL_SATMAPn, HDL_IN_MAPj, HDL_HOV_CTRL, HDL_HOV_SEGS, HDL_HOV_CFG, HDL_HOV_LIM, HDL_HOV_GAP, HDL_HOV_XFD, HDL_HOV_STATUS, HDL_HOV_CNT, HDL_TUNE_EVENTS, HDL_RLYu_CTRL, HDL_RLYu_TMO, HDL_RLYu_STAT, HDL_RLYu_PER, HDL_RLYu_AMP, HDL_RLYu_CTR, HDL_RLYu_KU, HDL_RLYu_PHI. -/
def hdlSpecs : List RegSpec := [
  ⟨0x20030000, 1, 0x4, 8, 0x40000, 0x0, 0x0, 0x705, 0x2, 0x0, 0x0, 0x0, 0⟩,
  ⟨0x20030004, 1, 0x4, 8, 0x40000, 0x0, 0xFF00000F, 0x0, 0x0, 0x0, 0x0, 0x0, 0⟩,
  ⟨0x20030008, 1, 0x4, 8, 0x40000, 0x0, 0x0, 0x0, 0x1, 0x0, 0x0, 0x0, 0⟩,
  ⟨0x2003000C, 1, 0x4, 8, 0x40000, 0x0, 0xC0FF07FF, 0x0, 0x0, 0x0, 0x0, 0x0, 0⟩,
  ⟨0x20030010, 1, 0x4, 8, 0x40000, 0x0, 0xFFFF, 0x0, 0x0, 0x0, 0x0, 0x0, 0⟩,
  ⟨0x20030014, 1, 0x4, 8, 0x40000, 0x0, 0xFFFF, 0x0, 0x0, 0x0, 0xFFFF0000, 0x0, 0⟩,
  ⟨0x20030020, 1, 0x4, 8, 0x40000, 0x0, 0x0, 0xFFFF, 0x0, 0x0, 0x0, 0x0, 0⟩,
  ⟨0x20030024, 1, 0x4, 8, 0x40000, 0x0, 0xFFFF, 0x0, 0x0, 0x0, 0x0, 0x0, 0⟩,
  ⟨0x20030040, 8, 0x40000, 16, 0x4, 0x0, 0x0, 0x7FF87FF, 0x0, 0x0, 0x0, 0x0, 0⟩,
  ⟨0x20030080, 1, 0x4, 8, 0x40000, 0x0, 0x1300, 0x8, 0x7, 0x0, 0x0, 0x0, 0⟩,
  ⟨0x20030084, 1, 0x4, 8, 0x40000, 0x0, 0x0, 0xFFFFFFFF, 0x0, 0x0, 0x0, 0x0, 0⟩,
  ⟨0x20030090, 1, 0x4, 8, 0x40000, 0x0, 0x0, 0x0, 0x0, 0x0, 0xFFFFFFFF, 0x0, 0⟩,
  ⟨0x20030094, 1, 0x4, 8, 0x40000, 0x0, 0x0, 0x0, 0x0, 0x1FF, 0x0, 0x0, 0⟩,
  ⟨0x20030098, 1, 0x4, 8, 0x40000, 0x0, 0xFFF, 0x0, 0x0, 0x0, 0xFFFF0000, 0x0, 0⟩,
  ⟨0x2003009C, 1, 0x4, 8, 0x40000, 0x0, 0x7F, 0x0, 0x0, 0x0, 0x0, 0x0, 0⟩,
  ⟨0x200300A0, 1, 0x4, 8, 0x40000, 0x0, 0x0, 0x7FF, 0x0, 0x0, 0x0, 0x0, 0⟩,
  ⟨0x200300A4, 1, 0x4, 8, 0x40000, 0x0, 0x0, 0x0, 0x0, 0x0, 0xFFFF, 0x0, 0⟩,
  ⟨0x20030100, 8, 0x40000, 64, 0x4, 0x0, 0x0, 0x0, 0x0, 0xFFFFFFFF, 0x0, 0x0, 0⟩,
  ⟨0x20032000, 8, 0x40000, 464, 0x4, 0x0, 0x0, 0xFFFFFFFF, 0x0, 0x0, 0x0, 0x0, 0⟩,
  ⟨0x20032800, 1, 0x4, 8, 0x40000, 0x0, 0x0, 0x0, 0x3, 0x0, 0x0, 0x0, 0⟩,
  ⟨0x20032804, 1, 0x4, 8, 0x40000, 0x0, 0x0, 0x8000FFFF, 0x0, 0x0, 0x0, 0x0, 0⟩,
  ⟨0x20032808, 1, 0x4, 8, 0x40000, 0x280802, 0x0, 0xFFFFFF0F, 0x0, 0x0, 0x0, 0x0, 0⟩,
  ⟨0x2003280C, 1, 0x4, 8, 0x40000, 0x51F, 0x0, 0xFFFF, 0x0, 0x0, 0x0, 0x0, 0⟩,
  ⟨0x20032810, 1, 0x4, 8, 0x40000, 0x0, 0x0, 0xF1FFF, 0x0, 0x0, 0x0, 0x0, 0⟩,
  ⟨0x20032814, 1, 0x4, 8, 0x40000, 0x0, 0x0, 0x3FF, 0x0, 0x0, 0x0, 0x0, 0⟩,
  ⟨0x20032818, 1, 0x4, 8, 0x40000, 0x0, 0xFFFFFF37, 0x0, 0x0, 0x0, 0x0, 0x0, 0⟩,
  ⟨0x2003281C, 1, 0x4, 8, 0x40000, 0x0, 0x0, 0x0, 0x0, 0x0, 0xFFFFFFFF, 0x0, 0⟩,
  ⟨0x20032820, 1, 0x4, 8, 0x40000, 0x0, 0x0, 0x0, 0x0, 0xFFF, 0x0, 0x0, 0⟩,
  ⟨0x20032900, 8, 0x40000, 4, 0x20, 0xD0420, 0x0, 0xFF0FF0, 0x3, 0x0, 0x0, 0x0, 0⟩,
  ⟨0x20032904, 8, 0x40000, 4, 0x20, 0x400FA0, 0x0, 0xFFFFFFFF, 0x0, 0x0, 0x0, 0x0, 0⟩,
  ⟨0x20032908, 8, 0x40000, 4, 0x20, 0x0, 0xFF00FF07, 0x0, 0x0, 0x0, 0x0, 0x0, 0⟩,
  ⟨0x2003290C, 8, 0x40000, 4, 0x20, 0x0, 0xFFFFFFFF, 0x0, 0x0, 0x0, 0x0, 0x0, 0⟩,
  ⟨0x20032910, 8, 0x40000, 4, 0x20, 0x0, 0xFFFFFFFF, 0x0, 0x0, 0x0, 0x0, 0x0, 0⟩,
  ⟨0x20032914, 8, 0x40000, 4, 0x20, 0x0, 0xFFFFFFFF, 0x0, 0x0, 0x0, 0x0, 0x0, 0⟩,
  ⟨0x20032918, 8, 0x40000, 4, 0x20, 0x0, 0xFFFFFFFF, 0x0, 0x0, 0x0, 0x0, 0x0, 0⟩,
  ⟨0x2003291C, 8, 0x40000, 4, 0x20, 0x0, 0xFFFF, 0x0, 0x0, 0x0, 0x0, 0x0, 0⟩]

/-- The registers of block WVR (07_weaver_and_draft.md, R209, R210, R226), in the order: WVR_CTRL, WVR_STATUS, WVR_ENTRIES, WVR_DUR, WVR_EVENTS, WVR_CNT, WVR_PH_MAX, WVR_RINGr_HEAD, WVR_RINGr_SLOTS, WVR_STRs_CFG, WVR_STRs_CAR_PER, WVR_STRs_EN, WVR_STRs_NIN, WVR_CARPHs_p, WVR_QUADq_PER, WVR_QUADq_CFG, WVR_CHn_CFG, WVR_RINGr_EPSa, WVR_BYP_ADDR, WVR_BYP_CLOSE, WVR_BYP_OPEN, WVR_BYP_TMO, WVR_RWV_EVENTS, WVR_STRs_OOS, WVR_STRs_OOS_SET, WVR_STRs_OOS_CLR, WVR_STRs_RWV, WVR_STRs_DEMAND, WVR_STRs_HEAD, WVR_STRs_BYP, WVR_STRs_RET. -/
def wvrSpecs : List RegSpec := [
  ⟨0x24000000, 1, 0x4, 1, 0x4, 0x1, 0x0, 0x1, 0x0, 0x0, 0x0, 0x0, 0⟩,
  ⟨0x24000004, 1, 0x4, 1, 0x4, 0x0, 0x3, 0x0, 0x0, 0x0, 0x0, 0x0, 0⟩,
  ⟨0x24000008, 1, 0x4, 1, 0x4, 0x0, 0x3FFF, 0x0, 0x0, 0x0, 0x3FFF0000, 0x0, 0⟩,
  ⟨0x2400000C, 1, 0x4, 1, 0x4, 0x0, 0xFFFF, 0x0, 0x0, 0x0, 0xFFFF0000, 0x0, 0⟩,
  ⟨0x24000010, 1, 0x4, 1, 0x4, 0x0, 0x0, 0x0, 0x0, 0x7F, 0x0, 0x0, 0⟩,
  ⟨0x24000014, 1, 0x4, 1, 0x4, 0x0, 0x0, 0x0, 0x0, 0x0, 0xFFFFFFFF, 0x0, 0⟩,
  ⟨0x24000018, 1, 0x4, 1, 0x4, 0x4000, 0x0, 0xFFFF, 0x0, 0x0, 0x0, 0x0, 0⟩,
  ⟨0x24000020, 1, 0x4, 4, 0x4, 0x0, 0x3FFF1FFF, 0x0, 0x0, 0x0, 0x0, 0x0, 0⟩,
  ⟨0x24000030, 1, 0x4, 4, 0x4, 0x0, 0xFFFFF, 0x0, 0x0, 0x0, 0x0, 0x0, 0⟩,
  ⟨0x24000100, 1, 0x4, 3, 0x20, 0x0, 0x0, 0x3, 0x0, 0x0, 0x0, 0x0, 0⟩,
  ⟨0x24000104, 1, 0x4, 3, 0x20, 0x0, 0x0, 0x1FFFFF, 0x0, 0x0, 0x0, 0x0, 0⟩,
  ⟨0x24000108, 1, 0x4, 3, 0x20, 0x0, 0x0, 0xFFFFFFFF, 0x0, 0x0, 0x0, 0x0, 0⟩,
  ⟨0x2400010C, 1, 0x4, 3, 0x20, 0x0, 0x3F, 0x0, 0x0, 0x0, 0x0, 0x0, 0⟩,
  ⟨0x24000400, 3, 0x80, 32, 0x4, 0x0, 0x0, 0xFFFFFFFF, 0x0, 0x0, 0x0, 0x0, 0⟩,
  ⟨0x24000800, 1, 0x4, 24, 0x10, 0x0, 0x0, 0x3FFFF, 0x0, 0x0, 0x0, 0x0, 0⟩,
  ⟨0x24000804, 1, 0x4, 24, 0x10, 0x0, 0x0, 0xFFFF0003, 0x0, 0x0, 0x0, 0x0, 0⟩,
  ⟨0x24001000, 1, 0x4, 1024, 0x4, 0x0, 0xFF000000, 0x1F77, 0x0, 0x0, 0x0, 0x0, 0⟩,
  ⟨0x24002004, 4, 0x100, 40, 0x4, 0x0, 0xFFFFFFFF, 0x0, 0x0, 0x0, 0x0, 0x0, 0⟩,
  ⟨0x24000040, 1, 0x4, 1, 0x4, 0x0, 0x0, 0x0, 0x0, 0x0, 0x0, 0xFFFFFFFF, 0⟩,
  ⟨0x24000044, 1, 0x4, 1, 0x4, 0x0, 0x0, 0x0, 0x0, 0x0, 0x0, 0xFFFFFFFF, 0⟩,
  ⟨0x24000048, 1, 0x4, 1, 0x4, 0x0, 0x0, 0x0, 0x0, 0x0, 0x0, 0xFFFFFFFF, 0⟩,
  ⟨0x2400004C, 1, 0x4, 1, 0x4, 0x14, 0x0, 0x3FF, 0x0, 0x0, 0x0, 0x0, 0⟩,
  ⟨0x24000050, 1, 0x4, 1, 0x4, 0x0, 0x0, 0x0, 0x0, 0x7777, 0x0, 0x0, 0⟩,
  ⟨0x24000110, 1, 0x4, 3, 0x20, 0x0, 0xFFFFFFFF, 0x0, 0x0, 0x0, 0x0, 0x0, 0⟩,
  ⟨0x24000114, 1, 0x4, 3, 0x20, 0x0, 0x0, 0x0, 0xFFFFFFFF, 0x0, 0x0, 0x0, 0⟩,
  ⟨0x24000118, 1, 0x4, 3, 0x20, 0x0, 0x0, 0x0, 0xFFFFFFFF, 0x0, 0x0, 0x0, 0⟩,
  ⟨0x2400011C, 1, 0x4, 3, 0x20, 0x4720, 0x0, 0x7F3F, 0x0, 0x0, 0x0, 0x0, 0⟩,
  ⟨0x24000180, 1, 0x4, 3, 0x10, 0x0, 0x0, 0xFFFFFFFF, 0x0, 0x0, 0x0, 0x0, 0⟩,
  ⟨0x24000184, 1, 0x4, 3, 0x10, 0x80000000, 0xFFFFFFFF, 0x0, 0x0, 0x0, 0x0, 0x0, 0⟩,
  ⟨0x24000188, 1, 0x4, 3, 0x10, 0x0, 0xFFFFFFFF, 0x0, 0x0, 0x0, 0x0, 0x0, 0⟩,
  ⟨0x2400018C, 1, 0x4, 3, 0x10, 0x0, 0xFFFFFFFF, 0x0, 0x0, 0x0, 0x0, 0x0, 0⟩]

/-- The registers of block SRT (08_balancing_and_cell_redundancy.md, R225), in the order: SRT_EVENTS, SRT_WAIT, SRT_CNT, SRT_LANEn_STAT, SRT_LANEn_CYC, SRT_LANEn_MASK, SRT_LANEn_SWAPCNT, SRT_LANEn_ORDERj. -/
def srtSpecs : List RegSpec := [
  ⟨0x25000000, 1, 0x4, 1, 0x4, 0x0, 0x0, 0x0, 0x0, 0x3, 0x0, 0x0, 0⟩,
  ⟨0x25000004, 1, 0x4, 1, 0x4, 0x0, 0xFFFF, 0x0, 0x0, 0x0, 0xFFFF0000, 0x0, 0⟩,
  ⟨0x25000008, 1, 0x4, 1, 0x4, 0x0, 0x0, 0x0, 0x0, 0x0, 0xFFFFFFFF, 0x0, 0⟩,
  ⟨0x25000100, 1, 0x4, 4, 0x100, 0x0, 0xFF07FF, 0x0, 0x0, 0x0, 0x0, 0x0, 0⟩,
  ⟨0x25000104, 1, 0x4, 4, 0x100, 0x0, 0xFFFFFFFF, 0x0, 0x0, 0x0, 0x0, 0x0, 0⟩,
  ⟨0x25000108, 1, 0x4, 4, 0x100, 0x0, 0xFFFFFFFF, 0x0, 0x0, 0x0, 0x0, 0x0, 0⟩,
  ⟨0x2500010C, 1, 0x4, 4, 0x100, 0x0, 0x0, 0x0, 0x0, 0x0, 0xFFFFFFFF, 0x0, 0⟩,
  ⟨0x25000140, 4, 0x100, 32, 0x4, 0x0, 0x1F, 0x0, 0x0, 0x0, 0x0, 0x0, 0⟩]

/-- The registers of block CAP (09_tuning_identification_handover.md, R246), in the order: CAP_CTRL, CAP_STATUS, CAP_CFG, CAP_POST, CAP_TRIG_LO, CAP_TRIG_HI, CAP_TRIG_ROW, CAP_TRIG_CYC, CAP_WPTR, CAP_ROWS, CAP_RELEASE, CAP_EVENTS, CAP_LOST, CAP_CHn. -/
def capSpecs : List RegSpec := [
  ⟨0x26000000, 1, 0x4, 1, 0x4, 0x8, 0x0, 0x338, 0x5, 0x0, 0x0, 0x0, 0⟩,
  ⟨0x26000004, 1, 0x4, 1, 0x4, 0x0, 0x77, 0x0, 0x0, 0x0, 0x0, 0x0, 0⟩,
  ⟨0x26000008, 1, 0x4, 1, 0x4, 0x10001, 0x0, 0xFFFF001F, 0x0, 0x0, 0x0, 0x0, 0⟩,
  ⟨0x2600000C, 1, 0x4, 1, 0x4, 0x0, 0x0, 0x7FFFF, 0x0, 0x0, 0x0, 0x0, 0⟩,
  ⟨0x26000010, 1, 0x4, 1, 0x4, 0x0, 0x0, 0xFFFFFFFF, 0x0, 0x0, 0x0, 0x0, 1⟩,
  ⟨0x26000014, 1, 0x4, 1, 0x4, 0x0, 0x0, 0xFFFFFFFF, 0x0, 0x0, 0x0, 0x0, 2⟩,
  ⟨0x26000018, 1, 0x4, 1, 0x4, 0x0, 0x3FFFF, 0x0, 0x0, 0x0, 0x0, 0x0, 0⟩,
  ⟨0x2600001C, 1, 0x4, 1, 0x4, 0x0, 0xFFFFFFFF, 0x0, 0x0, 0x0, 0x0, 0x0, 0⟩,
  ⟨0x26000020, 1, 0x4, 1, 0x4, 0x0, 0x3FFFF, 0x0, 0x0, 0x0, 0x0, 0x0, 0⟩,
  ⟨0x26000024, 1, 0x4, 1, 0x4, 0x20000, 0x7FFFF, 0x0, 0x0, 0x0, 0x0, 0x0, 0⟩,
  ⟨0x26000028, 1, 0x4, 1, 0x4, 0x0, 0x0, 0x0, 0x3, 0x0, 0x0, 0x0, 0⟩,
  ⟨0x2600002C, 1, 0x4, 1, 0x4, 0x0, 0x0, 0x0, 0x0, 0x3F, 0x0, 0x0, 0⟩,
  ⟨0x26000030, 1, 0x4, 1, 0x4, 0x0, 0x0, 0x0, 0x0, 0x0, 0xFFFFFFFF, 0x0, 0⟩,
  ⟨0x26000100, 1, 0x4, 16, 0x4, 0x0, 0x0, 0xFFFF, 0x0, 0x0, 0x0, 0x0, 0⟩]

/-- The registers of block GFT (10_duplex_and_graft_link.md, R272), in the order: GFT_CTRL, GFT_CFG, GFT_REVERT, GFT_CMD, GFT_STATUS, GFT_IMG, GFT_CONFIG_ID, GFT_PEER_ID, GFT_DELAY_LO, GFT_DELAY_HI, GFT_ASYM, GFT_MSEQ, GFT_SUPVn, GFT_EVENTS, GFT_CNT0, GFT_CNT1, GFT_CNT2. -/
def gftSpecs : List RegSpec := [
  ⟨0x32000000, 1, 0x4, 1, 0x4, 0x6, 0x0, 0x0, 0x0, 0x0, 0x0, 0x7, 0⟩,
  ⟨0x32000004, 1, 0x4, 1, 0x4, 0x7D00000, 0x0, 0x0, 0x0, 0x0, 0x0, 0xFFFF0007, 0⟩,
  ⟨0x32000008, 1, 0x4, 1, 0x4, 0xA, 0xFFFF0000, 0xFFFF, 0x0, 0x0, 0x0, 0x0, 0⟩,
  ⟨0x3200000C, 1, 0x4, 1, 0x4, 0x0, 0x0, 0x0, 0x3, 0x0, 0x0, 0x0, 0⟩,
  ⟨0x32000010, 1, 0x4, 1, 0x4, 0x0, 0xFF000F77, 0x0, 0x0, 0x0, 0x0, 0x0, 0⟩,
  ⟨0x32000014, 1, 0x4, 1, 0x4, 0x60000000, 0xFFFFFFFF, 0x0, 0x0, 0x0, 0x0, 0x0, 0⟩,
  ⟨0x32000018, 1, 0x4, 1, 0x4, 0x0, 0xFFFFFFFF, 0x0, 0x0, 0x0, 0x0, 0x0, 0⟩,
  ⟨0x3200001C, 1, 0x4, 1, 0x4, 0x0, 0xFFFFFFFF, 0x0, 0x0, 0x0, 0x0, 0x0, 0⟩,
  ⟨0x32000020, 1, 0x4, 1, 0x4, 0x0, 0xFFFFFFFF, 0x0, 0x0, 0x0, 0x0, 0x0, 1⟩,
  ⟨0x32000024, 1, 0x4, 1, 0x4, 0x0, 0xFFFFFFFF, 0x0, 0x0, 0x0, 0x0, 0x0, 2⟩,
  ⟨0x32000028, 1, 0x4, 1, 0x4, 0x0, 0x0, 0x0, 0x0, 0x0, 0x0, 0xFFFFFFFF, 0⟩,
  ⟨0x3200002C, 1, 0x4, 1, 0x4, 0x0, 0xFFFFFFFF, 0x0, 0x0, 0x0, 0x0, 0x0, 0⟩,
  ⟨0x32000040, 1, 0x4, 6, 0x4, 0x0, 0x0, 0xFFFFFFFF, 0x0, 0x0, 0x0, 0x0, 0⟩,
  ⟨0x32000060, 1, 0x4, 1, 0x4, 0x0, 0x0, 0x0, 0x0, 0x3FF, 0x0, 0x0, 0⟩,
  ⟨0x32000064, 1, 0x4, 1, 0x4, 0x0, 0x0, 0x0, 0x0, 0x0, 0xFFFFFFFF, 0x0, 0⟩,
  ⟨0x32000068, 1, 0x4, 1, 0x4, 0x0, 0x0, 0x0, 0x0, 0x0, 0xFFFFFFFF, 0x0, 0⟩,
  ⟨0x3200006C, 1, 0x4, 1, 0x4, 0x0, 0x0, 0x0, 0x0, 0x0, 0xFFFFFFFF, 0x0, 0⟩]

/-- The registers of block SAF (11_safety_functions.md, R301), in the order: SAF_STATUS, SAF_DEMAND, SAF_LATCH, SAF_LAST_LO, SAF_LAST_HI, SAF_IN, SAF_OUT, SAF_SEAL, SAF_PARAM_ID, SAF_REMOTE, SAF_DEG_LEFT, SAF_CNT0, SAF_CNT1, SAF_FW_ID. -/
def safSpecs : List RegSpec := [
  ⟨0x40000000, 1, 0x4, 1, 0x4, 0x7, 0x3F, 0x0, 0x0, 0x0, 0x0, 0x0, 0⟩,
  ⟨0x40000004, 1, 0x4, 1, 0x4, 0x8000, 0xFFFFFFFF, 0x0, 0x0, 0x0, 0x0, 0x0, 0⟩,
  ⟨0x40000008, 1, 0x4, 1, 0x4, 0x8000, 0xFFFFFFFF, 0x0, 0x0, 0x0, 0x0, 0x0, 0⟩,
  ⟨0x40000010, 1, 0x4, 1, 0x4, 0x0, 0xFFFFFFFF, 0x0, 0x0, 0x0, 0x0, 0x0, 1⟩,
  ⟨0x40000014, 1, 0x4, 1, 0x4, 0x0, 0xFFFFFFFF, 0x0, 0x0, 0x0, 0x0, 0x0, 2⟩,
  ⟨0x40000020, 1, 0x4, 1, 0x4, 0x0, 0xFFFFFFF, 0x0, 0x0, 0x0, 0x0, 0x0, 0⟩,
  ⟨0x40000024, 1, 0x4, 1, 0x4, 0x0, 0x3FF, 0x0, 0x0, 0x0, 0x0, 0x0, 0⟩,
  ⟨0x40000028, 1, 0x4, 1, 0x4, 0x0, 0xFF07FFFF, 0x0, 0x0, 0x0, 0x0, 0x0, 0⟩,
  ⟨0x4000002C, 1, 0x4, 1, 0x4, 0x0, 0xFFFFFFFF, 0x0, 0x0, 0x0, 0x0, 0x0, 0⟩,
  ⟨0x40000030, 1, 0x4, 1, 0x4, 0x0, 0xFFFFFFFF, 0x0, 0x0, 0x0, 0x0, 0x0, 0⟩,
  ⟨0x40000034, 1, 0x4, 1, 0x4, 0x0, 0x1FFFF, 0x0, 0x0, 0x0, 0x0, 0x0, 0⟩,
  ⟨0x40000040, 1, 0x4, 1, 0x4, 0x0, 0xFFFFFFFF, 0x0, 0x0, 0x0, 0x0, 0x0, 0⟩,
  ⟨0x40000044, 1, 0x4, 1, 0x4, 0x0, 0xFFFFFFFF, 0x0, 0x0, 0x0, 0x0, 0x0, 0⟩,
  ⟨0x40000050, 1, 0x4, 1, 0x4, 0x0, 0xFFFFFFFF, 0x0, 0x0, 0x0, 0x0, 0x0, 0⟩]

/-- The registers of block FLT (12_faults_and_change_journal.md, R322), in the order: FLT_STATUS, FLT_ACK, FLT_CLEAR, FLT_CNT, FLT_NEWEST, FLT_EVENTS, FLT_RECn_STAT, FLT_RECn_CODES, FLT_RECn_ACTIVE, FLT_RECn_SRC, FLT_RECn_MERGE, FLT_RECn_FIRST_LO, FLT_RECn_FIRST_HI, FLT_RECn_LAST_LO, FLT_RECn_LAST_HI, FLT_RECn_FEC_ADDR, FLT_RECn_FEC_INFO, FLT_INJ. -/
def fltSpecs : List RegSpec := [
  ⟨0x41000000, 1, 0x4, 1, 0x4, 0x0, 0xFFFF0707, 0x0, 0x0, 0x0, 0x0, 0x0, 0⟩,
  ⟨0x41000004, 1, 0x4, 1, 0x4, 0x0, 0x0, 0x0, 0x3F, 0x0, 0x0, 0x0, 0⟩,
  ⟨0x41000008, 1, 0x4, 1, 0x4, 0x0, 0x0, 0x0, 0x3F, 0x0, 0x0, 0x0, 0⟩,
  ⟨0x4100000C, 1, 0x4, 1, 0x4, 0x0, 0x0, 0x0, 0x0, 0x0, 0xFFFFFFFF, 0x0, 0⟩,
  ⟨0x41000010, 1, 0x4, 1, 0x4, 0x0, 0x7F, 0x0, 0x0, 0x0, 0x0, 0x0, 0⟩,
  ⟨0x41000014, 1, 0x4, 1, 0x4, 0x0, 0x0, 0x0, 0x0, 0x7, 0x0, 0x0, 0⟩,
  ⟨0x41000100, 1, 0x4, 64, 0x40, 0x0, 0xDF1FFFFF, 0x0, 0x0, 0x0, 0x0, 0x0, 0⟩,
  ⟨0x41000104, 1, 0x4, 64, 0x40, 0x0, 0xFFFFFFFF, 0x0, 0x0, 0x0, 0x0, 0x0, 0⟩,
  ⟨0x41000108, 1, 0x4, 64, 0x40, 0x0, 0xFFFFFFFF, 0x0, 0x0, 0x0, 0x0, 0x0, 0⟩,
  ⟨0x4100010C, 1, 0x4, 64, 0x40, 0x0, 0xFFFFFFFF, 0x0, 0x0, 0x0, 0x0, 0x0, 0⟩,
  ⟨0x41000110, 1, 0x4, 64, 0x40, 0x0, 0xFFFFFFFF, 0x0, 0x0, 0x0, 0x0, 0x0, 0⟩,
  ⟨0x41000114, 1, 0x4, 64, 0x40, 0x0, 0xFFFFFFFF, 0x0, 0x0, 0x0, 0x0, 0x0, 1⟩,
  ⟨0x41000118, 1, 0x4, 64, 0x40, 0x0, 0xFFFFFFFF, 0x0, 0x0, 0x0, 0x0, 0x0, 2⟩,
  ⟨0x4100011C, 1, 0x4, 64, 0x40, 0x0, 0xFFFFFFFF, 0x0, 0x0, 0x0, 0x0, 0x0, 1⟩,
  ⟨0x41000120, 1, 0x4, 64, 0x40, 0x0, 0xFFFFFFFF, 0x0, 0x0, 0x0, 0x0, 0x0, 2⟩,
  ⟨0x41000124, 1, 0x4, 64, 0x40, 0x0, 0xFFFFFFFF, 0x0, 0x0, 0x0, 0x0, 0x0, 0⟩,
  ⟨0x41000128, 1, 0x4, 64, 0x40, 0x0, 0xFF033000, 0x0, 0x0, 0x0, 0x0, 0x0, 0⟩,
  ⟨0x41002000, 1, 0x4, 1, 0x4, 0x0, 0x0, 0x0, 0xFFFFFFFF, 0x0, 0x0, 0x0, 0⟩]

/-- The registers of block JNL (12_faults_and_change_journal.md, R323), in the order: JNL_HEAD, JNL_COPIED, JNL_EPOCH, JNL_LOST, JNL_STATUS, JNL_WEAR, JNL_EVENTS, JNL_NOTE_TGT, JNL_NOTE_OLD, JNL_NOTE_NEW. -/
def jnlSpecs : List RegSpec := [
  ⟨0x42000000, 1, 0x4, 1, 0x4, 0x0, 0xFFFFFFFF, 0x0, 0x0, 0x0, 0x0, 0x0, 0⟩,
  ⟨0x42000004, 1, 0x4, 1, 0x4, 0x0, 0xFFFFFFFF, 0x0, 0x0, 0x0, 0x0, 0x0, 0⟩,
  ⟨0x42000008, 1, 0x4, 1, 0x4, 0x0, 0xFFFF, 0x0, 0x0, 0x0, 0x0, 0x0, 0⟩,
  ⟨0x4200000C, 1, 0x4, 1, 0x4, 0x0, 0x0, 0x0, 0x0, 0x0, 0xFFFFFFFF, 0x0, 0⟩,
  ⟨0x42000010, 1, 0x4, 1, 0x4, 0x0, 0xFFFFFF03, 0x0, 0x0, 0x0, 0x0, 0x0, 0⟩,
  ⟨0x42000014, 1, 0x4, 1, 0x4, 0x0, 0xFFFFFFFF, 0x0, 0x0, 0x0, 0x0, 0x0, 0⟩,
  ⟨0x42000018, 1, 0x4, 1, 0x4, 0x0, 0x0, 0x0, 0x0, 0xF, 0x0, 0x0, 0⟩,
  ⟨0x42000020, 1, 0x4, 1, 0x4, 0x0, 0x0, 0xFFFFFFFF, 0x0, 0x0, 0x0, 0x0, 0⟩,
  ⟨0x42000024, 1, 0x4, 1, 0x4, 0x0, 0x0, 0xFFFFFFFF, 0x0, 0x0, 0x0, 0x0, 0⟩,
  ⟨0x42000028, 1, 0x4, 1, 0x4, 0x0, 0x0, 0x0, 0xFFFFFFFF, 0x0, 0x0, 0x0, 0⟩]

/-- The registers of block CMP (13_comparators_and_event_router.md, R342), in the order: CMP_CTRL, CMP_RAW_HOT, CMP_RAW_COLD, CMP_LATCH_HOT, CMP_LATCH_COLD, CMP_UNRES_HOT, CMP_UNRES_COLD, CMP_WINDOW, CMP_EVENTS, CMP_CAL, CMP_Cc_CFG, CMP_Cc_THR, CMP_DACc. -/
def cmpSpecs : List RegSpec := [
  ⟨0x44000000, 1, 0x4, 1, 0x4, 0x1, 0x0, 0x1, 0x0, 0x0, 0x0, 0x0, 0⟩,
  ⟨0x44000010, 1, 0x4, 1, 0x4, 0x0, 0xFFFFFFFF, 0x0, 0x0, 0x0, 0x0, 0x0, 0⟩,
  ⟨0x44000014, 1, 0x4, 1, 0x4, 0x0, 0xFFFFFFFF, 0x0, 0x0, 0x0, 0x0, 0x0, 0⟩,
  ⟨0x44000018, 1, 0x4, 1, 0x4, 0x0, 0x0, 0x0, 0x0, 0xFFFFFFFF, 0x0, 0x0, 0⟩,
  ⟨0x4400001C, 1, 0x4, 1, 0x4, 0x0, 0x0, 0x0, 0x0, 0xFFFFFFFF, 0x0, 0x0, 0⟩,
  ⟨0x44000020, 1, 0x4, 1, 0x4, 0x0, 0xFFFFFFFF, 0x0, 0x0, 0x0, 0x0, 0x0, 0⟩,
  ⟨0x44000024, 1, 0x4, 1, 0x4, 0x0, 0xFFFFFFFF, 0x0, 0x0, 0x0, 0x0, 0x0, 0⟩,
  ⟨0x44000028, 1, 0x4, 1, 0x4, 0x0, 0xFFFFFFFF, 0x0, 0x0, 0x0, 0x0, 0x0, 0⟩,
  ⟨0x44000030, 1, 0x4, 1, 0x4, 0x0, 0x0, 0x0, 0x0, 0x7, 0x0, 0x0, 0⟩,
  ⟨0x44000034, 1, 0x4, 1, 0x4, 0x0, 0xFF, 0x0, 0x0, 0x0, 0xFFFF0000, 0x0, 0⟩,
  ⟨0x44000100, 1, 0x4, 64, 0x8, 0x0, 0x0, 0x8FFF0000, 0x0, 0x0, 0x0, 0x0, 0⟩,
  ⟨0x44000104, 1, 0x4, 64, 0x8, 0x0, 0x0, 0xFF, 0x0, 0x0, 0x0, 0x0, 0⟩,
  ⟨0x44000800, 1, 0x4, 64, 0x4, 0x0, 0x0, 0xCFFF, 0x0, 0x0, 0x0, 0x0, 0⟩]

/-- The registers of block EVR (13_comparators_and_event_router.md, R343), in the order: EVR_SWTRIG_LO, EVR_SWTRIG_HI, EVR_IRQ, EVR_IRQ_EN, EVR_IRQ_CORE, EVR_GDIS, EVR_GDIS_REL, EVR_EVENTS, EVR_UNMASK, EVR_HDLn, EVR_CANj, EVR_FLAGf, EVR_MASKEDj, EVR_STUCKj, EVR_DSTd_CNT, EVR_SRCn_CFG, EVR_SRCn_DST_LO, EVR_SRCn_DST_HI, EVR_SRCn_STAT. -/
def evrSpecs : List RegSpec := [
  ⟨0x43000000, 1, 0x4, 1, 0x4, 0x0, 0x0, 0x0, 0xFFFFFFFF, 0x0, 0x0, 0x0, 0⟩,
  ⟨0x43000004, 1, 0x4, 1, 0x4, 0x0, 0x0, 0x0, 0xFFFFFFFF, 0x0, 0x0, 0x0, 0⟩,
  ⟨0x43000010, 1, 0x4, 1, 0x4, 0x0, 0x0, 0x0, 0x0, 0x3FFFFFF, 0x0, 0x0, 0⟩,
  ⟨0x43000014, 1, 0x4, 1, 0x4, 0x0, 0x0, 0x3FFFFFF, 0x0, 0x0, 0x0, 0x0, 0⟩,
  ⟨0x43000018, 1, 0x4, 1, 0x4, 0x0, 0x0, 0x3FFFFFF, 0x0, 0x0, 0x0, 0x0, 0⟩,
  ⟨0x43000020, 1, 0x4, 1, 0x4, 0x0, 0xF, 0x0, 0x0, 0x0, 0x0, 0x0, 0⟩,
  ⟨0x43000024, 1, 0x4, 1, 0x4, 0x0, 0x0, 0x0, 0xF, 0x0, 0x0, 0x0, 0⟩,
  ⟨0x43000028, 1, 0x4, 1, 0x4, 0x0, 0x0, 0x0, 0x0, 0xF, 0x0, 0x0, 0⟩,
  ⟨0x4300002C, 1, 0x4, 1, 0x4, 0x0, 0x0, 0x0, 0xFF, 0x0, 0x0, 0x0, 0⟩,
  ⟨0x43000040, 1, 0x4, 8, 0x4, 0x0, 0x0, 0x8000001F, 0x0, 0x0, 0x0, 0x0, 0⟩,
  ⟨0x43000060, 1, 0x4, 16, 0x4, 0x0, 0x0, 0x8000001F, 0x0, 0x0, 0x0, 0x0, 0⟩,
  ⟨0x43000100, 1, 0x4, 32, 0x4, 0x0, 0x0, 0x80071FFF, 0x0, 0x0, 0x0, 0x0, 0⟩,
  ⟨0x43000200, 1, 0x4, 8, 0x4, 0x0, 0xFFFFFFFF, 0x0, 0x0, 0x0, 0x0, 0x0, 0⟩,
  ⟨0x43000220, 1, 0x4, 8, 0x4, 0x0, 0xFFFFFFFF, 0x0, 0x0, 0x0, 0x0, 0x0, 0⟩,
  ⟨0x43000400, 1, 0x4, 64, 0x4, 0x0, 0x0, 0x0, 0x0, 0x0, 0xFFFFFFFF, 0x0, 0⟩,
  ⟨0x43001000, 1, 0x4, 256, 0x10, 0x0, 0x0, 0xFFF0FFFF, 0x0, 0x0, 0x0, 0x0, 0⟩,
  ⟨0x43001004, 1, 0x4, 256, 0x10, 0x0, 0x0, 0xFFFFFFFF, 0x0, 0x0, 0x0, 0x0, 1⟩,
  ⟨0x43001008, 1, 0x4, 256, 0x10, 0x0, 0x0, 0xFFFFFFFF, 0x0, 0x0, 0x0, 0x0, 2⟩,
  ⟨0x4300100C, 1, 0x4, 256, 0x10, 0x0, 0x7, 0x0, 0x0, 0x0, 0xFFFF0000, 0x0, 0⟩]

/-- The registers of block GDR (14_aux_power_and_gate_drive.md, R369), in the order: GDR_CTRL, GDR_STATUS, GDR_REL, GDR_RPTONLY, GDR_EVENTS, GDR_CNT, GDR_LEGn_DT, GDR_LEGn_PROT, GDR_LEGn_CNT, GDR_TRIPg. -/
def gdrSpecs : List RegSpec := [
  ⟨0x45000000, 1, 0x4, 1, 0x4, 0x0, 0x0, 0xF, 0x0, 0x0, 0x0, 0x0, 0⟩,
  ⟨0x45000004, 1, 0x4, 1, 0x4, 0x0, 0x7FFFFF, 0x0, 0x0, 0x0, 0x0, 0x0, 0⟩,
  ⟨0x45000008, 1, 0x4, 1, 0x4, 0x0, 0x0, 0x0, 0xF, 0x0, 0x0, 0x0, 0⟩,
  ⟨0x4500000C, 1, 0x4, 1, 0x4, 0x0, 0x0, 0xF, 0x0, 0x0, 0x0, 0x0, 0⟩,
  ⟨0x45000010, 1, 0x4, 1, 0x4, 0x0, 0x0, 0x0, 0x0, 0xFF, 0x0, 0x0, 0⟩,
  ⟨0x45000014, 1, 0x4, 1, 0x4, 0x0, 0x0, 0x0, 0x0, 0x0, 0xFFFFFFFF, 0x0, 0⟩,
  ⟨0x45000040, 1, 0x4, 8, 0x8, 0x3E86414, 0x0, 0xFFFFFFFF, 0x0, 0x0, 0x0, 0x0, 0⟩,
  ⟨0x45000044, 1, 0x4, 8, 0x8, 0xC80064, 0x0, 0x1FF01FF, 0x0, 0x0, 0x0, 0x0, 0⟩,
  ⟨0x45000080, 1, 0x4, 8, 0x4, 0x0, 0x0, 0x0, 0x0, 0x0, 0xFFFFFFFF, 0x0, 0⟩,
  ⟨0x450000A0, 1, 0x4, 4, 0x4, 0x0, 0x1FFFF, 0x0, 0x0, 0x0, 0x0, 0x0, 0⟩]

/-- The registers of block SAP (14_aux_power_and_gate_drive.md, R370), in the order: SAP_STATUS, SAP_CMD, SAP_FLAGS, SAP_CNT, SAP_INACTi, SAP_PFC_VBUS, SAP_PFC_ILIM, SAP_PFC_FREQ, SAP_LOOPx_IREF, SAP_LOOPx_PLIM, SAP_LOOPx_FREQ, SAP_LOOPx_MEAS, SAP_ADCn, SAP_SCALEn. -/
def sapSpecs : List RegSpec := [
  ⟨0x46000000, 1, 0x4, 1, 0x4, 0x0, 0xFFFFF1FF, 0x0, 0x0, 0x0, 0x0, 0x0, 0⟩,
  ⟨0x46000004, 1, 0x4, 1, 0x4, 0x0, 0x0, 0x0, 0x3FF, 0x0, 0x0, 0x0, 0⟩,
  ⟨0x46000008, 1, 0x4, 1, 0x4, 0x0, 0xFFFF, 0x0, 0x0, 0x0, 0x0, 0x0, 0⟩,
  ⟨0x4600000C, 1, 0x4, 1, 0x4, 0x0, 0x0, 0x0, 0x0, 0x0, 0xFFFFFFFF, 0x0, 0⟩,
  ⟨0x46000010, 1, 0x4, 8, 0x4, 0x0, 0x0, 0x7, 0x0, 0x0, 0x0, 0x0, 0⟩,
  ⟨0x46000040, 1, 0x4, 1, 0x4, 0xF3C, 0x0, 0xFFFF, 0x0, 0x0, 0x0, 0x0, 0⟩,
  ⟨0x46000044, 1, 0x4, 1, 0x4, 0x0, 0x0, 0xFFFF, 0x0, 0x0, 0x0, 0x0, 0⟩,
  ⟨0x46000048, 1, 0x4, 1, 0x4, 0x41, 0x0, 0xFFFF, 0x0, 0x0, 0x0, 0x0, 0⟩,
  ⟨0x46000060, 1, 0x4, 2, 0x10, 0x0, 0x0, 0xFFFF, 0x0, 0x0, 0x0, 0x0, 0⟩,
  ⟨0x46000064, 1, 0x4, 2, 0x10, 0x4B0, 0x0, 0xFFFF, 0x0, 0x0, 0x0, 0x0, 0⟩,
  ⟨0x46000068, 1, 0x4, 2, 0x10, 0x6428, 0x0, 0xFFFF, 0x0, 0x0, 0x0, 0x0, 0⟩,
  ⟨0x4600006C, 1, 0x4, 2, 0x10, 0x0, 0xFF00FFFF, 0x0, 0x0, 0x0, 0x0, 0x0, 0⟩,
  ⟨0x46000100, 1, 0x4, 16, 0x4, 0x0, 0x1FFF, 0x0, 0x0, 0x0, 0x0, 0x0, 0⟩,
  ⟨0x46000140, 1, 0x4, 12, 0x4, 0x0, 0xFFFFFFFF, 0x0, 0x0, 0x0, 0x0, 0x0, 0⟩]

/-- The registers of block ETH (15_farm_network.md, R394, R395), in the order: ETH_CTRL, ETH_STATUS, ETH_EVENTS, ETH_MAC_LO, ETH_MAC_HI, ETH_IP, ETH_NETMASK, ETH_GATEWAY, ETH_MGMT_CFG, ETH_VLAN, ETH_PRP_CFG, ETH_PRP_CNT, ETH_PTP_CFG, ETH_PTP_STATUS, ETH_PTP_GM_LO, ETH_PTP_GM_HI, ETH_PTP_UTC, ETH_PTP_OFFB, ETH_PTP_CNT, ETH_SESS, ETH_MGMT_CNT, ETH_MGMT_CNT2, ETH_LOCAL_CNT, ETH_PORTn_CFG, ETH_PORTn_STATUS, ETH_PORTn_LDLY, ETH_PORTn_ASYM, ETH_PORTn_RX, ETH_PORTn_TX, ETH_PORTn_ERR, ETH_PORTn_DROP, ETH_PORTn_RES. -/
def ethSpecs : List RegSpec := [
  ⟨0x33000000, 1, 0x4, 1, 0x4, 0xF, 0x0, 0x3F, 0x0, 0x0, 0x0, 0x0, 0⟩,
  ⟨0x33000004, 1, 0x4, 1, 0x4, 0x3, 0xFF3, 0x0, 0x0, 0x0, 0x0, 0x0, 0⟩,
  ⟨0x33000008, 1, 0x4, 1, 0x4, 0x0, 0x0, 0x0, 0x0, 0x7F, 0x0, 0x0, 0⟩,
  ⟨0x33000010, 1, 0x4, 1, 0x4, 0x0, 0xFFFFFFFF, 0x0, 0x0, 0x0, 0x0, 0x0, 1⟩,
  ⟨0x33000014, 1, 0x4, 1, 0x4, 0x0, 0xFFFF, 0x0, 0x0, 0x0, 0x0, 0x0, 2⟩,
  ⟨0x33000018, 1, 0x4, 1, 0x4, 0x0, 0x0, 0x0, 0x0, 0x0, 0x0, 0xFFFFFFFF, 0⟩,
  ⟨0x3300001C, 1, 0x4, 1, 0x4, 0x0, 0x0, 0x0, 0x0, 0x0, 0x0, 0xFFFFFFFF, 0⟩,
  ⟨0x33000020, 1, 0x4, 1, 0x4, 0x0, 0x0, 0x0, 0x0, 0x0, 0x0, 0xFFFFFFFF, 0⟩,
  ⟨0x33000024, 1, 0x4, 1, 0x4, 0x3CB9C0, 0x0, 0x0, 0x0, 0x0, 0x0, 0xFFFFFFF, 0⟩,
  ⟨0x33000028, 1, 0x4, 1, 0x4, 0x40000000, 0x0, 0x0, 0x0, 0x0, 0x0, 0x7FFF0FFF, 0⟩,
  ⟨0x33000030, 1, 0x4, 1, 0x4, 0x1901406, 0x0, 0x0, 0x0, 0x0, 0x0, 0xFFFFFFFF, 0⟩,
  ⟨0x33000034, 1, 0x4, 1, 0x4, 0x0, 0x0, 0x0, 0x0, 0x0, 0xFFFFFFFF, 0x0, 0⟩,
  ⟨0x33000040, 1, 0x4, 1, 0x4, 0x0, 0x0, 0x0, 0x0, 0x0, 0x0, 0x70FFF, 0⟩,
  ⟨0x33000044, 1, 0x4, 1, 0x4, 0x0, 0xFFFF0773, 0x0, 0x0, 0x0, 0x0, 0x0, 0⟩,
  ⟨0x33000048, 1, 0x4, 1, 0x4, 0x0, 0xFFFFFFFF, 0x0, 0x0, 0x0, 0x0, 0x0, 1⟩,
  ⟨0x3300004C, 1, 0x4, 1, 0x4, 0x0, 0xFFFFFFFF, 0x0, 0x0, 0x0, 0x0, 0x0, 2⟩,
  ⟨0x33000050, 1, 0x4, 1, 0x4, 0x0, 0xFFFFF, 0x0, 0x0, 0x0, 0x0, 0x0, 0⟩,
  ⟨0x33000054, 1, 0x4, 1, 0x4, 0x0, 0xFFFFFFFF, 0x0, 0x0, 0x0, 0x0, 0x0, 0⟩,
  ⟨0x33000058, 1, 0x4, 1, 0x4, 0x0, 0x0, 0x0, 0x0, 0x0, 0xFFFFFFFF, 0x0, 0⟩,
  ⟨0x33000060, 1, 0x4, 1, 0x4, 0x0, 0x31F, 0x0, 0x0, 0x0, 0x0, 0x0, 0⟩,
  ⟨0x33000064, 1, 0x4, 1, 0x4, 0x0, 0x0, 0x0, 0x0, 0x0, 0xFFFFFFFF, 0x0, 0⟩,
  ⟨0x33000068, 1, 0x4, 1, 0x4, 0x0, 0x0, 0x0, 0x0, 0x0, 0xFFFFFFFF, 0x0, 0⟩,
  ⟨0x3300006C, 1, 0x4, 1, 0x4, 0x0, 0x0, 0x0, 0x0, 0x0, 0xFFFFFFFF, 0x0, 0⟩,
  ⟨0x33000100, 1, 0x4, 4, 0x40, 0x3, 0x0, 0x3, 0x0, 0x0, 0x0, 0x0, 0⟩,
  ⟨0x33000104, 1, 0x4, 4, 0x40, 0x0, 0x7, 0x0, 0x0, 0x0, 0x0, 0x0, 0⟩,
  ⟨0x33000108, 1, 0x4, 4, 0x40, 0x0, 0xFFFFFFFF, 0x0, 0x0, 0x0, 0x0, 0x0, 0⟩,
  ⟨0x3300010C, 1, 0x4, 4, 0x40, 0x0, 0x0, 0x0, 0x0, 0x0, 0x0, 0xFFFFFFFF, 0⟩,
  ⟨0x33000110, 1, 0x4, 4, 0x40, 0x0, 0x0, 0x0, 0x0, 0x0, 0xFFFFFFFF, 0x0, 0⟩,
  ⟨0x33000114, 1, 0x4, 4, 0x40, 0x0, 0x0, 0x0, 0x0, 0x0, 0xFFFFFFFF, 0x0, 0⟩,
  ⟨0x33000118, 1, 0x4, 4, 0x40, 0x0, 0x0, 0x0, 0x0, 0x0, 0xFFFFFFFF, 0x0, 0⟩,
  ⟨0x3300011C, 1, 0x4, 4, 0x40, 0x0, 0x0, 0x0, 0x0, 0x0, 0xFFFFFFFF, 0x0, 0⟩,
  ⟨0x33000120, 1, 0x4, 4, 0x40, 0x0, 0xFFFF, 0x0, 0x0, 0x0, 0xFFFF0000, 0x0, 0⟩]

/-- The registers of block CAN (16_can_fd.md, R409), in the order: CAN_CTRL, CAN_STATUS, CAN_ERRCNT, CAN_NBT, CAN_DBT, CAN_EVENTS, CAN_CNT0, CAN_CNT1, CAN_NOMATCH, CAN_TXREQ, CAN_TXCANCEL, CAN_TXPEND, CAN_RXQq_STAT, CAN_RXQq_REL, CAN_TS_ID, CAN_TS_CFG, CAN_TS_CNT, CAN_FLTn_ID, CAN_FLTn_MASK. -/
def canSpecs : List RegSpec := [
  ⟨0x34000000, 1, 0x4, 2, 0x10000, 0x4, 0x0, 0xE7, 0x8, 0x0, 0x0, 0x0, 0⟩,
  ⟨0x34000004, 1, 0x4, 2, 0x10000, 0x0, 0x7F, 0x0, 0x0, 0x0, 0x0, 0x0, 0⟩,
  ⟨0x34000008, 1, 0x4, 2, 0x10000, 0x0, 0x1FF00FF, 0x0, 0x0, 0x0, 0x0, 0x0, 0⟩,
  ⟨0x34000010, 1, 0x4, 2, 0x10000, 0x1E7C3C01, 0x0, 0xFFFFFC1F, 0x0, 0x0, 0x0, 0x0, 0⟩,
  ⟨0x34000014, 1, 0x4, 2, 0x10000, 0x37189000, 0x0, 0xFFF8FF1F, 0x0, 0x0, 0x0, 0x0, 0⟩,
  ⟨0x34000018, 1, 0x4, 2, 0x10000, 0x0, 0x0, 0x0, 0x0, 0x1FF, 0x0, 0x0, 0⟩,
  ⟨0x3400001C, 1, 0x4, 2, 0x10000, 0x0, 0x0, 0x0, 0x0, 0x0, 0xFFFFFFFF, 0x0, 0⟩,
  ⟨0x34000020, 1, 0x4, 2, 0x10000, 0x0, 0x0, 0x0, 0x0, 0x0, 0xFFFFFFFF, 0x0, 0⟩,
  ⟨0x34000024, 1, 0x4, 2, 0x10000, 0x0, 0x0, 0x3, 0x0, 0x0, 0x0, 0x0, 0⟩,
  ⟨0x34000030, 1, 0x4, 2, 0x10000, 0x0, 0x0, 0x0, 0xFFFFFFFF, 0x0, 0x0, 0x0, 0⟩,
  ⟨0x34000034, 1, 0x4, 2, 0x10000, 0x0, 0x0, 0x0, 0xFFFFFFFF, 0x0, 0x0, 0x0, 0⟩,
  ⟨0x34000038, 1, 0x4, 2, 0x10000, 0x0, 0xFFFFFFFF, 0x0, 0x0, 0x0, 0x0, 0x0, 0⟩,
  ⟨0x34000050, 2, 0x10000, 2, 0x8, 0x0, 0x3F7F, 0x0, 0x0, 0x0, 0xFFFF0000, 0x0, 0⟩,
  ⟨0x34000054, 2, 0x10000, 2, 0x8, 0x0, 0x0, 0x0, 0x7F, 0x0, 0x0, 0x0, 0⟩,
  ⟨0x34000060, 1, 0x4, 2, 0x10000, 0x0, 0x0, 0xBFFFFFFF, 0x0, 0x0, 0x0, 0x0, 0⟩,
  ⟨0x34000064, 1, 0x4, 2, 0x10000, 0x3E80000, 0x0, 0xFFFFFFFF, 0x0, 0x0, 0x0, 0x0, 0⟩,
  ⟨0x34000068, 1, 0x4, 2, 0x10000, 0x0, 0x0, 0x0, 0x0, 0x0, 0xFFFFFFFF, 0x0, 0⟩,
  ⟨0x34001000, 2, 0x10000, 128, 0x8, 0x0, 0x0, 0xFFFFFFFF, 0x0, 0x0, 0x0, 0x0, 0⟩,
  ⟨0x34001004, 2, 0x10000, 128, 0x8, 0x0, 0x0, 0x9FFFFFFF, 0x0, 0x0, 0x0, 0x0, 0⟩]

/-- The registers of block SED (17_startup_seed_security.md, R428), in the order: SED_STATUS, SED_RUN, SED_RUN_CMD, SED_IMAGE_VER, SED_KEYSLOTs, SED_UPDATE, SED_UPDATE_BYTES, SED_FACTORY, SED_EVENTS, SED_CARD_ID_LO, SED_CARD_ID_HI. -/
def sedSpecs : List RegSpec := [
  ⟨0x48000000, 1, 0x4, 1, 0x4, 0x0, 0xFF07001F, 0x0, 0x0, 0x0, 0x0, 0x0, 0⟩,
  ⟨0x48000004, 1, 0x4, 1, 0x4, 0x0, 0x3, 0x0, 0x0, 0x0, 0x0, 0x0, 0⟩,
  ⟨0x48000008, 1, 0x4, 1, 0x4, 0x0, 0x0, 0x0, 0x3, 0x0, 0x0, 0x0, 0⟩,
  ⟨0x4800000C, 1, 0x4, 1, 0x4, 0x0, 0xFFFFFFFF, 0x0, 0x0, 0x0, 0x0, 0x0, 0⟩,
  ⟨0x48000010, 1, 0x4, 4, 0x4, 0x0, 0xE000FFFF, 0x0, 0x0, 0x0, 0x0, 0x0, 0⟩,
  ⟨0x48000020, 1, 0x4, 1, 0x4, 0x0, 0xF0000000, 0x0, 0x0, 0x0, 0x0, 0x0, 0⟩,
  ⟨0x48000024, 1, 0x4, 1, 0x4, 0x0, 0xFFFFFFFF, 0x0, 0x0, 0x0, 0x0, 0x0, 0⟩,
  ⟨0x48000028, 1, 0x4, 1, 0x4, 0x0, 0x3, 0x0, 0x0, 0x0, 0x0, 0x0, 0⟩,
  ⟨0x4800002C, 1, 0x4, 1, 0x4, 0x0, 0x0, 0x0, 0x0, 0xF, 0x0, 0x0, 0⟩,
  ⟨0x48000030, 1, 0x4, 1, 0x4, 0x0, 0xFFFFFFFF, 0x0, 0x0, 0x0, 0x0, 0x0, 1⟩,
  ⟨0x48000034, 1, 0x4, 1, 0x4, 0x0, 0xFFFFFFFF, 0x0, 0x0, 0x0, 0x0, 0x0, 2⟩]

/-- The registers of block DID (17_startup_seed_security.md, R429), in the order: DID_PART, DID_REV, DID_SERIAL_LO, DID_SERIAL_HI, DID_PUBKEYw. -/
def didSpecs : List RegSpec := [
  ⟨0x4F000000, 1, 0x4, 1, 0x4, 0x9600, 0xFFFFFFFF, 0x0, 0x0, 0x0, 0x0, 0x0, 0⟩,
  ⟨0x4F000004, 1, 0x4, 1, 0x4, 0x420102, 0xFFFFFF, 0x0, 0x0, 0x0, 0x0, 0x0, 0⟩,
  ⟨0x4F000008, 1, 0x4, 1, 0x4, 0x0, 0xFFFFFFFF, 0x0, 0x0, 0x0, 0x0, 0x0, 1⟩,
  ⟨0x4F00000C, 1, 0x4, 1, 0x4, 0x0, 0xFFFFFFFF, 0x0, 0x0, 0x0, 0x0, 0x0, 2⟩,
  ⟨0x4F000020, 1, 0x4, 8, 0x4, 0x0, 0xFFFFFFFF, 0x0, 0x0, 0x0, 0x0, 0x0, 0⟩]

/-- The registers of block THM (18_thermal_electrical_mechanical.md, R445), in the order: THM_CTRL, THM_CFG, THM_STATUS, THM_SLOPE, THM_MAX_HOLD, THM_FAILED, THM_EVENTS, THM_RAILS, THM_POWER, THM_SENSn. -/
def thmSpecs : List RegSpec := [
  ⟨0x47000000, 1, 0x4, 1, 0x4, 0x1FFF, 0x0, 0x0, 0x0, 0x0, 0x0, 0x1FFFF, 0⟩,
  ⟨0x47000004, 1, 0x4, 1, 0x4, 0x3E8, 0x0, 0x0, 0x0, 0x0, 0x0, 0xFFFF, 0⟩,
  ⟨0x47000008, 1, 0x4, 1, 0x4, 0x0, 0xFFFFFF87, 0x0, 0x0, 0x0, 0x0, 0x0, 0⟩,
  ⟨0x4700000C, 1, 0x4, 1, 0x4, 0xFFFF0000, 0xFFFFFFFF, 0x0, 0x0, 0x0, 0x0, 0x0, 0⟩,
  ⟨0x47000010, 1, 0x4, 1, 0x4, 0x0, 0x0, 0x0, 0x0, 0x0, 0xFFFF, 0x0, 0⟩,
  ⟨0x47000014, 1, 0x4, 1, 0x4, 0x0, 0x3FFFF, 0x0, 0x0, 0x0, 0x0, 0x0, 0⟩,
  ⟨0x47000018, 1, 0x4, 1, 0x4, 0x0, 0x0, 0x0, 0x0, 0x7F, 0x0, 0x0, 0⟩,
  ⟨0x4700001C, 1, 0x4, 1, 0x4, 0x0, 0x7F, 0x0, 0x0, 0x0, 0x0, 0x0, 0⟩,
  ⟨0x47000020, 1, 0x4, 1, 0x4, 0x0, 0xFFFF, 0x0, 0x0, 0x0, 0xFFFF0000, 0x0, 0⟩,
  ⟨0x47000100, 1, 0x4, 16, 0x4, 0x0, 0x3FFFF, 0x0, 0x0, 0x0, 0x0, 0x0, 0⟩]

/-- The table of the block whose window holds address `a` (R36). -/
def specsAt (a : Nat) : List RegSpec :=
  match a / 0x1000000 with
  | 0x20 => hdlSpecs
  | 0x24 => wvrSpecs
  | 0x25 => srtSpecs
  | 0x26 => capSpecs
  | 0x30 => wrpSpecs
  | 0x31 => timSpecs
  | 0x32 => gftSpecs
  | 0x33 => ethSpecs
  | 0x34 => canSpecs
  | 0x40 => safSpecs
  | 0x41 => fltSpecs
  | 0x42 => jnlSpecs
  | 0x43 => evrSpecs
  | 0x44 => cmpSpecs
  | 0x45 => gdrSpecs
  | 0x46 => sapSpecs
  | 0x47 => thmSpecs
  | 0x48 => sedSpecs
  | 0x4F => didSpecs
  | _ => []

/-- The register at address `a`, if the spec defines one there. -/
def specOf (a : Nat) : Option RegSpec := findSpec (specsAt a) a

/-- Reset values of the servo registers of base `n` (R63), by offset in the base's window. -/
def tbReset (n off : Nat) : Option Nat :=
  match off with
  | 0x08 => some (nth [0x0, 0x1, 0x10, 0x10] n 0)
  | 0x1C => some (nth [0x8000, 0x4000, 0xB333, 0x4CCD] n 0)
  | 0x20 => some (nth [0xCCD, 0x42, 0x199A, 0x51F] n 0)
  | 0x24 => some (nth [0x1388, 0x186A0, 0x30D40, 0x30D40] n 0)
  | 0x28 => some (nth [0x00A40032, 0x064401F4, 0x064403E8, 0xFA044E20] n 0)
  | 0x2C => some (nth [0x64, 0x3E8, 0x3E8, 0x2710] n 0)
  | 0x40 => some (nth [0, 0, 0xE10, 0xE10] n 0)
  | _ => none

/-- Reset value of CMP_Cc_CFG (R340): the source group of comparator `c`. -/
def cmpCfgReset (c : Nat) : Nat :=
  if c < 32 then c / 8 * 0x10000 else if c % 2 = 0 then 0x1000000 else 0

/-- What the register at address `a` holds at reset (R8): the table's value, the per-base and per-comparator values,
or the factory value of the part. -/
def regReset (a : Nat) : Word :=
  if 0x31000100 ≤ a ∧ a < 0x31000500 then
    match tbReset ((a - 0x31000100) / 0x100) ((a - 0x31000100) % 0x100) with
    | some v => BitVec.ofNat 32 v
    | none => 0
  else if 0x3100008C ≤ a ∧ a < 0x3100009C then Config.compCoef ((a - 0x3100008C) / 4)
  else if 0x44000100 ≤ a ∧ a < 0x44000300 ∧ a % 8 = 0 then BitVec.ofNat 32 (cmpCfgReset ((a - 0x44000100) / 8))
  else if a = ETH_MAC_LO then Config.macLo
  else if a = ETH_MAC_HI then Config.macHi &&& 0xFFFF
  else if a = DID_SERIAL_LO then Config.serialLo
  else if a = DID_SERIAL_HI then Config.serialHi
  else if 0x4F000020 ≤ a ∧ a < 0x4F000040 then Config.pubKey ((a - 0x4F000020) / 4)
  else
    match specOf a with
    | some r => BitVec.ofNat 32 r.reset
    | none => 0

end Sys2Proof
end

