-- ==== Sys2Proof/Machine/Sparse.lean ====
section
/-! DEFINITION. The operations of the sparse store: read, write, and its canonical form. Every memory and register
file of the model is read and written with these. `d` says what an unlisted key reads as. -/

namespace Sys2Proof

variable {α : Type}

/-- The value at key `k`: the listed one, or what an unlisted key reads as. -/
def Sparse.get (d : Nat → α) : Sparse α → Nat → α
  | [], k => d k
  | (k', v) :: m, k => if k' = k then v else Sparse.get d m k

/-- The store without key `k`. -/
def Sparse.erase : Sparse α → Nat → Sparse α
  | [], _ => []
  | (k', v) :: m, k => if k' = k then Sparse.erase m k else (k', v) :: Sparse.erase m k

/-- The store with the pair `(k, v)` put in front of the first greater key. -/
def Sparse.insert : Sparse α → Nat → α → Sparse α
  | [], k, v => [(k, v)]
  | (k', v') :: m, k, v => if k < k' then (k, v) :: (k', v') :: m else (k', v') :: Sparse.insert m k v

/-- The store with `v` at key `k`, in canonical form: a value that an unlisted key reads as is not listed. -/
def Sparse.set [DecidableEq α] (d : Nat → α) (m : Sparse α) (k : Nat) (v : α) : Sparse α :=
  if v = d k then Sparse.erase m k else Sparse.insert (Sparse.erase m k) k v

/-- Every key of the store is above `b`. -/
def Sparse.above (b : Nat) : Sparse α → Bool
  | [] => true
  | (k, _) :: m => decide (b < k) && Sparse.above b m

/-- The canonical form: keys strictly rising, no pair whose value an unlisted key reads as. -/
def Sparse.wf [DecidableEq α] (d : Nat → α) : Sparse α → Bool
  | [] => true
  | (k, v) :: m => decide (v ≠ d k) && Sparse.above k m && Sparse.wf d m

/-- The values at the `n` keys from `k` on. -/
def Sparse.range (d : Nat → α) (m : Sparse α) (k : Nat) : Nat → List α
  | 0 => []
  | n + 1 => Sparse.get d m k :: Sparse.range d m (k + 1) n

/-- The store with a list of values at consecutive keys from `k` on. -/
def Sparse.setList [DecidableEq α] (d : Nat → α) (m : Sparse α) (k : Nat) : List α → Sparse α
  | [] => m
  | v :: vs => Sparse.setList d (Sparse.set d m k v) (k + 1) vs

/-- The store with every key of a range set to one value by `f`, which sees the key and the old value. -/
def Sparse.mapRange [DecidableEq α] (d : Nat → α) (f : Nat → α → α) (m : Sparse α) (k : Nat) : Nat → Sparse α
  | 0 => m
  | n + 1 => Sparse.mapRange d f (Sparse.set d m k (f k (Sparse.get d m k))) (k + 1) n

end Sys2Proof
end

