-- ==== Sys2Proof/Machine/State.lean ====
section
/-! DEFINITION. The state of the block, as plain data: the registers under their Crown addresses, the memories, and what
each unit holds that no register shows. Where a bit lives in a register, the register is its one home. -/

namespace Sys2Proof.Machine

/-! ## Time -/

/-- A time base (R38, R45, R47): the counter, 48.16 with 16 more fraction bits; the remainder of its addend in
1/(16·10^9) of the last fraction bit, so that nothing is lost; the servo's I and F in 2^-32 ppb, and whether the clamp made F
what it is (R47); the last accepted offset in 2^-16 ns; the rejections and good samples in a row (R48); the value an explicit correction slews towards
(R51); the clocks of the running second of holdover (R55). -/
structure TimeBase where
  cnt     : BitVec 80
  rem     : Nat
  integ   : Int
  f       : Int
  clip    : Bool
  lastE   : Option Int
  rej     : Nat
  lockRun : Nat
  slewTo  : Option (BitVec 80)
  holdClk : Nat
  deriving DecidableEq, Repr

/-- A base at reset (R63). -/
def TimeBase.reset : TimeBase :=
  { cnt := 0, rem := 0, integ := 0, f := 0, clip := false, lastE := none, rej := 0, lockRun := 0, slewTo := none, holdClk := 0 }

/-- The time unit's inner state (R43, R44, R46): the next boundary of the grid and its number, a grid origin that has not
been reached, the settings that wait for a boundary with the origin of their writer (R29, R314), the compensation C in
2^-37 ppb, the sensor's last reading in 1/128 °C, and whether TB2 has been LOCKED since reset (R315). The current boundary
and its number are TIM_BOUNDARY and TIM_CYCLE_NUM. -/
structure TimUnit where
  nextB    : Nat
  nextK    : Nat
  origin   : Option Nat
  tcyc     : Option (Nat × Nat)
  tin      : Option (Nat × Nat)
  tout     : Option (Nat × Nat)
  comp     : Int
  lastTemp : Option Int
  tb2Valid : Bool
  deriving DecidableEq, Repr

/-- The time unit at reset. -/
def TimUnit.reset : TimUnit :=
  { nextB := 0, nextK := 0, origin := none, tcyc := none, tin := none, tout := none, comp := 0, lastTemp := none,
    tb2Valid := false }

/-- The last cross-stamp (R58): the four bases in one clock, and whether it has been taken since the last read of
TIM_XSTAMP_CTRL. The registers TIM_XSTAMP_TBn and VALID show it. -/
structure XStamp where
  tb0   : Nat
  tb1   : Nat
  tb2   : Nat
  tb3   : Nat
  valid : Bool
  deriving DecidableEq, Repr

/-- No cross-stamp has been taken. -/
def XStamp.reset : XStamp := { tb0 := 0, tb1 := 0, tb2 := 0, tb3 := 0, valid := false }

/-- The stamp of base `n`. -/
def XStamp.at (x : XStamp) : Nat → Nat
  | 0 => x.tb0
  | 1 => x.tb1
  | 2 => x.tb2
  | _ => x.tb3

/-! ## Faults and journal -/

/-- The collector's inner state (R304, R311): the used records, newest first, the causes that persist (code, unit), and the
clean words found in error that wait for their reload from the card. -/
structure FltUnit where
  order   : List Nat
  causes  : List (Nat × Nat)
  reloads : List Capture
  deriving DecidableEq, Repr

/-- A block of the card's journal region before the module has written it. -/
def JBlock.fresh : JBlock := { magic := 0, seq := 0, erases := 0, bad := false, erased := false, entries := [] }

/-- An entry of the on-chip ring that has not been written. -/
def JEntry.none : JEntry :=
  { t0 := 0, t2 := 0, epoch := 0, origin := 0, type := 0, flags := 0, target := 0, old := 0, new := 0 }

/-- The journal unit (R316, R318 to R321): the on-chip ring; the SEQ up to which entries stand in their order; the entries overwritten uncopied since the copier last
accounted for them; the entries lost and not yet covered by a LOSS entry on the card (first SEQ, count); whether the copier
runs; the card's journal region, its number of blocks and the block being written; and the mains-loss flush. -/
structure JnlUnit where
  ring     : Sparse JEntry
  mark     : Nat
  ovr      : Nat
  lost     : Option (Nat × Nat)
  started  : Bool
  nblocks  : Nat
  blocks   : Sparse JBlock
  cur      : Nat
  flushing : Bool
  deriving DecidableEq, Repr

/-- The journal unit at reset. -/
def JnlUnit.reset : JnlUnit :=
  { ring := [], mark := 0, ovr := 0, lost := none, started := false, nblocks := 0, blocks := [], cur := 0, flushing := false }

/-! ## Safety -/

/-- What a safety channel holds besides its bits of SAF_IN (R280 to R282): `good`, the pulses returned since a missing return
that awaits its diagnosis; the TB1 times of its latest missing returns; the pulses returned since it entered DEMAND, or since it was
latched; whether it is latched by fault 0x0605; whether it missed the pulse of its present round; whether it was high when its
source last switched off. -/
structure SafeChan where
  good     : Option Nat
  missAt   : List Nat
  returned : Nat
  repeated : Bool
  missNow  : Bool
  high     : Bool
  deriving DecidableEq, Repr

/-- A channel at reset. -/
def SafeChan.reset : SafeChan := { good := none, missAt := [], returned := 0, repeated := false, missNow := false, high := false }

/-- The safety cores and the voter (R275 to R299): the block in force and the one in the card's safety area; `cond`, the
sources 8 to 21 that demand by level, in the numbering of R301; whether a self-test has failed; the channels; the pairs
whose channels have both been in DEMAND since they were latched (R283); the test-pulse sources switched off and those
whose pulse runs; AR_DELAY running (R277); the BLK repetitions left (R287); the output under test, which switch it opens,
and whether a demand has come in the test; an acknowledgement waiting for the end of a test (R286); the next switch to
test per output; the first valid copies of PDUs in their WIN, oldest first, and the PSEQs whose WIN ended with one PERMIT copy
(R294); matched pairs in a row, the TB1 time at which the degraded state began, and its timer's end (R295); the TB1 time of the last
0x060E; a replacement that is written and waits for Safety Edit OFF,
and one that is offered (R299); how far back the event in hand has its stamp, in 2^-16 ns; and the
cores that demand alone (R300). -/
structure Safety where
  block     : SafetyBlock
  valid     : Bool
  card      : SafetyBlock
  cond      : Nat
  testFail  : Bool
  chans     : Sparse SafeChan
  pairBoth  : BitVec 4
  tpsOff    : BitVec 4
  tpsPulse  : BitVec 4
  arRunning : Bool
  blkLeft   : Nat
  testOut   : Option (Fin 2)
  testSb    : BitVec 2
  hitInTest : Bool
  ackPend   : Bool
  pend      : List SafetyPdu
  singles   : List Nat
  pairRun   : Nat
  degAt     : Option Nat
  degOver   : Bool
  invalidAt : Option Nat
  editWait  : Bool
  offer     : Option (SafetyBlock × MgmtHdr)
  back      : Nat
  coreOff   : BitVec 2
  deriving DecidableEq, Repr

/-- The safety cores at reset: SPB and SMT latched, the self-test not yet passed (R276, R301). -/
def Safety.reset : Safety :=
  { block := [], valid := false, card := [], cond := 0x8000, testFail := false, chans := [], pairBoth := 0, tpsOff := 0,
    tpsPulse := 0, arRunning := false, blkLeft := 0, testOut := none, testSb := 0, hitInTest := false, ackPend := false,
    pend := [], singles := [], pairRun := 0, degAt := none, degOver := false, invalidAt := none, editWait := false, offer := none, back := 0, coreOff := 0 }

/-! ## Comparators and event router -/

/-- What a comparator holds besides its registers (R328, R329): whether it is unresolved in its settling window, and its
threshold code of 12 bits in force. -/
structure CmpUnit where
  settling : Bool
  thr      : Nat
  deriving DecidableEq, Repr

/-- A comparator at reset. -/
def CmpUnit.reset : CmpUnit := { settling := true, thr := 0 }

/-- The storm guard of a source (R338): the stamp that opened the window, and the events in it. -/
structure Guard where
  t0    : Option Nat
  count : Nat
  deriving DecidableEq, Repr

/-- A Heddle trigger between two cuts (R336): events, the stamp of the first, the clock of the last one, and the events in that clock. -/
structure Trig where
  count : Nat
  first : Nat
  clk   : Nat
  inClk : Nat
  deriving DecidableEq, Repr

/-- A trigger without events. -/
def Trig.none : Trig := { count := 0, first := 0, clk := 0, inClk := 0 }

/-- The event router's inner state: events of this instant that wait for the router, oldest first; sources that have
had their event in this instant (a pulse lasts one clock, R333); the guards; the Heddle triggers, and the clock of the last cut
(R336). The engines whose mailbox words the router assigns are read from EVR_HDLn. -/
structure Router where
  posted : List Nat
  fired  : List Nat
  guards : Sparse Guard
  trigs  : Sparse Trig
  cutAt  : Option Nat
  deriving DecidableEq, Repr

/-- The router at reset (R340). -/
def Router.reset : Router := { posted := [], fired := [], guards := [], trigs := [], cutAt := none }

/-! ## CAN -/

/-- What a transmit buffer holds besides its words (R402 to R405): a TIME that is pending, the window end and the base of
both, whether it is eligible, its order of submission, and a cancel that waits for the attempt in progress. -/
structure TxBuf where
  due      : Option Nat
  winEnd   : Option Nat
  base     : Nat
  eligible : Bool
  order    : Nat
  cancel   : Bool
  deriving DecidableEq, Repr

/-- A buffer at reset. -/
def TxBuf.reset : TxBuf := { due := none, winEnd := none, base := 0, eligible := false, order := 0, cancel := false }

/-- A CAN controller's inner state: the buffers, the submissions so far, the
TB0 second of the last 0x0A04 (R401), and the last SYNC: SEQ, its TB3 stamp, its TB0 arrival (R407). -/
structure CanUnit where
  bufs    : Sparse TxBuf
  subs    : Nat
  ovfAt   : Option Nat
  sync    : Option (Nat × Nat × Nat)
  deriving DecidableEq, Repr

/-- A controller at reset. -/
def CanUnit.reset : CanUnit := { bufs := [], subs := 0, ovfAt := none, sync := none }

/-! ## Gate drive and Sap engine -/

/-- A gate channel (R351 to R365): the Sap engine's last command; the output, 0 off through GnL, 1 on through GnH, 2 sinking
through GnS; an on command delayed by dead time or a refresh; blanking; a warn raise in the running PWM period; and the
TB0 times of the last edge and of the last turn-off. -/
structure GateCh where
  cmd    : Bool
  out    : Nat
  pendOn : Bool
  blank  : Bool
  warned : Bool
  edgeAt : Option Nat
  offAt  : Option Nat
  deriving DecidableEq, Repr

/-- A channel at reset: off (R1, R353). -/
def GateCh.reset : GateCh :=
  { cmd := false, out := 0, pendOn := false, blank := false, warned := false, edgeAt := none, offAt := none }

/-- The gate drive (R345, R353, R356, R358): the channels; the stages that need a new START before their channels follow
commands; a missing Sap service; legs with a refresh in progress; and per leg the TB0 times of its latest undervoltage
events. -/
structure GateUnit where
  chans     : Sparse GateCh
  needStart : BitVec 5
  noService : Bool
  refresh   : BitVec 8
  uvAt      : Sparse (List Nat)
  deriving DecidableEq, Repr

/-- The gate drive at reset. -/
def GateUnit.reset : GateUnit := { chans := [], needStart := 0, noService := false, refresh := 0, uvAt := [] }

/-- The Sap engine as far as it shows (R345 to R350): input events delivered and not yet acted on, a PFC start that waits
for the inrush bypass, loop limits halved by an input action, and the minimum bus level of its parameter block. -/
structure SapUnit where
  events  : BitVec 8
  pfcWait : Bool
  halved  : BitVec 2
  minBus  : Nat
  mainsMin : Nat
  deriving DecidableEq, Repr

/-- The Sap engine at reset. -/
def SapUnit.reset : SapUnit := { events := 0, pfcWait := false, halved := 0, minBus := 0, mainsMin := 0 }


/-! ## Warp rings -/

/-- What the module keeps of a ring address (R89, R100, R115, R131): the identity words it read there (NODE_ID, NODE_REV,
serial low and high, NODE_CAPS; none before), whether the node is admitted, lost, or present again and waiting for READMIT,
its last valid status record, and its AGE. -/
structure RNode where
  ident    : List Word
  admitted : Bool
  lost     : Bool
  waiting  : Bool
  record   : List Word
  age      : Nat
  deriving DecidableEq, Repr

/-- An address before any node has answered there. -/
def RNode.none : RNode := { ident := [], admitted := false, lost := false, waiting := false, record := [], age := 0 }

/-- What a MGMT transaction is for: setting addresses (R100, R116), reading a node's identity (R100), checking a given
address by the serial of a HELLO (R116), writing the measurement scales (R100), a bypass command (R219). -/
inductive MgmtUse where
  | address
  | identity
  | verify (serial : Nat)
  | scales
  | bypass
  deriving DecidableEq, Repr

/-- A MGMT transaction that waits or is out (R91, R92): the ends it leaves by (none: both), and the copies that have come back not
answered. -/
structure MgmtTx where
  side    : Option Dir
  blanks  : Nat
  purpose : MgmtUse
  dst     : Nat
  op      : Nat
  req     : List Word
  nrpl    : Nat
  npad    : Nat
  seq     : Option Nat
  deriving DecidableEq, Repr

/-- An empty ring map. -/
def RingMap.none : RingMap := { nodes := [], alpha := [], scales := [], assigned := [] }

/-- What the Shuttle engine keeps of a ring: its map; the step of R100; collect cycles since step 2, and the highest MAND_HI
they reported; the addresses with a valid record in this cycle and by the last cut (bit a); collect frames launched, and which have come back
(bit 0 clockwise, bit 1 counter-clockwise, bit 2 a returning frame); misses in a row per direction (R110); wrapped, the wrap
points seen in this cycle, the nodes between the wrap points when the wrap was declared (R114), and whether the wrap cut
could be applied (R111); converged (R105); the measured ring delays with their exchange (R60); whether condition 1 of R27
holds, and whether it waits for the next exchange (R113); the transactions waiting, oldest first, and the transaction and
exchange numbers; strangers by serial, and the first copy of a HELLO: serial, sequence, port, hops (R116); the latest
collect return of this cycle in nanoseconds; and the nodes. -/
structure Ring where
  map      : RingMap
  step     : Nat
  collects : Nat
  mand     : Option Nat
  got      : Nat
  last     : Nat
  sent     : Bool
  back     : Nat
  miss0    : Nat
  miss1    : Nat
  wrapped  : Bool
  upSeen   : Nat
  dnSeen   : Nat
  gap      : Option Nat
  cutOk    : Bool
  conv     : Bool
  dcw      : Option (Nat × Int)
  dccw     : Option (Nat × Int)
  cond1    : Bool
  recheck  : Bool
  txq      : List MgmtTx
  mseq     : Nat
  sseq     : Nat
  aliens   : List Nat
  hello    : Option (Nat × Nat × Nat × Nat)
  tret     : Nat
  nodes    : Sparse RNode
  deriving DecidableEq, Repr

/-- A ring at reset. -/
def Ring.reset : Ring :=
  { map := RingMap.none, step := 0, collects := 0, mand := none, got := 0, last := 0, sent := false, back := 0, miss0 := 0, miss1 := 0,
    wrapped := false, upSeen := 0, dnSeen := 0, gap := none, cutOk := false, conv := false, dcw := none, dccw := none,
    cond1 := true, recheck := false, txq := [], mseq := 0, sseq := 0, aliens := [], hello := none, tret := 0, nodes := [] }

/-! ## Nodes -/

/-- A set that a node holds (R86): target, start of its slot, kind, sequence, mandate and entries. -/
structure HeldSet where
  tgt     : Nat
  slot    : Nat
  firm    : Bool
  seq     : Nat
  mand    : Nat
  entries : List Entry
  deriving DecidableEq, Repr

/-- What drives a target (R193, R194): HOLD, the level of its leg, the PERIODIC entry that runs, and the EDGE and HOLD
entries of the current set still to come. -/
structure Leg where
  hold  : Bool
  level : Bool
  pat   : Option Entry
  todo  : List Entry
  deriving DecidableEq, Repr

/-- A target at reset: HOLD, the defined zero state (R32). -/
def Leg.reset : Leg := { hold := true, level := false, pat := none, todo := [] }

/-- A node that no NODE_RESET has made yet. -/
def NodeMake.none : NodeMake :=
  { maker := 0, product := 0, rev := 0, serial := 0, nmeas := 0, maxEnt := 4, ntgt := 1, role := 0 }

/-- A compatible node (R2): what it is, its address (62 unassigned), MAND_HI (0 undefined), its near port (R96), block lock
and turned copies per port (R108), BLOCKED, HOLD and PROV, the targets that wait for a firm set (R32), SYNC_OK with the
exchanges in a row within 1 ns, MASTER_LOST and agreement (R117), T_cyc of the last cycle frame, the permits held per
direction as SEQ and mandate (R85), the sets held, those chosen for the coming slot and that slot, the SEQ in execution,
the targets' legs, the SYNC copies held (SEQ, stamp, ORIGIN + CORR), the last derived delays and TOFF (R104), the last four
writes answered (SEQ, mandate, STATUS; R92), the scales, its counters, its HELLO number, whether its
power-stage bypass device is closed, and its own fault code (R89). -/
structure Node where
  make    : NodeMake
  addr    : Nat
  mandHi  : Nat
  near    : Option Nat
  lock    : BitVec 2
  turned  : BitVec 2
  blocked : Bool
  hold    : Bool
  prov    : Bool
  tHold   : BitVec 8
  syncOk  : Bool
  syncRun : Nat
  lost    : Bool
  agreed  : Bool
  tcyc    : Nat
  permCw  : Option (Nat × Nat)
  permCcw : Option (Nat × Nat)
  held    : List HeldSet
  chosen  : List HeldSet
  slot    : Option Nat
  xseq    : Nat
  legs    : Sparse Leg
  syncCw  : Option (Nat × Nat × Nat)
  syncCcw : Option (Nat × Nat × Nat)
  dUp     : Option Int
  dDn     : Option Int
  toff    : Int
  memo    : List (Nat × Nat × Nat)
  scale   : Sparse Word
  invalid : Nat
  stomped : Nat
  low     : Nat
  late    : Nat
  sup     : Nat
  dup     : Nat
  blks    : Nat
  bad     : Nat
  lateRec : Nat
  errRec  : Nat
  hello   : Nat
  bypass  : Bool
  nfault  : Nat
  deriving DecidableEq, Repr

/-- A node after its own reset (R82, R93, R96, R117). Ports without block lock are wrap points (R108). -/
def Node.fresh (m : NodeMake) : Node :=
  { make := m, addr := 62, mandHi := 0, near := none, lock := 0, turned := 3, blocked := false, hold := true, prov := false,
    tHold := 255, syncOk := false, syncRun := 0, lost := false, agreed := false, tcyc := 0, permCw := none, permCcw := none,
    held := [], chosen := [], slot := none, xseq := 0, legs := [], syncCw := none, syncCcw := none, dUp := none, dDn := none,
    toff := 0, memo := [], scale := [], invalid := 0, stomped := 0, low := 0, late := 0, sup := 0, dup := 0, blks := 0,
    bad := 0, lateRec := 0, errRec := 0, hello := 0, bypass := false, nfault := 0 }

/-! ## Heddle engines -/

/-- A state preset that waits for a commit (R145): its index, its words and the origin of its writer. -/
structure Preset where
  idx    : Nat
  hi     : Word
  lo     : Word
  origin : Nat
  deriving DecidableEq, Repr

/-- A sort request (R181, R212); `at_` is its arrival at the sorter after the cut, in half nanoseconds. -/
structure SortReq where
  at_  : Nat
  pick : Nat
  dst  : Nat
  n    : Nat
  ch   : Nat
  desc : Bool
  ord  : Bool
  excl : Nat
  vals : List Word
  deriving DecidableEq, Repr

/-- A lane record that waits for the commit (R214); `done` is its sort's place in the order of completion of the cycle. -/
structure LaneRec where
  done  : Nat
  ch    : Nat
  order : List Nat
  desc  : Bool
  excl  : Nat
  deriving DecidableEq, Repr

/-- What a relay pick hands to its unit in a pass (R227): A, sigma', and the height and hysteresis of c[P], c[P+1]. -/
structure RelayFeed where
  a   : Int
  sig : Bool
  h   : Int
  eps : Int
  deriving DecidableEq, Repr

/-- A relay measurement unit (R227 to R230): the feed of the pass; the feed of the last cycle that counted; the last
rising switch in 2^-16 cycle, none where the next one starts a period; least and greatest A of the period; periods
still to skip; the window, newest first (length, greatest minus least A, greatest plus least A); committed cycles since
the last rising switch, and committed cycles since START; periods measured after the skipped ones. -/
structure Relay where
  feed   : Option RelayFeed
  prev   : Option RelayFeed
  rise   : Option Int
  lo     : Int
  hi     : Int
  skip   : Nat
  window : List (Int × Int × Int)
  quiet  : Nat
  cyc    : Nat
  nper   : Nat
  deriving DecidableEq, Repr

/-- A unit that measures nothing. -/
def Relay.reset : Relay :=
  { feed := none, prev := none, rise := none, lo := 0, hi := 0, skip := 0, window := [], quiet := 0, cyc := 0, nper := 0 }

/-- A Heddle engine (R123, R130 to R150): its memories (pattern, signal words 0 to 7,167, both copies of the output region,
the mailbox staging copy, both banks under bank·2048 + c, committed states, and the states written in this pass); presets
oldest first; the pass: running, its next pick, its clocks, END reached, a pick has saturated, a pick inside the TRK
segment has saturated, the bindings made (channel, first word, count), a sort in progress, lane records that wait; the
bindings of the last commit; a running pattern check (some true: written during the check); a swap request (some none: at
the next boundary, some (some k): at cycle k); a stop at the next boundary; HDL_IMG.COUNT in force; the hand-over's result
at the next boundary and an abort that waits; an armed engine has passed its boundary; the engine has committed in this
cycle; it has overrun in this cycle and its pulse at the router waits for t_out (R333); and the relay units. -/
structure Engine where
  pat     : Sparse (BitVec 64)
  sig     : Sparse Word
  shadow  : Sparse Word
  pub     : Sparse Word
  box     : Sparse Word
  coef    : Sparse Word
  st      : Sparse (BitVec 48)
  stNew   : Sparse (Option (BitVec 48))
  presets : List Preset
  inRun   : Bool
  idx     : Nat
  clocks  : Nat
  atEnd   : Bool
  satPass : Bool
  satTrk  : Bool
  binds   : List (Nat × Nat × Nat)
  sort    : Option SortReq
  lanes   : List LaneRec
  bound   : List (Nat × Nat × Nat)
  check   : Option Bool
  swap    : Option (Option Nat)
  stopReq : Bool
  img     : Nat
  hovRes  : Nat
  hovAbt  : Bool
  ready   : Bool
  did     : Bool
  missed  : Bool
  relays  : Sparse Relay
  deriving DecidableEq, Repr

/-- An engine at reset (R150). -/
def Engine.reset : Engine :=
  { pat := [], sig := [], shadow := [], pub := [], box := [], coef := [], st := [], stNew := [], presets := [],
    inRun := false, idx := 0, clocks := 0, atEnd := false, satPass := false, satTrk := false, binds := [], sort := none,
    lanes := [], bound := [], check := none, swap := none, stopReq := false, img := 0, hovRes := 0, hovAbt := false, ready := false, did := false, missed := false,
    relays := [] }

/-! ## Weaver -/

/-- A write that waits in the Weaver's shadow for t_out (R187): address, value and writer. -/
structure WvrWrite where
  addr : Nat
  val  : Word
  m    : Master
  deriving DecidableEq, Repr

/-- The layout of a ring's part of a Draft bank (R205): first entry, entries, slots present, bytes of the frame, the CFLAGS of
R84, and its sections as node, offset and entries. -/
structure BankHead where
  first : Nat
  count : Nat
  slots : Nat
  bytes : Nat
  flags : Nat
  runs  : List (Nat × Nat × Nat)
  deriving DecidableEq, Repr

/-- A bypass command or a return under way (R219, R220): its word is the open one; attempts so far; whether the command is
answered or none is sent; the pad blocks of its next attempt (R92). -/
structure BypTask where
  npad   : Nat
  isOpen : Bool
  tries  : Nat
  taken  : Bool
  deriving DecidableEq, Repr

/-- The Weaver (R186, R187, R198, R202 to R205): the shadow; the words of each channel in its last fresh cycle; the
references R_s and R_q; per cell the psi last built for the first slot, in 2^-32 turn; both Draft banks under bank·8192 + e;
the heads of the bank being built and of the front bank; whether this cycle's bank has been built; NO_FIRM rings of the cycle
before; the enabled cells in service of each string; the strings that are derated (R223); and the bypass tasks by 32s + p. -/
structure Weaver where
  shadow   : List WvrWrite
  words    : Sparse (List Word)
  strRef   : Sparse (Option Nat)
  quadRef  : Sparse (Option Nat)
  psi      : Sparse Int
  banks    : Sparse Entry
  back     : List BankHead
  built    : Bool
  noFirm   : BitVec 4
  inUse    : Sparse Nat
  derated  : BitVec 3
  tasks    : Sparse (Option BypTask)
  deriving DecidableEq, Repr

/-- An entry that reads as zero. -/
def Entry.zero : Entry := { time := 0, ctrl := 0 }

/-- The Weaver at reset. -/
def Weaver.reset : Weaver :=
  { shadow := [], words := [], strRef := [], quadRef := [], psi := [], banks := [], back := [], built := false, noFirm := 0,
    inUse := [], derated := 0, tasks := [] }

/-! ## Capture -/

/-- The capture unit's inner state (R231 to R235): the buffer; a pending trigger time; a trigger that is due at the next
t_out; the trigger has been taken; rows still to take after it; cycles since the last row; rows taken since ARM; a row was
missed since the last one taken; a STOP that waits for t_out. -/
structure CapUnit where
  buf     : Sparse Word
  trig    : Option Nat
  due     : Bool
  taken   : Bool
  left    : Nat
  since   : Nat
  rows    : Nat
  missed  : Bool
  stop    : Bool
  deriving DecidableEq, Repr

/-- The capture unit at reset. -/
def CapUnit.reset : CapUnit :=
  { buf := [], trig := none, due := false, taken := false, left := 0, since := 0, rows := 0, missed := false, stop := false }

/-! ## Graft -/

/-- The Graft unit's inner state (R251 to R268): the peer's last valid STATUS with its TB0 receive stamp, own STATUS frames
sent (K, ORIGIN), newest first, and own receive stamps of the peer's (K, stamp); the images received valid and not yet
applied, the K of the last image received, images applied in a row, the last image applied; writes waiting for the mirror
and the copy of a resync, both oldest first; whether mirror frames are missing; RESYNC_REQ wanted; RESYNC_DONE held with the
MSEQ that ends the copy; a resync in the standby complete; a resync asked by the peer and not yet copied; a hand-off: phase
(0 none, 1 accepted, 2 image h sent, 3 last image sent), the request that waits (0 none, 1 command or revert, 2 fault), and
the cycle from which no frame is released; the hand-off is a revert (R268); this module has handed off and may synchronize from its first image; control to
be taken at the next boundary (hot takeover); the last image's mandates per ring; a yield that waits for its boundary;
REVERT_REQ, and the
TB1 time from which its hold-off runs (R268); the grid
follows the active's (R256); ring traffic has passed through (R269); and GFT_MSEQ at the boundary of this cycle (R257). -/
structure Graft where
  peer     : Option GraftStatus
  peerAt   : Nat
  sentSt   : List (Nat × Nat)
  rxSt     : List (Nat × Nat × Nat)
  images   : List Image
  lastK    : Option Nat
  applied  : Nat
  last     : Option Image
  mirrorQ  : List (Word × Word)
  copyQ    : List (Word × Word)
  gapQ     : Bool
  wantRs   : Bool
  doneAt   : Option Nat
  copied   : Bool
  askedRs  : Bool
  hoPhase  : Nat
  hoReq    : Nat
  hoEnd    : Option Nat
  hoRev    : Bool
  handed   : Bool
  takeNext : Bool
  mands    : List Nat
  yielding : Bool
  revert   : Bool
  revAt    : Option Nat
  follows  : Bool
  passed   : Bool
  mseqAt   : Word
  deriving DecidableEq, Repr

/-- The Graft unit at reset. -/
def Graft.reset : Graft :=
  { peer := none, peerAt := 0, sentSt := [], rxSt := [], images := [], lastK := none, applied := 0, last := none,
    mirrorQ := [], copyQ := [], gapQ := false, wantRs := false, doneAt := none, copied := false, askedRs := false,
    hoPhase := 0, hoReq := 0, hoEnd := none, hoRev := false, handed := false, takeNext := false, mands := [], yielding := false,
    revert := false, revAt := none, follows := false, passed := false, mseqAt := 0 }

/-- Where the running cycle stands (R23): the cut has fallen, the run window is closed; the sorts completed in this cycle, when the
sorter is free again after the cut in half nanoseconds (R212), and per
sorter lane the place in that order of the sort its record took in this cycle, 0 for none (R214). -/
structure CycleUnit where
  cutDone : Bool
  outDone : Bool
  sorts   : Nat
  free    : Nat
  laneAt  : Sparse Nat
  deriving DecidableEq, Repr

/-- The cycle at reset. -/
def CycleUnit.reset : CycleUnit := { cutDone := false, outDone := false, sorts := 0, free := 0, laneAt := [] }

/-! ## Farm network -/

/-- A reply of the management handler (R388): operation with bit 7 set, sequence number, STATUS and the words after it. -/
structure MgmtReply where
  op     : Nat
  seq    : Nat
  status : Nat
  data   : List Word
  deriving DecidableEq, Repr

/-- An open management session (R386, R387, R392): the port its OPEN came in on, role and key slot; H and the reply to it
(none while the request completes in the background); SUBSCRIBE; the notification number last used, the TB0 second in
which NOTIFY frames were last counted, how many were sent in it, and those dropped since the last one sent. -/
structure Session where
  port    : Nat
  role    : Nat
  key     : Nat
  high    : Nat
  reply   : Option MgmtReply
  subs    : Bool
  notes   : Nat
  sec     : Nat
  inSec   : Nat
  dropped : Nat
  deriving DecidableEq, Repr

/-- A message in the firmware queue (R388). -/
structure HostMsg where
  session : Nat
  role    : Nat
  bytes   : List Byte
  deriving DecidableEq, Repr

/-- The peer-delay mechanism of a line port (R384): the last measurements in 2^-16 ns, newest first; discards in a row;
requests in a row without an answer; the request that is out, and the next sequence number. -/
structure PeerDelay where
  meas    : List Int
  discard : Nat
  missed  : Nat
  asked   : Option Nat
  next    : Nat
  deriving DecidableEq, Repr

/-- A port that has measured nothing. -/
def PeerDelay.reset : PeerDelay := { meas := [], discard := 0, missed := 0, asked := none, next := 0 }

/-- A master heard on a LAN (R382): port identity, data set, the TB0 times of its latest Announces, and whether it is
qualified. -/
structure PtpMaster where
  src   : BitVec 80
  data  : AnnounceData
  heard : List Nat
  qual  : Bool
  deriving DecidableEq, Repr

/-- A two-step Sync that waits for its Follow_Up (R382): master, sequence number, C + D + A in 2^-16 ns, and t_rx. -/
structure PtpWait where
  src  : BitVec 80
  seq  : BitVec 16
  corr : Int
  rx   : Nat
  deriving DecidableEq, Repr

/-- The PTP port of a LAN (R381, R382): the masters heard, whether Announce receipt has timed out, and a Sync that waits. -/
structure PtpPort where
  masters : List PtpMaster
  timeout : Bool
  wait    : Option PtpWait
  deriving DecidableEq, Repr

/-- A PTP port that has heard nothing. -/
def PtpPort.reset : PtpPort := { masters := [], timeout := true, wait := none }

/-! ## What leaves the module -/

/-- What leaves the module or a node: safe-block symbols, frames and records on the rings, Graft frames, frames on the farm
network and CAN, interrupts to the Crown cores. -/
inductive Output where
  /-- A BLK block on a Warp port (R287). -/
  | blk (port : Nat)
  /-- A frame launched at a Warp port, 2r or 2r + 1. -/
  | warpTx (port : Nat) (f : WarpFrame)
  /-- A frame forwarded in pass mode, in a direction of ring `r` (R97). -/
  | passTx (r : Nat) (dir : Dir) (f : WarpFrame)
  /-- A frame that a node sends out of a port. -/
  | nodeTx (r p port : Nat) (f : WarpFrame)
  /-- A block that a node forwards out of a port (R68, R78): a control block or a data block. -/
  | nodeBlock (r p port : Nat) (control : Bool) (bits : BitVec 64)
  /-- The RESUME block after a COLLECT frame that has pre-empted the node's own HELLO frame (R77). -/
  | nodeResume (r p port : Nat)
  /-- The RESUME block after a COLLECT frame that has pre-empted a frame at a Warp port (R77). -/
  | warpResume (port : Nat)
  /-- A STATUS frame on the Graft link. -/
  | graftStatus (f : GraftStatus)
  /-- An IMAGE frame on the Graft link. -/
  | graftImage (img : Image)
  /-- A MIRROR frame on the Graft link. -/
  | graftMirror (f : MirrorFrame)
  /-- The interrupt of the fault collector to both Crown cores. -/
  | fltIrq
  /-- Crown interrupt `j` of the event router, to core 0 or 1. -/
  | crownIrq (j : Nat) (core : Bool)
  /-- A transmit buffer that a CAN controller puts on its bus. -/
  | canTx (c b : Nat) (words : List Word)
  /-- A frame that the bridge forwards out of line port `p` (R373). -/
  | ethForward (p : Nat) (f : EthFrame)
  /-- A PTP message out of line port `p`: type as in its header, and what it carries (R384). -/
  | ptpSend (p type : Nat) (msg : PtpMsg)
  /-- A supervision frame of the PRP node, out of line port `p` as those below (R376). -/
  | prpSupervision (p seq : Nat)
  /-- The answer to an ARP request, or a gratuitous ARP for `none` (R379). -/
  | arp (p : Nat) (asker : Option (BitVec 48)) (seq : Nat)
  /-- The answer to an echo request (R379). -/
  | icmpReply (p : Nat) (data : List Byte) (seq : Nat)
  /-- A BUSY reply to an OPEN or another operation, not authenticated (R391). -/
  | mgmtBusy (p op session seq : Nat)
  /-- The answer to an OPEN: STATUS, session and nonce (R386). -/
  | mgmtOpened (p session status : Nat) (nonce : BitVec 128) (idle : Nat)
  /-- A reply in a session (R387). -/
  | mgmtReply (p session : Nat) (r : MgmtReply)
  /-- A NOTIFY to a session: its number, record, status, FIRST_T and drops (R392). -/
  | notify (p session num record : Nat) (stat : Word) (first dropped : Nat)
  deriving DecidableEq, Repr

/-! ## The Ethernet island -/

/-- A frame at an egress port (R374): its class, its bytes with the FCS, the share of the partition that it lies in, and what it is. -/
structure EthItem where
  cls   : Nat
  len   : Nat
  share : Nat
  out   : Output
  deriving DecidableEq, Repr

/-- An egress port (R374): the frames that wait, in their order of arrival; the one on the wire; and the nanoseconds until the next may
start. -/
structure EthPort where
  queue : List EthItem
  cur   : Option EthItem
  left  : Nat
  deriving DecidableEq, Repr

/-- A port that sends nothing. -/
def EthPort.reset : EthPort := { queue := [], cur := none, left := 0 }

/-- The Ethernet island (R371 to R393): sequence number of the PRP node; frames accepted within ENTRY_FORGET (source, sequence
number, TB0 time); the stamps of the last PTP event message of line port p, received under 2p and sent under 2p + 1, in TB2 with
TB0 beside it (R57); the node table (address, TB0 time last heard); per fault and unit the TB0 second of its last raise
(R393); peer delays by port; PTP ports by LAN; the selected master and its LAN; echo replies sent in a TB0 second; the
sessions and the number last assigned; the nonces of the last OPENs accepted; the firmware queue; the
egress ports, and the bytes that wait for the local handlers and for the safety islands (R374). -/
structure EthUnit where
  prpSeq   : Nat
  seen     : List (BitVec 48 × Nat × Nat)
  stamps   : Sparse (Nat × Nat)
  table    : List (BitVec 48 × Nat)
  lastSec  : Sparse (Option Nat)
  delays   : Sparse PeerDelay
  ptp      : Sparse PtpPort
  sel      : Option (PtpMaster × Nat)
  icmp     : Nat × Nat
  sessions : Sparse (Option Session)
  lastNum  : Nat
  nonces   : List (BitVec 128)
  msgs     : List HostMsg
  ports    : Sparse EthPort
  rxLocal  : Nat
  rxSafe   : Nat
  deriving DecidableEq, Repr

/-- The island at reset. -/
def EthUnit.reset : EthUnit :=
  { prpSeq := 0, seen := [], stamps := [], table := [], lastSec := [], delays := [], ptp := [], sel := none, icmp := (0, 0), sessions := [],
    lastNum := 0, nonces := [], msgs := [], ports := [], rxLocal := 0, rxSafe := 0 }

/-! ## Seed -/

/-- A seed update in progress (R426): its session, SECTION and TOTAL. -/
structure SeedUpdate where
  session : Nat
  sect    : Nat
  total   : Nat
  deriving DecidableEq, Repr

/-- The seed card and the boot (R411 to R427): the descriptor in force (ACTIVE, PENDING); the header of the image in use, and that of the valid ACTIVE image while bank PENDING is in use (R420); the
newest epoch and the number of blocks of the journal region found at start; role keys of the image's section and those in
force (bit 4·role + slot); key slots blown since delivery; whether the card in the slot is the one read at start and usable;
whether a different one has been inserted; whether the Crown firmware has been started, and the network
configuration applied; the CAN controllers that their section keeps listen-only (R419); the update in progress, and the
SEED_COMMIT that waits for its verification. -/
structure SeedUnit where
  active   : Bool
  pend     : Option Bool
  header   : Option BankHeader
  other    : Option BankHeader
  newest   : Nat
  jblocks  : Nat
  keysNew  : BitVec 20
  keys     : BitVec 20
  blown    : BitVec 4
  cardOk   : Bool
  wrong    : Bool
  firmware : Bool
  netUp    : Bool
  canKeep  : BitVec 2
  update   : Option SeedUpdate
  commit   : Option MgmtHdr
  deriving DecidableEq, Repr

/-- The unit before a start. -/
def SeedUnit.reset : SeedUnit :=
  { active := false, pend := none, header := none, other := none, newest := 0, jblocks := 0, keysNew := 0, keys := 0, blown := 0, cardOk := false,
    wrong := false, firmware := false, netUp := false, canKeep := 0, update := none, commit := none }

/-! ## Thermal -/

/-- The thermal block (R430 to R438): per sensor its previous reading and its good samples in a row while it has failed; T_max of
the last 20,000 samples, newest first (R434); whether every sample of the running 2 s interval was above 110 °C, or below
105 °C (none: no sample yet); per rail its samples in a row out of regulation. -/
structure ThermUnit where
  prev  : Sparse (Option Int)
  good  : Sparse Nat
  hist  : List Int
  hot   : Option Bool
  cool  : Option Bool
  rails : Sparse Nat
  deriving DecidableEq, Repr

/-- The thermal block at reset. -/
def ThermUnit.reset : ThermUnit := { prev := [], good := [], hist := [], hot := none, cool := none, rails := [] }

/-! ## Stops -/

/-- Why the block stops with a fault. No command raises one: every condition the spec calls a fault is an effect on the
state. -/
inductive Fault where
  /-- Raised by nothing; a stop of this name would be safe. -/
  | stuck
  deriving DecidableEq, Repr

/-- Why a command has no meaning. -/
inductive Refusal where
  /-- A command whose meaning is not written yet, by its mnemonic; raised by the dispatch only. Safe. -/
  | notModelled (mnemonic : String)
  deriving DecidableEq, Repr

/-! ## The state -/

/-- The state of the block. `regs` holds every register under its Crown address; `pairCap` and `pairHeld` the captured and the
held high halves of R14; `poison` the words whose ECC is uncorrectable (R310); `dirty` the pattern and coefficient words
written since the seed image was loaded, a whole bank under its base address plus 1 (R311); `crown` the Crown SRAM; `out` what has left the
module, newest first; `lines` the TB0 time at which the frame being sent on a line ends, Warp port by port and then node port by node
port, while it may be pre-empted (R77); `freeCtr` counts the free values used; `acc` is how the register access in hand has ended: 0 done, else the
STATUS of R388 that answers it; `rdata` is the value that the last read returned. -/
structure State where
  pending  : List Instr
  out      : List Output
  freeCtr  : Nat
  regs     : Sparse Word
  pairCap  : Sparse (Option Word)
  pairHeld : Sparse (Option Word)
  crown    : List Host.Cell
  poison   : Sparse Bool
  dirty    : Sparse Bool
  cyc      : CycleUnit
  tbs      : Sparse TimeBase
  tim      : TimUnit
  xst      : XStamp
  flt      : FltUnit
  jnl      : JnlUnit
  saf      : Safety
  evr      : Router
  cmps     : Sparse CmpUnit
  canMem   : Sparse Word
  cans     : Sparse CanUnit
  gate     : GateUnit
  sap      : SapUnit
  rings    : Sparse Ring
  lines    : Sparse (Option Nat)
  nodes    : Sparse Node
  engines  : Sparse Engine
  wvr      : Weaver
  cap      : CapUnit
  gft      : Graft
  eth      : EthUnit
  seed     : SeedUnit
  therm    : ThermUnit
  acc      : Nat
  rdata    : Word
  deriving DecidableEq, Repr

/-- The block after reset: nothing waits, every register reads its reset value, every memory reads 0 and every unit is at
its own reset. (DESIGN CHOICE: log entry 5; DEDUCED: log entry 6) -/
def State.reset : State :=
  { pending := [], out := [], freeCtr := 0, regs := [], pairCap := [], pairHeld := [], crown := [], poison := [], dirty := [],
    cyc := CycleUnit.reset, tbs := [], tim := TimUnit.reset, xst := XStamp.reset, flt := { order := [], causes := [], reloads := [] }, jnl := JnlUnit.reset,
    saf := Safety.reset, evr := Router.reset, cmps := [], canMem := [], cans := [], gate := GateUnit.reset,
    sap := SapUnit.reset, rings := [], lines := [], nodes := [], engines := [], wvr := Weaver.reset, cap := CapUnit.reset,
    gft := Graft.reset, eth := EthUnit.reset, seed := SeedUnit.reset, therm := ThermUnit.reset, acc := 0,
    rdata := 0 }

end Sys2Proof.Machine
end

