-- ==== Sys2Proof/Machine/Ops.lean ====
section
/-! DEFINITION. The operations every unit shares: registers and their fields, the time bases' values, what leaves the
module, journal entries, the voter and the safety demands, fault records with their class reactions, and bus errors. -/

namespace Sys2Proof.Machine

/-! ## Units -/

/-- The state with the time unit replaced. -/
def State.withTim (s : State) (x : TimUnit) : State := { s with tim := x }

/-- The state with the collector's records replaced. -/
def State.withFlt (s : State) (x : FltUnit) : State := { s with flt := x }

/-- The state with the journal unit replaced. -/
def State.withJnl (s : State) (x : JnlUnit) : State := { s with jnl := x }

/-- The state with the safety cores replaced. -/
def State.withSaf (s : State) (x : Safety) : State := { s with saf := x }

/-- The state with the event router replaced. -/
def State.withEvr (s : State) (x : Router) : State := { s with evr := x }

/-- The state with the capture unit replaced. -/
def State.withCap (s : State) (x : CapUnit) : State := { s with cap := x }

/-- The state with the Graft unit replaced. -/
def State.withGft (s : State) (x : Graft) : State := { s with gft := x }

/-- The state with the Sap engine replaced. -/
def State.withSap (s : State) (x : SapUnit) : State := { s with sap := x }

/-! ## Registers -/

/-- The register at address `a` as it is stored. -/
def State.reg (s : State) (a : Nat) : Word := Sparse.get regReset s.regs a

/-- The state with `v` in the register at address `a`. -/
def State.setReg (s : State) (a : Nat) (v : Word) : State := { s with regs := Sparse.set regReset s.regs a v }

/-- Bits `hi` down to `lo` of a register. -/
protected def State.fld (s : State) (a hi lo : Nat) : Nat := Sys2Proof.fld (s.reg a) hi lo

/-- Bit `i` of a register. -/
protected def State.bit (s : State) (a i : Nat) : Bool := Sys2Proof.bit (s.reg a) i

/-- The state with bits `hi` down to `lo` of a register replaced. -/
def State.setFld (s : State) (a hi lo v : Nat) : State := s.setReg a (putFld (s.reg a) hi lo v)

/-- The state with bit `i` of a register replaced. -/
def State.setBit (s : State) (a i : Nat) (b : Bool) : State := s.setReg a (putBit (s.reg a) i b)

/-- The state with the bits of `mask` set in a register. -/
def State.orReg (s : State) (a mask : Nat) : State := s.setReg a (BitVec.ofNat 32 (Nat.lor (s.reg a).toNat mask))

/-- The state with the bits of `mask` cleared in a register. -/
def State.clrReg (s : State) (a mask : Nat) : State :=
  s.setReg a (BitVec.ofNat 32 ((s.reg a).toNat - Nat.land (s.reg a).toNat mask))

/-- A counter field plus `d`, held at its greatest value. -/
protected def State.count (s : State) (a hi lo d : Nat) : State :=
  s.setFld a hi lo (satAdd (2 ^ (hi + 1 - lo) - 1) (s.fld a hi lo) d)

/-- A peak field raised to `v` where `v` is greater. -/
protected def State.peak (s : State) (a hi lo v : Nat) : State :=
  if s.fld a hi lo < v then s.setFld a hi lo (min v (2 ^ (hi + 1 - lo) - 1)) else s

/-- The 64-bit value of a register pair. -/
protected def State.pair (s : State) (lo : Nat) : Nat := join64 (s.reg lo) (s.reg (lo + 4))

/-- The state with a 64-bit value in a register pair. -/
def State.setPair (s : State) (lo : Nat) (v : Nat) : State := (s.setReg lo (lo32 v)).setReg (lo + 4) (hi32 v)

/-- The state with one more thing sent out of the module. -/
def State.emit (s : State) (o : Output) : State := { s with out := o :: s.out }

/-- The state with several things sent, the first of the list first. -/
def State.emits (s : State) : List Output → State
  | [] => s
  | o :: os => (s.emit o).emits os

/-- The free value counter advanced by one. (DESIGN CHOICE: log entry 7) -/
def State.tickFree (s : State) : State := { s with freeCtr := s.freeCtr + 1 }

/-- Fold a change over a list. -/
def forEach {α : Type} (f : State → α → State) : List α → State → State
  | [], s => s
  | x :: xs, s => forEach f xs (f s x)

/-- The registers of a range of addresses return to their reset values (R8). -/
def State.resetRegs (s : State) (lo hi : Nat) : State :=
  { s with regs := s.regs.filter (fun p => decide (p.1 < lo) || decide (hi ≤ p.1)) }

/-- The base address of a buffer of R37 that the spec places in a window without an offset: 0 the ring buffers, 1 the Graft images, 2 the
Ethernet buffers; and its bytes. (DESIGN CHOICE: log entry 10) -/
def bufBase (i : Nat) : Nat := nth [0x30000000, 0x32000000, 0x33000000] i 0 + Config.bufOffset i
@[inherit_doc bufBase] def bufBytes (i : Nat) : Nat := nth [0x80000, 0x20000, 0x40000] i 0

/-- An address lies in a buffer of R37. -/
def inBuffer (a : Nat) : Bool :=
  let i := if a / 0x1000000 = 0x30 then 0 else if a / 0x1000000 = 0x32 then 1 else 2
  (a / 0x1000000 == 0x30 || a / 0x1000000 == 0x32 || a / 0x1000000 == 0x33) && decide (bufBase i ≤ a) && decide (a < bufBase i + bufBytes i)

/-! ## Time bases -/

/-- Time base `n`. -/
def State.tb (s : State) (n : Nat) : TimeBase := Sparse.get (fun _ => TimeBase.reset) s.tbs n

/-- The state with time base `n` replaced. -/
def State.setTb (s : State) (n : Nat) (t : TimeBase) : State :=
  { s with tbs := Sparse.set (fun _ => TimeBase.reset) s.tbs n t }

/-- The visible value of a base, in 2^-16 ns (R6). -/
def State.now (s : State) (n : Nat) : Nat := (s.tb n).cnt.toNat / 2 ^ 16

/-- A timestamp of base `n` (R57): its count and the interpolator's reading of 10 ps steps within a clock of 2 ns, rounded to the
nearest 2^-16 ns. (DESIGN CHOICE: log entry 7; DEDUCED: log entry 16) -/
def State.stamp (s : State) (n : Nat) : Nat :=
  let c := (s.tb n).cnt.toNat
  ((c * 100 + Config.interp n c % 200 * 2 ^ 32 + 3276800) / 6553600) % 2 ^ 64

/-- A cross-stamp (R58): all four bases in one clock. -/
def State.xstamp (s : State) : State :=
  { s with xst := { tb0 := s.now 0, tb1 := s.now 1, tb2 := s.now 2, tb3 := s.now 3, valid := true } }

/-- `a - b` of two times by signed difference (R40). -/
def tdiff (a b : Nat) : Int := sext 64 (a + 2 ^ 64 - b % 2 ^ 64)

/-- Nanoseconds in units of 2^-16 ns. -/
def ns (n : Nat) : Nat := n * 2 ^ 16

/-- The greatest distance of a time that a unit accepts (R41): 2^46 ns. -/
def maxTime : Int := ((2 ^ 62 : Nat) : Int)

/-- T_cyc in nanoseconds of a code of TIM_CYCLE_CFG. -/
def tcycOf (code : Nat) : Nat := nth [12500, 25000, 50000, 100000] code 25000

/-- T_cyc in nanoseconds. -/
def State.tcyc (s : State) : Nat := tcycOf (s.fld TIM_CYCLE_CFG 1 0)

/-- The number of the current cycle. -/
def State.k (s : State) : Nat := (s.reg TIM_CYCLE_NUM).toNat

/-- The TB0 time of the current boundary. -/
def State.bk (s : State) : Nat := s.pair TIM_BOUNDARY_LO

/-! ## Modes that several units ask for -/

/-- Ring `r` is enabled. -/
def State.ringEn (s : State) (r : Nat) : Bool := s.bit WRP_CTRL r

/-- The rings that are enabled. -/
def State.ringsEn (s : State) : List Nat := (upTo 0 4).filter (fun r => s.ringEn r)

/-- DUPLEX_EN of GFT_CTRL. -/
def State.duplex (s : State) : Bool := s.bit GFT_CTRL 0

/-- The role of R249. -/
def State.role (s : State) : Nat := s.fld GFT_STATUS 2 0

/-- The module controls the rings (R249, R276): Active in a duplex pair, or running alone with a ring enabled. -/
def State.controls (s : State) : Bool := if s.duplex then s.role == 4 else s.fld WRP_CTRL 3 0 != 0

/-- The module is a standby of a duplex pair (roles 1 to 3 of R249). -/
def State.standby (s : State) : Bool := s.duplex && decide (1 ≤ s.role) && decide (s.role ≤ 3)

/-- SPB is latched. -/
def State.spb (s : State) : Bool := s.bit SAF_STATUS 0

/-- The RUN state (R424): 0 stopped, 1 ready, 2 running, 3 stopping. -/
def State.run (s : State) : Nat := s.fld SED_RUN 1 0

/-- The stopped state of R29 and R52 (R424): neither running nor stopping, with SPB held. -/
def State.stopped (s : State) : Bool := s.spb && s.run != 2 && s.run != 3

/-- Some target is enabled in the Weaver (WVR_STATUS.ANY_EN). -/
def State.anyEn (s : State) : Bool := s.bit WVR_STATUS 1

/-- Some cell is enabled in the Weaver (R29, R52): an LV bridge is none. -/
def State.cellOn (s : State) : Bool := (upTo 0 3).any (fun k => s.reg (WVR_STR_EN k) != 0)

/-- Start-up has reached its end (R419). -/
def State.booted (s : State) : Bool := s.bit SED_STATUS 0

/-- What the module itself must have for factory test mode (R312): fused factory state and the jumper fitted. -/
def State.factoryMode (s : State) : Bool := s.bit SED_FACTORY 0 && s.bit SED_FACTORY 1

/-! ## Masters and origins -/

/-- The master code of R309. (DEDUCED: log entry 14) -/
def masterCode : Master → Byte
  | .crown c => BitVec.ofNat 8 c.val
  | .host _ _ _ => 0x30
  | .mirror => 0x22
  | .loader _ => 0x42

/-- The role of the session behind an access, none for any other master. -/
def masterRole : Master → Option Nat
  | .host _ r _ => some r.val
  | _ => none

/-- The origin of an internal block (R315): code `cc`, unit, 15 for the whole block. -/
def originBlk (cc unit : Nat) : Nat := cc * 16 + min unit 15

/-- The origin of the safety cores. -/
def originSafety : Nat := 0x3000

/-- The origin of an access (R315). (DEDUCED: log entry 14) -/
def State.originOf (s : State) : Master → Nat
  | .crown c => 0x1000 + c.val
  | .host p r n => 0x2000 + p.val * 1024 + r.val * 128 + n.val
  | .mirror => 0x6000 + (if s.bit GFT_CFG 0 then 0 else 1)
  | .loader n => 0x5000 + n.val

/-! ## The journal -/

/-- The flags of a journal entry (R315). -/
def State.jFlags (s : State) (refused cont : Bool) : Byte :=
  BitVec.ofNat 8 (b2n refused + 2 * b2n s.tim.tb2Valid + 4 * b2n (s.bit (TIM_TB_STATUS 2) 3) + 8 * b2n cont)

/-- Put an entry into the on-chip ring (R318). An uncopied entry that it overwrites is lost; what a LOSS entry must cover
is noted for the copier. -/
def State.jPut (s : State) (e : JEntry) : State :=
  let seq := (s.reg JNL_HEAD).toNat
  let copied := (s.reg JNL_COPIED).toNat
  let full := decide (8192 ≤ seq - copied)
  let s1 := s.withJnl { s.jnl with
    ring := Sparse.set (fun _ => JEntry.none) s.jnl.ring (seq % 8192) e
    ovr := s.jnl.ovr + b2n full
    lost := if full then
        (match s.jnl.lost with
         | some (f, n) => some (f, n + 1)
         | none => some (copied, 1))
      else s.jnl.lost }
  let s2 := s1.setReg JNL_HEAD (w32 (seq + 1))
  let s3 := if full then s2.setReg JNL_COPIED (w32 (copied + 1)) else s2
  s3.setBit JNL_STATUS 1 (decide (4096 < (s3.reg JNL_HEAD).toNat - (s3.reg JNL_COPIED).toNat))

/-- An entry with the cross-stamp of this instant (R58, R315, R316). -/
def State.jAppend (s : State) (origin type : Nat) (refused : Bool) (target : Nat) (old new : Word) (cont : Bool) : State :=
  s.xstamp.jPut {
    t0 := BitVec.ofNat 64 (s.now 0)
    t2 := BitVec.ofNat 48 (s.now 2 / 2 ^ 16)
    epoch := BitVec.ofNat 16 (s.fld JNL_EPOCH 15 0)
    origin := BitVec.ofNat 16 origin
    type := BitVec.ofNat 8 type
    flags := s.jFlags refused cont
    target := w32 target
    old := old
    new := new }

/-- An entry of the on-chip ring. -/
def State.ringEntry (s : State) (seq : Nat) : JEntry := Sparse.get (fun _ => JEntry.none) s.jnl.ring (seq % 8192)

/-- Entries in groups that stay together: an entry with CONT and its STAMP entry (R315). -/
def jGroups : List JEntry → List (List JEntry)
  | [] => []
  | [e] => [[e]]
  | e :: f :: es => if bit (e.flags.setWidth 32) 3 then [e, f] :: jGroups es else [e] :: jGroups (f :: es)

/-- The origin kind and the epoch of a group. -/
def jKind (g : List JEntry) : Nat × Nat :=
  match g with
  | e :: _ => (e.origin.toNat / 4096, e.epoch.toNat)
  | [] => (0, 0)

/-- A group is put among the groups before it, the last of them first, in ascending origin kind within its epoch. -/
def jInsert (g : List JEntry) : List (List JEntry) → List (List JEntry)
  | [] => [g]
  | h :: hs => if (jKind h).2 = (jKind g).2 ∧ (jKind g).1 < (jKind h).1 then h :: jInsert g hs else g :: h :: hs

/-- Entries of one instant in ascending origin kind (R316), of one kind as they arrived. -/
def jSorted (es : List JEntry) : List JEntry := ((jGroups es).foldl (fun a g => jInsert g a) []).reverse.flatten

/-- The entries that a command has caused stand in the order of R316. (DEDUCED: log entry 15) -/
def State.jOrder (s : State) : State :=
  let head := (s.reg JNL_HEAD).toNat
  let es := jSorted ((upTo s.jnl.mark (head - s.jnl.mark)).map s.ringEntry)
  s.withJnl { s.jnl with
    mark := head
    ring := ((upTo s.jnl.mark es.length).zip es).foldl (fun m p => Sparse.set (fun _ => JEntry.none) m (p.1 % 8192) p.2) s.jnl.ring }

/-- The TB1 stamp of the safety event in hand: its input samples lie before the filter's end (R280). -/
def State.safStamp (s : State) : Nat := (s.stamp 1 + 2 ^ 64 - s.saf.back) % 2 ^ 64

/-- The STAMP entry that follows a safety entry (R315). -/
def State.jStamp (s : State) (origin : Nat) : State :=
  s.jAppend origin 0x09 false 1 (lo32 s.safStamp) (hi32 s.safStamp) false

/-- A safety entry: a WRITE of the register that reports it, followed by its STAMP entry (R302, R315). -/
def State.jSafety (s : State) (a : Nat) (old new : Word) : State :=
  (s.jAppend originSafety 0x01 false a old new true).jStamp originSafety

/-- A change the device makes itself to a register that reports configuration, mode or role (R314 item 4). -/
def State.putJ (s : State) (origin a : Nat) (v : Word) : State :=
  if s.reg a = v then s else (s.setReg a v).jAppend origin 0x01 false a (s.reg a) v false

/-- The same for one field. -/
def State.putFldJ (s : State) (origin a hi lo v : Nat) : State := s.putJ origin a (putFld (s.reg a) hi lo v)

/-- The recovery epoch becomes `e`, with its EPOCH entry (R317). Causes: 0 reset, 1 TB0 load or step, 2 TB0 wrap,
3 control taken. -/
def State.setEpoch (s : State) (cause e : Nat) : State :=
  let old := s.reg JNL_EPOCH
  let new := w32 (e % 2 ^ 16)
  ((s.setReg JNL_EPOCH new).orReg JNL_EVENTS 8).jAppend (originBlk 0x0B 15) 0x06 false cause old new false

/-- The recovery epoch increments. -/
def State.nextEpoch (s : State) (cause : Nat) : State := s.setEpoch cause (s.fld JNL_EPOCH 15 0 + 1)

/-! ## The safety demands and the voter -/

/-- A field of the safety parameter block (R297): `n` bytes from an offset, little-endian. -/
def blkAt (b : SafetyBlock) (off n : Nat) : Nat := leNat ((b.drop off).take n)

/-- Function of safety channel `n` by the block in force: 0 none, 1 SPB, 2 SMT, 3 RESET. -/
def State.chanFn (s : State) (n : Nat) : Nat := if s.saf.valid then blkAt s.saf.block (0x08 + n) 1 % 4 else 0

/-- Pair `i` is a dual-channel input. -/
def State.paired (s : State) (i : Nat) : Bool := s.saf.valid && nbit (blkAt s.saf.block 0x10 1) i

/-- Channel `n` demands: it is not in PERMIT, or its pair is latched (R276, R283), and its function is SPB or SMT. -/
def State.chanDemands (s : State) (n : Nat) : Bool :=
  (s.chanFn n == 1 || s.chanFn n == 2) && (!s.bit SAF_IN (8 + n) || (s.paired (n / 2) && s.bit SAF_IN (24 + n / 2)))

/-- The sources that demand now, numbered as in SAF_DEMAND (R276, R301). ROUTER, BOUGH and TRUNK act only while the
module controls the rings. -/
def State.safActive (s : State) : Nat :=
  ((upTo 0 8).foldl (fun a n => a + b2n (s.chanDemands n) * 2 ^ n) 0)
  + ((upTo 8 8).foldl (fun a n => a + b2n (nbit s.saf.cond n) * 2 ^ n) 0)
  + b2n (s.bit FLT_STATUS 1 && s.controls) * 2 ^ 17
  + b2n (s.bit FLT_STATUS 2 && s.controls) * 2 ^ 18
  + ((upTo 19 3).foldl (fun a n => a + b2n (nbit s.saf.cond n) * 2 ^ n) 0)

/-- Source `n` demands SMT beside SPB (R276). -/
def State.demandsSmt (s : State) (n : Nat) : Bool :=
  if n < 8 then s.chanFn n == 2
  else match n with
    | 9 => true
    | 10 => nbit (blkAt s.saf.block 0x1E 1) 1
    | 15 => s.saf.testFail
    | 18 => true
    | 19 => true
    | 20 => true
    | 21 => true
    | _ => false

/-- Some source of a set demands SMT. -/
def State.anySmt (s : State) (m : Nat) : Bool := (setBits m 22).any (fun n => s.demandsSmt n)

/-- One BLK block on both ports of every enabled ring (R287). -/
def State.injectBlk (s : State) : State :=
  forEach (fun s r => (s.emit (.blk (2 * r))).emit (.blk (2 * r + 1))) s.ringsEn s

/-- The voter latches SPB, and SMT where it is demanded (R275, R277). The assertion of SPB injects BLK and starts its
repetition (R287); SMT opens all four switches (R284). A demand in a dark pulse is noted (R286). (DEDUCED: log entry 41) -/
def State.voterAssert (s : State) (smt : Bool) : State :=
  let s1 := s.withSaf { s.saf with hitInTest := s.saf.hitInTest || s.saf.testOut.isSome, arRunning := false }
  let s2 := if s1.spb then s1 else ((s1.setBit SAF_STATUS 0 true).withSaf { s1.saf with blkLeft := 10 }).injectBlk
  if smt then
    (((s2.setBit SAF_STATUS 1 true).setBit SAF_STATUS 2 true).setFld SAF_OUT 7 4 0).setFld SAF_OUT 1 0 0
  else s2

/-- The onset of source `n` (R276, R277, R302): counted, stamped in TB1, recorded as a cause, journaled, and latched in
the voter. (DEDUCED: log entry 38) -/
def State.safOnset (s : State) (n : Nat) : State :=
  let old := s.reg SAF_LATCH
  let s1 := ((s.count SAF_CNT1 31 16 1).setPair SAF_LAST_LO s.safStamp).orReg SAF_LATCH (2 ^ n)
  (s1.jSafety SAF_LATCH old (s1.reg SAF_LATCH)).voterAssert (s.demandsSmt n)

/-- AR_DELAY runs (R277): RESTART is auto, and a function is latched that none of the sources in `m` demands. -/
def State.arWanted (s : State) (m : Nat) : Bool :=
  decide (blkAt s.saf.block 0x17 1 = 1) && ((s.bit SAF_STATUS 1 && !s.anySmt m) || (s.spb && m == 0))

/-- ACK_WAIT: SPB is latched and no source demands (R301). -/
def State.safWait (s : State) : State := s.setBit SAF_STATUS 4 (s.spb && (s.reg SAF_DEMAND).toNat == 0)

/-- The cores evaluate every source (R275): sources that newly demand have their onset, and SAF_DEMAND follows; AR_DELAY starts
or ends with it (R277). (DEDUCED: log entry 38) -/
def State.safEval (s : State) : State :=
  let old := (s.reg SAF_DEMAND).toNat
  let new := s.safActive
  if new = old then s else
  let on := setBits (new - Nat.land new old) 22
  let s1 := forEach State.safOnset on (s.setReg SAF_DEMAND (w32 new))
  (s1.withSaf { s1.saf with arRunning := s1.arWanted new }).safWait

/-- A one-shot source: its onset latches its functions, and it is inactive from then on (R276). -/
def State.safPulse (s : State) (n : Nat) : State :=
  let s1 := s.safOnset n
  (s1.withSaf { s1.saf with arRunning := s1.arWanted (s1.reg SAF_DEMAND).toNat }).safWait

/-- A level source 8 to 21 begins to demand or ends. -/
def State.safCond (s : State) (n : Nat) (on : Bool) : State :=
  (s.withSaf { s.saf with cond := nput s.saf.cond n n (b2n on) }).safEval

/-! ## RUN -/

/-- The RUN state changes, journaled (R424). -/
def State.setRun (s : State) (v : Nat) : State := s.putFldJ (originBlk 0x0B 15) SED_RUN 1 0 v

/-- RUN under a Bough or Trunk fault (R307, R424): running becomes stopping, stopping stays, any other becomes or stays
stopped. -/
def State.runFault (s : State) : State :=
  if s.run = 2 then s.setRun 3 else if s.run = 3 then s else s.setRun 0

/-! ## Fault records -/

/-- Class of a fault code (R300, R313 and the tables of the other chapters): 1 Leaf, 2 Twig, 3 Branch, 4 Bough,
5 Trunk; 0 for a code that is not listed. One digit per fault number of a block, from 1 on. -/
def classRows : List (Nat × List Nat) := [
  (0x01, [1, 2, 1, 2, 2, 2, 1, 4, 5, 3, 1]),
  (0x02, [3, 3, 3, 3, 3, 3, 3, 3, 2, 1]),
  (0x03, [2, 4, 1, 1, 1, 3, 2, 2, 1, 1, 1]),
  (0x04, [2, 2, 4, 1, 1, 3, 4, 1, 3, 4, 2]),
  (0x05, [3, 3, 2, 3, 4, 3, 3, 3, 3, 1, 2, 2]),
  (0x06, [3, 2, 3, 2, 4, 2, 5, 3, 3, 3, 2, 3, 2, 1, 5, 5, 3, 1, 3]),
  (0x07, [2, 3, 2, 1, 2, 3, 1, 3]),
  (0x08, [2, 2, 1, 3, 1, 2]),
  (0x09, [2, 3, 1, 1, 3, 1, 1]),
  (0x0A, [2, 3, 1, 1, 1, 1, 3]),
  (0x0B, [4, 4, 4, 3, 3, 2, 3, 1, 2, 3]),
  (0x0C, [2, 4, 4, 3, 4, 4, 3, 3, 4, 2]),
  (0x0D, [2, 2, 2, 4, 3, 1, 1, 4, 4, 4, 2, 2])]

/-- The row of a block in the class table. -/
def classRow (cc : Nat) : List (Nat × List Nat) → List Nat
  | [] => []
  | (c, l) :: rs => if c = cc then l else classRow cc rs

/-- Class of a fault code. (DEDUCED: log entry 42) -/
def classOf (code : Nat) : Nat :=
  if code % 256 = 0 then 0 else nth (classRow (code / 256) classRows) (code % 256 - 1) 0

/-- Record `r` is used. -/
def State.recUsed (s : State) (r : Nat) : Bool := s.bit (FLT_REC_STAT r) 31

/-- Record `r` is acknowledged. -/
def State.recAcked (s : State) (r : Nat) : Bool := s.bit (FLT_REC_STAT r) 30

/-- Class of record `r`. -/
def State.recClass (s : State) (r : Nat) : Nat := s.fld (FLT_REC_STAT r) 26 24

/-- Block of record `r`. -/
def State.recBlock (s : State) (r : Nat) : Nat := s.fld (FLT_REC_STAT r) 15 8

/-- The newest used record of block `cc`, acknowledged ones too or not. -/
def State.newestRec (s : State) (cc : Nat) (acked : Bool) : Option Nat :=
  s.flt.order.find? (fun r => s.recBlock r == cc && (acked || !s.recAcked r))

/-- A record that a raise of block `cc` may open (R304): the lowest free one of 13 to 63, else the block's own. -/
def State.freeRec (s : State) (cc : Nat) : Option Nat :=
  match (upTo 13 51).find? (fun r => !s.recUsed r) with
  | some r => some r
  | none => if s.recUsed (cc - 1) then none else some (cc - 1)

/-- A FAULT entry (R315). -/
def State.jFault (s : State) (origin code r : Nat) (old : Word) : State :=
  s.jAppend origin 0x04 false (code * 65536 + r) old (s.reg (FLT_REC_STAT r)) false

/-- CONCURRENT on every record of block `cc` opened at a stamp, where there is more than one (R305 rule 3). -/
def State.markConcurrent (s : State) (cc stamp : Nat) : State :=
  let rs := s.flt.order.filter (fun r => s.recBlock r == cc && s.pair (FLT_REC_FIRST_LO r) == stamp)
  if rs.length < 2 then s else forEach (fun s r => s.setBit (FLT_REC_STAT r) 28 true) rs s

/-- A raise opens record `r` (R304, R305). -/
def State.openRec (s : State) (r code unit stamp : Nat) (persists : Bool) (cap : Option Capture) : State :=
  let cls := classOf code
  let s1 := s.setReg (FLT_REC_STAT r) (w32 (2 ^ 31 + b2n cap.isSome * 2 ^ 27 + cls * 2 ^ 24 + 2 ^ (15 + cls) + code))
  let s2 := (s1.setReg (FLT_REC_CODES r) (one (code % 256))).setReg (FLT_REC_SRC r) (one unit)
  let s3 := s2.setReg (FLT_REC_ACTIVE r) (if persists then one (code % 256) else 0)
  let s4 := ((s3.setReg (FLT_REC_MERGE r) (w32 (code * 65536))).setPair (FLT_REC_FIRST_LO r) stamp).setPair
    (FLT_REC_LAST_LO r) stamp
  let s5 := match cap with
    | some c => (s4.setReg (FLT_REC_FEC_ADDR r) c.addr).setReg (FLT_REC_FEC_INFO r)
        (w32 (c.master.toNat * 2 ^ 24 + c.access.toNat * 2 ^ 16 + c.width.toNat * 2 ^ 12))
    | none => (s4.setReg (FLT_REC_FEC_ADDR r) 0).setReg (FLT_REC_FEC_INFO r) 0
  let s6 := s5.withFlt { s5.flt with order := r :: s5.flt.order }
  let s7 := ((s6.setReg FLT_NEWEST (w32 (64 + r))).orReg FLT_EVENTS 1).markConcurrent (code / 256) stamp
  s7.jFault (originBlk (code / 256) unit) code r 0

/-- A raise is merged into record `r` (R305). A class rise is journaled. (DEDUCED: log entry 42) -/
def State.mergeRec (s : State) (r code unit stamp : Nat) (persists : Bool) : State :=
  let cls := classOf code
  let old := s.reg (FLT_REC_STAT r)
  let rise := decide (s.recClass r < cls)
  let s1 := s.setReg (FLT_REC_MERGE r) (w32 (code * 65536 + satAdd 65535 (s.fld (FLT_REC_MERGE r) 15 0) 1))
  let s2 := (s1.orReg (FLT_REC_CODES r) (2 ^ (code % 256))).orReg (FLT_REC_SRC r) (2 ^ unit)
  let s3 := if persists then s2.orReg (FLT_REC_ACTIVE r) (2 ^ (code % 256)) else s2
  let s4 := (s3.setPair (FLT_REC_LAST_LO r) stamp).orReg (FLT_REC_STAT r) (2 ^ (15 + cls))
  if rise then
    ((s4.setFld (FLT_REC_STAT r) 26 24 cls).orReg FLT_EVENTS 2).jFault (originBlk (code / 256) unit) code r old
  else s4

/-- A raise that may open no record is merged into the block's newest used one and counted (R306). -/
def State.overflowRec (s : State) (code unit stamp : Nat) (persists : Bool) : State :=
  let s1 := (s.count FLT_CNT 31 16 1).orReg FLT_EVENTS (if code = 0x0D0C then 0 else 4)
  match s1.newestRec (code / 256) true with
  | some r => s1.mergeRec r code unit stamp persists
  | none => s1

/-- Where a raise goes (R305, R306): merged into the block's newest unacknowledged record of another stamp, else a record
of its own; `true` where it found none. (DEDUCED: log entry 42) -/
def State.placeRaise (s : State) (code unit stamp : Nat) (persists : Bool) (cap : Option Capture) : State × Bool :=
  let own := match s.freeRec (code / 256) with
    | some r => (s.openRec r code unit stamp persists cap, false)
    | none => (s.overflowRec code unit stamp persists, true)
  match s.newestRec (code / 256) false with
  | some r => if s.pair (FLT_REC_FIRST_LO r) = stamp then own else (s.mergeRec r code unit stamp persists, false)
  | none => own

/-- An event of source `src` waits for the router, once in this instant (R333, R334). -/
def State.post (s : State) (src : Nat) : State :=
  if s.evr.posted.contains src || s.evr.fired.contains src then s
  else s.withEvr { s.evr with posted := s.evr.posted ++ [src] }

/-- The interrupt of a raise of class Twig and above (R307), and the collector's pulse at the event router (R333: sources 152
to 155). (DEDUCED: log entry 58) -/
def State.alarm (s : State) (cls : Nat) : State := if 2 ≤ cls then (s.emit .fltIrq).post (150 + cls) else s

/-- Record a raise and, where it overflowed, the raise of 0x0D0C that follows with its reaction (R306, R307). A cause that persists is kept under
its tag: the unit, or the source or sensor where several share a unit. -/
def State.recordRaise (s : State) (code unit tag stamp : Nat) (persists : Bool) (cap : Option Capture) : State :=
  let s0 := if persists then s.withFlt { s.flt with causes := (code, tag) :: s.flt.causes } else s
  let (s1, full) := s0.placeRaise code unit stamp persists cap
  if full && code != 0x0D0C then (s1.placeRaise 0x0D0C 31 stamp false none).1.alarm 2 else s1

/-- FLT_STATUS from the records (R307, R322): DEGRADED while a used record has class 3; the Bough line while one has class
4 or more; the Trunk line stays latched. -/
def State.fltRefresh (s : State) : State :=
  let used := s.flt.order
  let high := used.foldl (fun a r => max a (s.recClass r)) 0
  let deg := used.any (fun r => s.recClass r == 3)
  let unacked := (used.filter (fun r => !s.recAcked r)).length
  let trunk := s.bit FLT_STATUS 2 || high == 5
  s.setReg FLT_STATUS (w32 (unacked * 2 ^ 24 + used.length * 2 ^ 16 + high * 2 ^ 8 + b2n trunk * 4
    + b2n (decide (4 ≤ high)) * 2 + b2n deg))

/-- A Bough or Trunk fault on an active duplex module requests a hand-off, which is never deferred (R267). It is refused
with 0x050A unless the peer is synchronized. -/
def State.faultHandoff (s : State) (stamp : Nat) : State :=
  if s.duplex && s.role == 4 && s.gft.hoPhase == 0 then
    if s.fld GFT_STATUS 10 8 = 3 then s.withGft { s.gft with hoReq := 2 }
    else s.recordRaise 0x050A 31 31 stamp false none
  else s

/-- The class reaction (R307). (DEDUCED: log entry 58) -/
def State.react (s : State) (cls stamp : Nat) : State :=
  let s1 := s.alarm cls
  if 4 ≤ cls then (s1.runFault.faultHandoff stamp).fltRefresh.safEval else s1.fltRefresh

/-- A raise is processed (R303 to R307). -/
def State.raiseCore (s : State) (code unit tag stamp : Nat) (persists : Bool) (cap : Option Capture) : State :=
  (s.recordRaise code unit tag stamp persists cap).react (classOf code) stamp

/-- The copier accounts for entries lost before they were copied: JNL_LOST and fault 0x0B07 (R318). -/
def State.lossCheck (s : State) : State :=
  if s.jnl.ovr = 0 then s else
  (((s.withJnl { s.jnl with ovr := 0 }).count JNL_LOST 31 0 s.jnl.ovr).orReg JNL_EVENTS 1).raiseCore
    0x0B07 31 31 (s.now 0) false none

/-- A block raises a fault whose cause ends with the raise. -/
def State.raise (s : State) (code unit : Nat) : State := s.raiseCore code unit unit (s.now 0) false none

/-- A block raises a fault whose cause persists until `endCause`. -/
def State.raiseHeld (s : State) (code unit : Nat) : State := s.raiseCore code unit unit (s.now 0) true none

/-- The access in hand ends otherwise than done (R388). -/
def State.ended (s : State) (status : Nat) : State := { s with acc := status }

/-- A raise caused by an access, with its capture fields (R309). -/
def State.raiseAcc (s : State) (code unit : Nat) (cap : Capture) : State :=
  (s.raiseCore code unit unit (s.now 0) false (some cap)).ended 3

/-- The capture fields of a word write. -/
def capWrite (addr : Nat) (m : Master) : Capture := { addr := w32 addr, master := masterCode m, access := 1, width := 2 }

/-- A write refused with a fault that records the address and the master. -/
def State.refuse (s : State) (code unit addr : Nat) (m : Master) : State := s.raiseAcc code unit (capWrite addr m)

/-- An access that is not allowed ends in a bus error with first error capture (R7, R10, R36); the master by its code (R309). -/
def State.busErrBy (s : State) (master addr : Nat) (access width : BitVec 2) : State :=
  (s.raiseAcc 0x0D06 31 { addr := w32 addr, master := BitVec.ofNat 8 master, access := access, width := width }).ended 4

/-- The same of a master whose access is a command. -/
def State.busErr (s : State) (addr : Nat) (m : Master) (access width : BitVec 2) : State :=
  s.busErrBy (masterCode m).toNat addr access width

/-- A write to a locked field (R13). -/
def State.lockedRefuse (s : State) (addr : Nat) (m : Master) : State := (s.refuse 0x0D07 31 addr m).ended 6

/-- A record is freed: every field reads 0 (R307, R322), entered as FAULT. -/
def State.freeRecord (s : State) (origin r : Nat) : State :=
  let old := s.reg (FLT_REC_STAT r)
  let code := fld old 15 0
  let s1 := forEach (fun s i => s.setReg (FLT_REC_STAT r + 4 * i) 0) (upTo 0 11) s
  let s2 := s1.withFlt { s1.flt with order := s1.flt.order.filter (fun x => x != r) }
  s2.jFault origin code r old

/-- A Leaf, Twig or Branch record that is acknowledged and has no active cause is freed (R307). -/
def State.tryFree (s : State) (r : Nat) : State :=
  if s.recUsed r && s.recAcked r && decide (s.recClass r < 4) && (s.reg (FLT_REC_ACTIVE r)).toNat == 0 then
    s.freeRecord (originBlk 0x0D 15) r
  else s

/-- The cause of a fault ends under its tag: the ACTIVE bit clears once none persists (R304). (DEDUCED: log entry 42) -/
def State.endCause (s : State) (code unit : Nat) : State :=
  if s.flt.causes.any (fun c => c.1 == code && c.2 == unit) then
    let left := s.flt.causes.filter (fun c => !(c.1 == code && c.2 == unit))
    let s1 := s.withFlt { s.flt with causes := left }
    if left.any (fun c => c.1 == code) then s1 else
      let rs := s1.flt.order.filter (fun r => s1.recBlock r == code / 256)
      let s2 := forEach (fun s r => (s.clrReg (FLT_REC_ACTIVE r) (2 ^ (code % 256))).tryFree r) rs s1
      s2.fltRefresh.safEval
  else s

/-- The cause of a fault ends whatever the unit. -/
def State.endCauseAll (s : State) (code : Nat) : State :=
  forEach (fun s c => s.endCause code c.2) (s.flt.causes.filter (fun c => c.1 == code)) s

/-- A fault whose cause persists under a tag of its own (a source or a sensor): raised once, or ended. -/
def State.holdTag (s : State) (code unit tag : Nat) (on : Bool) : State :=
  if on then
    if s.flt.causes.any (fun c => c.1 == code && c.2 == tag) then s
    else s.raiseCore code unit tag (s.now 0) true none
  else s.endCause code tag

/-- A persisting cause is raised once, or ended, by a condition. (DEDUCED: log entry 42) -/
def State.holdCause (s : State) (code unit : Nat) (on : Bool) : State :=
  if on then
    if s.flt.causes.any (fun c => c.1 == code && c.2 == unit) then s else s.raiseHeld code unit
  else s.endCause code unit

/-! ## Router levels -/

/-- Source `src` of the event router is asserted or not (R333): its rise is an event; its fall ends a stuck mark (R339). -/
def State.level (s : State) (src : Nat) (on : Bool) : State :=
  if s.bit (EVR_SRC_STAT src) 2 == on then s
  else
    let s1 := s.setBit (EVR_SRC_STAT src) 2 on
    if on then s1.post src
    else if s.bit (EVR_SRC_STAT src) 1 then
      ((s1.setBit (EVR_SRC_STAT src) 1 false).putFldJ (originBlk 0x08 15) (EVR_STUCK (src / 32)) (src % 32) (src % 32) 0).holdTag
        0x0802 31 src false
    else s1

/-! ## Journaled writes -/

/-- The journal receives an entry (R314, R316). What the seed loader writes is entered per section and store, as BLOCK
entries. -/
def State.journal (s : State) (origin type : Nat) (refused : Bool) (target : Nat) (old new : Word) : State :=
  if origin / 4096 = 5 ∧ type = 1 ∧ !refused then s else s.jAppend origin type refused target old new false

/-- An accepted write of a register by a master, journaled (R314 item 1). -/
def State.writeJ (s : State) (m : Master) (a : Nat) (v : Word) : State :=
  (s.setReg a v).journal (s.originOf m) 0x01 false a (s.reg a) v

/-- An accepted write of a strobe that stores nothing, journaled with the value written (R314 item 1). -/
def State.strobeJ (s : State) (m : Master) (a : Nat) (v : Word) : State :=
  s.journal (s.originOf m) 0x01 false a (s.reg a) v

/-- A time or duration out of range is refused, or a pending time is cancelled (R41, R42): fault 0x0107.
(DEDUCED: log entry 13) -/
def State.rangeFault (s : State) : State := ((s.orReg TIM_EVENTS 0x1000).raise 0x0107 31).ended 3

/-- A refused write that its chapter has journaled (R314 item 5). (DEDUCED: log entry 13) -/
def State.refusedJ (s : State) (m : Master) (a : Nat) (v : Word) : State :=
  (s.journal (s.originOf m) 0x01 true a (s.reg a) v).ended 3

/-! ## Memory words -/

/-- The tag of a memory fault that concerns one word. -/
def wordTag (a : Nat) : Nat := 2 ^ 32 + a

/-- A word is written: that clears its poison and ends the cause of the raise (R310). -/
def State.rewritten (s : State) (a : Nat) : State :=
  if Sparse.get (fun _ => false) s.poison a then
    forEach (fun s c => s.endCause c.1 c.2) (s.flt.causes.filter (fun c => c.2 == wordTag a))
      { s with poison := Sparse.set (fun _ => false) s.poison a false }
  else s

/-- The words of a range of addresses are rewritten: stores that every cycle rewrites clear themselves (R310). -/
def State.cleared (s : State) (lo hi : Nat) : State :=
  forEach (fun s p => s.rewritten p.1) (s.poison.filter (fun p => decide (lo ≤ p.1) && decide (p.1 ≤ hi))) s

/-- The word at an address is poisoned (R310). -/
def State.poisoned (s : State) (a : Nat) : Bool := Sparse.get (fun _ => false) s.poison a

/-- A pattern or coefficient word written by other than the seed loader becomes dirty (R311). -/
def State.dirtied (s : State) (m : Master) (a : Nat) : State :=
  match m with
  | .loader _ => { s with dirty := Sparse.set (fun _ => false) s.dirty a false }
  | _ => { s with dirty := Sparse.set (fun _ => false) s.dirty a true }

/-- The high word that a write of a low word takes effect with (R14): the one held, else the current one. -/
def State.heldHi (s : State) (lo : Nat) (cur : Word) : Word :=
  (Sparse.get (fun _ => (none : Option Word)) s.pairHeld lo).getD cur

/-- The held high word is used up, or set. -/
def State.setHeld (s : State) (lo : Nat) (v : Option Word) : State :=
  { s with pairHeld := Sparse.set (fun _ => (none : Option Word)) s.pairHeld lo v }

/-! ## Restart acknowledgement -/

/-- A restart acknowledgement (R277): SMT is released where no active source demands it, then SPB where none demands at
all. The safe outputs turn on with the release of SMT (R284), which ends the cause of 0x0608 (R285). In a dark pulse it
waits for the end of the pulse (R286). In the safe start-up state SPB is held (R1). -/
def State.safAck (s : State) : State :=
  if s.fld SED_STATUS 18 16 = 7 then s
  else if s.saf.testOut.isSome then s.withSaf { s.saf with ackPend := true } else
  let st := s.reg SAF_STATUS
  let dem := (s.reg SAF_DEMAND).toNat
  let s0 := (s.jSafety SAF_STATUS st st).withSaf { s.saf with arRunning := false, ackPend := false }
  let s1 := if s0.bit SAF_STATUS 1 && !s0.anySmt dem then
      let t := (((s0.setBit SAF_STATUS 1 false).setBit SAF_STATUS 2 false).setFld SAF_OUT 7 4 15).setFld SAF_OUT 3 0 3
      ((t.jSafety SAF_STATUS st (t.reg SAF_STATUS)).endCause 0x0608 0).endCause 0x0608 1
    else s0
  let s2 := if s1.spb && dem == 0 then
      let t := (s1.setBit SAF_STATUS 0 false).setReg SAF_LATCH 0
      t.jSafety SAF_STATUS (s1.reg SAF_STATUS) (t.reg SAF_STATUS)
    else s1
  s2.safWait

end Sys2Proof.Machine
end

