-- ==== Sys2Proof/Machine/Rings.lean ====
section
/-! DEFINITION. What the Shuttle engines keep of the rings: access to it, the ring states and arming (R446), the input cut
(R27, R110, R111), measured delays and asymmetries (R105, R196), and the transactions that wait (R91, R100). -/

namespace Sys2Proof.Machine

/-- Ring `r`. -/
def State.ring (s : State) (r : Nat) : Ring := Sparse.get (fun _ => Ring.reset) s.rings r

/-- The state with ring `r` replaced. -/
def State.setRing (s : State) (r : Nat) (g : Ring) : State :=
  { s with rings := Sparse.set (fun _ => Ring.reset) s.rings r g }

/-- What is kept of address `a` of ring `r`. -/
def State.rnode (s : State) (r a : Nat) : RNode := Sparse.get (fun _ => RNode.none) (s.ring r).nodes a

/-- The state with what is kept of an address replaced. -/
def State.setRNode (s : State) (r a : Nat) (n : RNode) : State :=
  s.setRing r { s.ring r with nodes := Sparse.set (fun _ => RNode.none) (s.ring r).nodes a n }

/-- The map's entry of address `a`. -/
def mapEntry (g : Ring) (a : Nat) : Option MapNode := g.map.nodes.find? (fun e => e.addr == a)

/-- The map's node count N. -/
def mapCount (g : Ring) : Nat := g.map.nodes.length

/-- The address that the map gives the node of a role and index (R18). -/
def mapAddr (g : Ring) (role idx : Nat) : Option Nat :=
  (g.map.nodes.find? (fun e => e.role == role && e.index == idx)).map (fun e => e.addr)

/-- Word `i` of a status record (R131). -/
def recWord (n : RNode) (i : Nat) : Word := nth n.record i 0

/-- Bit `i` of STATE in the last valid record (R89). -/
def recState (n : RNode) (i : Nat) : Bool := Sys2Proof.bit (recWord n 0) (8 + i)

/-- Sequence or mandate number `a` is newer than `b` (R81). -/
def newer (a b : Nat) : Bool := decide (0 < sext 16 (a + 65536 - b % 65536))

/-- The mandate after `a`; 0 is never used (R82). -/
def nextMandate (a : Nat) : Nat := if (a + 1) % 65536 = 0 then 1 else (a + 1) % 65536

/-! ## States -/

/-- WRP_RINGn_STATE.STATE (R122) of a step of the bring-up; 8 stands for pass mode, 9 for a failed ring. -/
def ringCode (g : Ring) : Nat :=
  match g.step with
  | 0 => 0
  | 1 => 1
  | 6 => 3
  | 7 => if g.wrapped then 5 else 4
  | 8 => 6
  | 9 => 7
  | _ => 2

/-- The ring is in control and past its opening (R95). -/
def ringUp (g : Ring) : Bool := 2 ≤ g.step && g.step ≤ 7

/-- Every node that the map places on the ring is admitted. -/
def allAdmitted (g : Ring) : Bool :=
  g.map.nodes.all (fun e => (Sparse.get (fun _ => RNode.none) g.nodes e.addr).admitted)

/-- The ring cannot be armed (R446). -/
def State.armBlock (s : State) (r : Nat) : Bool :=
  let g := s.ring r
  s.ringEn r && !s.bit TIM_STATUS 0 && g.step != 8 && (!g.conv || !g.aliens.isEmpty || !allAdmitted g || !g.cond1)

/-- WRP_RINGn_STATE and the router's level sources of ring `r` (R122, R333) show what the ring is; a new STATE is journaled
(R314). -/
def State.showRing (s : State) (r : Nat) : State :=
  let g := s.ring r
  let nodes := (g.nodes.filter (fun p => p.2.admitted && nbit g.last p.1)).length
  let s1 := ((s.putFldJ (originBlk 0x02 r) (WRP_RING_STATE r) 2 0 (ringCode g)).setFld (WRP_RING_STATE r) 21 16 nodes).setFld
    (WRP_RING_STATE r) 29 24 (min 63 g.aliens.length)
  let s2 := s1.setBit (WRP_RING_STATE r) 3 (s.armBlock r)
  ((s2.level (80 + 4 * r) g.wrapped).level (81 + 4 * r)
    (g.nodes.any (fun p => p.2.lost) || !g.aliens.isEmpty)).level (83 + 4 * r)
    (g.nodes.any (fun p => p.2.admitted && !p.2.record.isEmpty && !recState p.2 6))

/-- Every ring is shown. -/
def State.showRings (s : State) : State := forEach State.showRing (upTo 0 4) s

/-! ## Per-node reports -/

/-- Register and bit of address `a` in a bitmap pair (R122). -/
def mapReg (lo a : Nat) : Nat := if a ≤ 32 then lo else lo + 4

/-- The bit of address `a` in its register. -/
def mapBit (a : Nat) : Nat := (a - 1) % 32

/-- The bit of address `a` is set or cleared in a bitmap. -/
def State.setMap (s : State) (lo a : Nat) (on : Bool) : State := s.setBit (mapReg lo a) (mapBit a) on

/-- The bit of address `a` in a bitmap. -/
def State.mapBitOf (s : State) (lo a : Nat) : Bool := s.bit (mapReg lo a) (mapBit a)

/-- The bit is set and journaled as a WRITE of the register (R115, R120). -/
def State.setMapJ (s : State) (lo a : Nat) : State :=
  s.putFldJ (originBlk 0x02 15) (mapReg lo a) (mapBit a) (mapBit a) 1

/-- The tag of a cause that concerns one node. -/
def nodeTag (r a : Nat) : Nat := 64 * (r + 1) + a

/-- A fault that concerns one node (R120): held until its cause ends, the address recorded and journaled. -/
def State.nodeFault (s : State) (code r a : Nat) : State :=
  (s.holdTag code r (nodeTag r a) true).setMapJ (WRP_RING_NODEFLT_LO r) a

/-- A WRP write that is refused (R121). -/
def State.wrpRefuse (s : State) (m : Master) (unit addr : Nat) (v : Word) : State :=
  (s.refuse 0x020A unit addr m).refusedJ m addr v

/-! ## The cut -/

/-- t_sh (R23), nanoseconds. -/
def tSh : Nat := 800

/-- The effective input cut (R111), nanoseconds after the boundary. -/
def State.cut (s : State) : Nat :=
  if s.fld WRP_WRAP_CUT 16 0 = 0 then s.fld TIM_T_IN 16 0 else s.fld WRP_WRAP_CUT 16 0

/-- What a forwarding peer adds to a path (R248), nanoseconds. -/
def State.peerHop (s : State) : Nat := if s.duplex then 120 else 0

/-- Condition 1 of R27 for one ring and direction with cut `tin`, where the direction's delay has been measured. -/
def State.cond1Dir (s : State) (g : Ring) (tin : Nat) (d : Option (Nat × Int)) : Bool :=
  match d with
  | some (_, x) =>
    decide (((250 + 205 * mapCount g + 120 * g.aliens.length + s.peerHop + tSh : Nat) : Int) * 65536 + x
      ≤ ((tin * 65536 : Nat) : Int))
  | none => true

/-- Condition 1 of R27 for ring `r`: from its delays, or on a wrapped ring from its wrap bound (R110). Where no delay has been
measured yet, as on a ring brought up wrapped, it holds. (DEDUCED: log entry 33) -/
def State.cond1 (s : State) (r tin : Nat) : Bool :=
  let g := s.ring r
  if g.wrapped then
    let b := s.fld (WRP_RING_WRAP_BOUND r) 15 0
    b == 0 || decide (b + 120 * g.aliens.length + tSh ≤ tin)
  else s.cond1Dir g tin g.dcw && s.cond1Dir g tin g.dccw

/-- The delay of link `i` of ring `r` in 2^-16 ns, where `d` is the ring's measured delay. The spec does not say how the
module splits a ring delay into its links, so this is a free value. (DESIGN CHOICE: log entry 27) -/
def linkDelay (r i : Nat) (d : Int) : Nat := Config.linkDelay r i d

/-- The wrap bound (R110) in nanoseconds, rounded up; 0 where no delay has been measured. The longest half serves every node from
one end; it grows with the number of nodes it serves. The half served through a forwarding peer has fibre pair 3 before it, one
link more (R248), and the bound takes it for either half. (DEDUCED: log entry 33) -/
def State.wrapBound (s : State) (r : Nat) : Nat :=
  let g := s.ring r
  let n := mapCount g
  match g.dcw, g.dccw with
  | some (_, a), some (_, b) =>
    let d := (a + b) / 2
    let sum := fun (from_ : Nat) => ((upTo from_ n).map (fun i => linkDelay r i d)).foldl (· + ·) 0
    let fibre := 2 * (max (sum 1) (sum 2) + if s.duplex then linkDelay r 0 d else 0)
    250 + 205 * n + 60 * (n - 1) + s.peerHop + (fibre + 65535) / 65536
  | _, _ => 0

/-- The wrap cut (R111): bound plus t_sh, rounded up to 0.1 µs. -/
def State.wrapCut (s : State) (r : Nat) : Nat := (s.fld (WRP_RING_WRAP_BOUND r) 15 0 + tSh + 99) / 100 * 100

/-- Clocks of the run window from a cut to t_out at 400 MHz (R29). -/
def State.window (s : State) (cut : Nat) : Nat := (s.fld TIM_T_OUT 16 0 - cut) * 2 / 5

/-- Every loaded pattern that has passed its check fits between a cut and t_out (R29, R111). -/
def State.patternsFit (s : State) (clocks : Nat) : Bool :=
  (upTo 0 8).all (fun e => !s.bit (HDL_STATUS e) 3 || decide (s.fld (HDL_WCET e) 15 0 ≤ clocks))

/-- A cut may be applied (R111): conditions 1 and 2 of R27, and every loaded pattern fits. -/
def State.cutAllowed (s : State) (c : Nat) : Bool :=
  s.ringsEn.all (fun r => s.cond1 r c) && decide (c + 1000 ≤ s.fld TIM_T_OUT 16 0) && s.patternsFit (s.window c)

/-- The wrapped rings with AUTO_TIN set. -/
def State.askCut (s : State) : List Nat := s.ringsEn.filter (fun r => (s.ring r).wrapped && s.bit WRP_CTRL (4 + r))

/-- The largest wrap cut among them, 0 for none. -/
def State.topCut (s : State) : Nat := s.askCut.foldl (fun a r => max a (s.wrapCut r)) 0

/-- That cut may be applied; one within TIM_T_IN needs nothing. -/
def State.topAllowed (s : State) : Bool := decide (s.topCut ≤ s.fld TIM_T_IN 16 0) || s.cutAllowed s.topCut

/-- The raised cut of the coming boundary (R111); 0 for none: where the largest wrap cut may not be applied, the cut stays at
TIM_T_IN. -/
def State.raisedCut (s : State) : Nat := if s.fld TIM_T_IN 16 0 < s.topCut ∧ s.topAllowed then s.topCut else 0

/-- The effective cut of the coming boundary. -/
def State.comingCut (s : State) : Nat := if s.raisedCut = 0 then s.fld TIM_T_IN 16 0 else s.raisedCut

/-- The module checks condition 1 of ring `r` (R27) for the coming cut: in service a failure raises 0x0207.
(DEDUCED: log entries 32 and 33) -/
def State.checkCond1 (s : State) (r : Nat) : State :=
  let ok := s.cond1 r s.comingCut
  ((s.setRing r { s.ring r with cond1 := ok }).holdTag 0x0207 r r (!ok && s.bit TIM_STATUS 0)).showRing r

/-- Fault 0x0208 on the wrapped rings whose wrap cut, the largest, could not be applied (R111). (DEDUCED: log entry 33) -/
def State.judgeCut (s : State) : State :=
  let bad := if s.topAllowed then [] else s.askCut.filter (fun r => s.wrapCut r == s.topCut)
  forEach (fun s r => (s.setRing r { s.ring r with cutOk := !bad.contains r }).holdTag 0x0208 r r (bad.contains r)) (upTo 0 4) s

/-! ## Asymmetry -/

/-- The sum of a list of integers. -/
def sumInt (l : List Int) : Int := l.foldl (· + ·) 0

/-- x rounded to a multiple of 125 ps in 2^-16 ns, ties to the later (R196). -/
def grid125 (x : Int) : Int := (x + 4096) / 8192 * 8192

/-- ε_a (R196), in 2^-16 ns. -/
def epsOf (g : Ring) (a : Nat) : Int :=
  let num := sumInt (g.map.alpha.drop a) - sumInt (g.map.alpha.take a)
  (2 * num + 32768) / 65536 * 8192

/-- The Weaver's corrections are computed from the ring map at each convergence and change of path (R196). -/
def State.epsUpdate (s : State) (r : Nat) : State :=
  forEach (fun s a => s.setReg (WVR_RING_EPS r a) (wordOfInt (epsOf (s.ring r) a))) ((s.ring r).map.nodes.map (fun e => e.addr)) s

/-! ## Transactions -/

/-- A transaction joins the queue of ring `r`. -/
def State.enqueueTx (s : State) (r : Nat) (t : MgmtTx) : State :=
  s.setRing r { s.ring r with txq := (s.ring r).txq ++ [t] }

/-- The module sends four pad blocks (R91). -/
def mgmtTx (u : MgmtUse) (dst op nrpl : Nat) (req : List Word) : MgmtTx :=
  { side := none, blanks := 0, purpose := u, dst := dst, op := op, req := req, nrpl := nrpl, npad := 4, seq := none }

/-- A WRITE of NODE_ADDR to a broadcast or DST 62 (R100, R101): 0 goes clockwise only, a count counter-clockwise only.
(DEDUCED: log entry 28) -/
def addrTx (dst v : Nat) : MgmtTx :=
  { mgmtTx .address dst 2 0 [0x14, w32 v] with side := some (if v = 0 then .cw else .ccw) }

/-- The read of a node's identity words, NODE_ID to NODE_CAPS (R100). (DEDUCED: log entry 28) -/
def identityRead (u : MgmtUse) (a : Nat) : MgmtTx := mgmtTx u a 1 5 [0]

/-- The write of a node's measurement scales (R100). -/
def scaleWrite (g : Ring) (a : Nat) : MgmtTx :=
  let role := match mapEntry g a with
    | some e => e.role
    | none => 3
  mgmtTx .scales a 2 0 (0x40 :: (upTo 0 8).map (fun i => nth (nth g.map.scales role []) i 0))

/-- A header of a frame that the module originates. -/
def modHdr (r : Nat) (dir : Dir) (dst : Nat) (timed : Bool) (seq mand : Nat) : FrameHdr :=
  { dir := dir, dst := BitVec.ofNat 6 dst, src := 0, ring := BitVec.ofNat 2 r, hops := 0, timed := timed, seq := BitVec.ofNat 16 seq,
    mandate := BitVec.ofNat 16 mand, corr := 0, len := 0, hcrc := 0, dirOk := true, line := [], fcrc := 0, stomp := false }

/-- The line time of some blocks at 6.25 Gbaud (R64, R66): 10.56 ns each. -/
def lineTime (blocks : Nat) : Nat := blocks * 1056 * 65536 / 100

/-- A frame that may be pre-empted is being sent on a line. -/
def State.lineBusy (s : State) (key : Nat) : Bool :=
  match Sparse.get (fun _ => (none : Option Nat)) s.lines key with
  | some e => decide (tdiff (s.now 0) e < 0)
  | none => false

/-- The state with the end of the frame being sent on a line. -/
def State.setLine (s : State) (key : Nat) (e : Option Nat) : State :=
  { s with lines := Sparse.set (fun _ => (none : Option Nat)) s.lines key e }

/-- A frame is sent on a line by its originator (`own`) or passed on (R77): a COLLECT frame pre-empts the frame being sent, once, and a
RESUME block follows it. -/
def State.sendLine (s : State) (key : Nat) (own : Bool) (f : WarpFrame) (tx resume : Output) : State :=
  if isCollect f then (if s.lineBusy key then ((s.setLine key none).emit tx).emit resume else s.emit tx)
  else if own then (s.setLine key (some ((s.now 0 + lineTime (blockCount f)) % 2 ^ 64))).emit tx
  else s.emit tx

/-- A frame of the module leaves a Warp port. -/
def State.sendWarp (s : State) (port : Nat) (f : WarpFrame) : State :=
  s.sendLine port true f (.warpTx port (formed f)) (.warpResume port)

/-- The mandate in use on ring `r`. -/
def State.mandate (s : State) (r : Nat) : Nat := s.fld (WRP_RING_MANDATE r) 15 0

/-- A frame leaves both ends of ring `r` (R95): the clockwise copy at WP(2r), the other at WP(2r + 1). -/
def State.launch (s : State) (r : Nat) (f : Dir → WarpFrame) : State :=
  (s.sendWarp (2 * r) (f .cw)).sendWarp (2 * r + 1) (f .ccw)

/-- A frame leaves one end of ring `r`, or both. -/
def State.launchSide (s : State) (r : Nat) (side : Option Dir) (f : Dir → WarpFrame) : State :=
  match side with
  | none => s.launch r f
  | some .cw => s.sendWarp (2 * r) (f .cw)
  | some .ccw => s.sendWarp (2 * r + 1) (f .ccw)

/-- A frame at an end of the ring is a returning one: it comes back to the port it was launched at (R109). -/
def isReturning (port : Nat) (d : Dir) : Bool := match d with
  | .cw => port == 0
  | .ccw => port == 1

/-- A frame at an end of ring `r` is counted where it is stomped or returning (R122), the latter by a header that is right. -/
def State.endCounts (s : State) (r port : Nat) (h : FrameHdr) : State :=
  let s1 := if h.stomp then s.count (WRP_RING_CNT2 r) 15 0 1 else s
  if h.hcrcOk && isReturning port h.dir then s1.count (WRP_RING_CNT2 r) 31 16 1 else s1

/-- A frame of a lower mandate than the module's own, at a module in control (R265). -/
def State.lowFrame (s : State) (r : Nat) (h : FrameHdr) : Bool :=
  s.controls && h.hcrcOk && newer (s.mandate r) h.mandate.toNat

/-- The counts of a master's frame at an end of the ring (R122, R265). -/
def State.frameCounts (s : State) (r port : Nat) (h : FrameHdr) : State :=
  let s1 := s.endCounts r port h
  if s.lowFrame r h then s1.count GFT_CNT2 31 16 1 else s1

end Sys2Proof.Machine
end

