-- ==== Sys2Proof/Machine/GateOps.lean ====
section
/-! DEFINITION. The gate channels as the event router, the gate commands and the Sap engine act on them: precedence,
turning a group off, turning a channel on (R346 to R367). -/

namespace Sys2Proof.Machine

/-- Gate channel `ch`. -/
def State.gch (s : State) (ch : Nat) : GateCh := Sparse.get (fun _ => GateCh.reset) s.gate.chans ch

/-- The state with a channel replaced. -/
def State.setGch (s : State) (ch : Nat) (c : GateCh) : State :=
  { s with gate := { s.gate with chans := Sparse.set (fun _ => GateCh.reset) s.gate.chans ch c } }

/-- The stage a channel belongs to (R346, R370): PFC with the inrush bypass, Loop A, Loop B, L6, L7. -/
def stageOf (ch : Nat) : Nat := if ch < 4 then 0 else if ch < 8 then 1 else if ch < 12 then 2 else if ch < 14 then 3 else 4

/-- The gate group of a stage. -/
def stageGroup (st : Nat) : Nat := min st 3

/-- Group `g` may switch (R345, R353, R354, R365): enabled, VDRV within range, Sap service present, not held off by the
router, not in a two-step sequence and not tripped. -/
def State.groupOn (s : State) (g : Nat) : Bool :=
  s.bit GDR_CTRL g && s.bit GDR_STATUS 16 && !s.gate.noService && !s.bit EVR_GDIS g
    && !s.bit GDR_STATUS (8 + g) && !s.bit GDR_STATUS (4 + g)

/-- GDR_STATUS shows which groups switch and which the router holds off. -/
def State.gdrShow (s : State) : State :=
  let en := (upTo 0 4).foldl (fun a g => a + b2n (s.groupOn g) * 2 ^ g) 0
  (s.setFld GDR_STATUS 3 0 en).setFld GDR_STATUS 15 12 (s.fld EVR_GDIS 3 0)

/-- A channel's output goes off through GnL. -/
def State.chanOff (s : State) (ch : Nat) : State :=
  let c := s.gch ch
  if c.out = 0 then s.setGch ch { c with pendOn := false }
  else s.setGch ch { c with out := 0, pendOn := false, blank := false, edgeAt := some (s.now 0), offAt := some (s.now 0) }

/-- A channel's output goes on, and blanking begins (R360). -/
def State.chanOn (s : State) (ch : Nat) : State :=
  s.setGch ch { s.gch ch with out := 1, pendOn := false, blank := true, edgeAt := some (s.now 0) }

/-- Every channel of group `g` goes off through its normal turn-off path; a two-step sequence is not brought forward
(R365). -/
def State.gateGroupOff (s : State) (g : Nat) : State :=
  (if s.bit GDR_STATUS (8 + g) then s else forEach State.chanOff (upTo (4 * g) 4) s).gdrShow

/-- Channel `ch` follows the Sap engine's commands: its group may switch and its stage has had its START (R345, R353,
R366). -/
def State.chanFree (s : State) (ch : Nat) : Bool :=
  s.groupOn (ch / 4) && !s.gate.needStart.getLsbD (stageOf ch)

/-- A leg is a half-bridge (R346). -/
def halfBridge (leg : Nat) : Bool := 2 ≤ leg

/-- The high side of leg `leg` has its bootstrap released (R358). -/
def State.bstOk (s : State) (leg : Nat) : Bool := s.bit GDR_STATUS (17 + (leg - 2))

/-- The other channel of a leg. -/
def otherCh (ch : Nat) : Nat := if ch % 2 = 0 then ch + 1 else ch - 1

/-- The other channel of the leg had an edge within the dead time (R355). -/
def State.inDead (s : State) (ch : Nat) : Bool :=
  match (s.gch (otherCh ch)).edgeAt with
  | some t => decide (tdiff (s.now 0) t < (ns (s.fld (GDR_LEG_DT (ch / 2)) 7 0 * 10) : Nat))
  | none => false

/-- The low side has been off for longer than t_REFRESH, so a turn-on of the high side begins with a refresh (R356 case
B). -/
def State.lowLong (s : State) (ch : Nat) : Bool :=
  match (s.gch (otherCh ch)).offAt with
  | some t => (s.gch (otherCh ch)).out == 0 && decide ((ns (s.fld (GDR_LEG_DT (ch / 2)) 31 16 * 1000) : Nat) < tdiff (s.now 0) t)
  | none => false

end Sys2Proof.Machine
end

