-- ==== Sys2Proof/Machine/Pending.lean ====
section
/-! DEFINITION. Pending times (R41, R42), and the transmit buffers of the CAN controllers as far as the event router and a
moved time base act on them (R402 to R405). -/

namespace Sys2Proof.Machine

/-! ## CAN memory -/

/-- Base address of controller `c`. -/
def canBase (c : Nat) : Nat := 0x34000000 + c * 0x10000

/-- Address of word `w` of transmit buffer `b` (R410). -/
def txWord (c b w : Nat) : Nat := canBase c + 0x7000 + 0x60 * b + 4 * w

/-- Address of word `w` of slot `i` of receive queue `q` (R410). -/
def rxWord (c q i w : Nat) : Nat := canBase c + 0x4000 + 0x1800 * q + 0x60 * i + 4 * w

/-- A word of the CAN partition. -/
def State.cw (s : State) (a : Nat) : Word := Sparse.get (fun _ => 0) s.canMem a

/-- The state with a word of the CAN partition written. -/
def State.setCw (s : State) (a : Nat) (v : Word) : State := { s with canMem := Sparse.set (fun _ => 0) s.canMem a v }

/-- The inner state of controller `c`. -/
def State.can (s : State) (c : Nat) : CanUnit := Sparse.get (fun _ => CanUnit.reset) s.cans c

/-- The state with controller `c` replaced. -/
def State.setCan (s : State) (c : Nat) (u : CanUnit) : State :=
  { s with cans := Sparse.set (fun _ => CanUnit.reset) s.cans c u }

/-- Buffer `b` of controller `c`. -/
def State.txb (s : State) (c b : Nat) : TxBuf := Sparse.get (fun _ => TxBuf.reset) (s.can c).bufs b

/-- The state with a buffer replaced. -/
def State.setTxb (s : State) (c b : Nat) (t : TxBuf) : State :=
  s.setCan c { s.can c with bufs := Sparse.set (fun _ => TxBuf.reset) (s.can c).bufs b t }

/-- STATE of a buffer (R410): 0 EMPTY, 1 READY, 2 PENDING, 3 SENT, 4 LATE, 5 CANCELLED. -/
def State.bufSt (s : State) (c b : Nat) : Nat := fld (s.cw (txWord c b 1)) 22 20

/-- The state with STATE of a buffer changed, and CAN_TXPEND with it. -/
def State.setBufSt (s : State) (c b v : Nat) : State :=
  (s.setCw (txWord c b 1) (putFld (s.cw (txWord c b 1)) 22 20 v)).setBit (CAN_TXPEND c) b (v == 2)

/-- A buffer whose window has ended becomes LATE (R404). -/
def State.canLate (s : State) (c b : Nat) : State :=
  ((((s.setBufSt c b 4).setTxb c b TxBuf.reset).count (CAN_CNT1 c) 31 16 1).orReg (CAN_EVENTS c) 4).raise 0x0A03 c

/-- A refusal of the CAN chapter (R402): fault 0x0A06 with the address and the master. -/
def State.canRefuse (s : State) (c addr : Nat) (master : Byte) : State :=
  (s.orReg (CAN_EVENTS c) 0x100).raiseAcc 0x0A06 c { addr := w32 addr, master := master, access := 1, width := 2 }

/-- A submission that R402 refuses: FDF or BRS not allowed, RTR set, or TBASE 3. -/
def State.submitBad (s : State) (c b : Nat) : Bool :=
  let w1 := s.cw (txWord c b 1)
  (bit w1 4 && !s.bit (CAN_CTRL c) 6) || (bit w1 5 && !s.bit (CAN_CTRL c) 7) || bit (s.cw (txWord c b 0)) 30
    || fld w1 17 16 == 3

/-- Buffer `b` becomes PENDING (R402, R404): TIME and the window end are held in the buffer's base, and a time already due
makes it eligible at once. -/
def State.submit (s : State) (c b addr : Nat) (master : Byte) : State :=
  if s.submitBad c b then s.canRefuse c addr master else
  let tb := fld (s.cw (txWord c b 1)) 17 16
  let u := s.can c
  let s1 := s.setCan c { u with subs := u.subs + 1 }
  if tb = 0 then
    (s1.setTxb c b { due := none, winEnd := none, base := 0, eligible := true, order := u.subs, cancel := false }).setBufSt
      c b 2
  else
    let n := if tb = 1 then 0 else 3
    let t := join64 (s.cw (txWord c b 2)) (s.cw (txWord c b 3))
    let win := fld (s.cw (txWord c b 6)) 15 0
    let stop := (t + ns (win * 1000)) % 2 ^ 64
    let d := tdiff t (s.now n)
    if maxTime < (d.natAbs : Int) then s.rangeFault
    else
      let s2 := (s1.setTxb c b
        { due := if 0 < d then some t else none, winEnd := if win = 0 then none else some stop, base := n,
          eligible := decide (d ≤ 0), order := u.subs, cancel := false }).setBufSt c b 2
      if win ≠ 0 ∧ tdiff stop (s.now n) ≤ 0 then s2.canLate c b else s2

/-- A pending timed buffer becomes eligible (R404). -/
def State.canEligible (s : State) (c b : Nat) : State :=
  if s.bufSt c b == 2 then s.setTxb c b { s.txb c b with due := none, eligible := true } else s

/-! ## Capture trigger -/

/-- The pending capture trigger time is due (R233): the next t_out triggers. -/
def State.capDue (s : State) : State :=
  if s.cap.trig.isSome then { s with cap := { s.cap with trig := none, due := true } } else s

/-! ## A moved base -/

/-- A pending buffer after its base has moved (R42, R404). -/
def State.rebaseBuf (s : State) (n c b : Nat) : State :=
  let t := s.txb c b
  if s.bufSt c b == 2 && t.base == n then
    let late := match t.winEnd with
      | some e => decide (tdiff e (s.now n) ≤ 0)
      | none => false
    if late then s.canLate c b
    else
      match t.due with
      | some d =>
        if maxTime < ((tdiff d (s.now n)).natAbs : Int) then ((s.setBufSt c b 5).setTxb c b TxBuf.reset).rangeFault
        else if tdiff d (s.now n) ≤ 0 then s.canEligible c b
        else s
      | none => s
  else s

/-- Every unit that holds a pending time in base `n` evaluates it again (R42): the grid origin and the capture trigger in
TB0, the timed buffers in TB0 and TB3. -/
def State.rebase (s : State) (n : Nat) : State :=
  let s1 := if n = 0 then
      (match s.tim.origin with
       | some o =>
         let d := tdiff o (s.now 0)
         if maxTime < (d.natAbs : Int) then ({ s with tim := { s.tim with origin := none } } : State).rangeFault
         else if d ≤ 0 then { s with tim := { s.tim with origin := none, nextB := o, nextK := 0 } }
         else s
       | none => s)
    else s
  let s2 := if n = 0 then
      (match s1.cap.trig with
       | some o =>
         let d := tdiff o (s1.now 0)
         if maxTime < (d.natAbs : Int) then ({ s1 with cap := { s1.cap with trig := none } } : State).rangeFault
         else if d ≤ 0 then s1.capDue
         else s1
       | none => s1)
    else s1
  if n = 0 ∨ n = 3 then
    forEach (fun s b => s.rebaseBuf n (b / 32) (b % 32))
      ((upTo 0 64).filter (fun b => s2.bit (CAN_TXPEND (b / 32)) (b % 32))) s2
  else s2

end Sys2Proof.Machine
end

