-- ==== Sys2Proof/Machine/Router.lean ====
section
/-! DEFINITION. The event router (R333 to R340): how an event passes the storm guard and reaches its destinations, how the
events of one instant are worked off, and the commands of the router and of the comparators (R324 to R332). -/

namespace Sys2Proof.Machine

/-- The answer of a command. -/
abbrev Res := Host.Outcome State Fault Refusal

/-! ## Delivery -/

/-- An event at a CAN transmit trigger (R335, R402): the buffer named in EVR_CANj is submitted; one that is pending or not
loaded is counted as merged. -/
def State.canTrigger (s : State) (d : Nat) : State :=
  let j := d - 14
  let c := j / 8
  let b := s.fld (EVR_CAN j) 4 0
  if !s.bit (EVR_CAN j) 31 then s
  else if s.bufSt c b == 2 || s.bufSt c b == 0 then s.count (EVR_DST_CNT d) 31 16 1
  else s.submit c b (EVR_CAN j) 0x61

/-- An event at a Heddle trigger (R336) is counted for the staged word; `t` is its stamp. The events in the clock of a cut belong to
no word. -/
def State.heddleTrigger (s : State) (n t : Nat) : State :=
  let c := s.now 0
  if s.bit (EVR_HDL n) 31 && s.evr.cutAt != some c then
    let g := Sparse.get (fun _ => Trig.none) s.evr.trigs n
    let g' : Trig := { count := g.count + 1, first := if g.count = 0 then t else g.first, clk := c
                       inClk := if g.clk = c then g.inClk + 1 else 1 }
    s.withEvr { s.evr with trigs := Sparse.set (fun _ => Trig.none) s.evr.trigs n g' }
  else s

/-- An event at the safe-block request (R337): a one-shot local demand, and fault 0x0806. -/
def State.safeBlockRequest (s : State) : State :=
  let s1 := (s.orReg EVR_EVENTS 4).raise 0x0806 31
  if s1.controls then s1.safPulse 16 else s1

/-- An event at a Crown interrupt (R335): its bit of EVR_IRQ, and the interrupt where it is enabled. -/
def State.crownIrq (s : State) (j : Nat) : State :=
  let s1 := s.setBit EVR_IRQ j true
  if s1.bit EVR_IRQ_EN j then s1.emit (.crownIrq j (s1.bit EVR_IRQ_CORE j)) else s1

/-- One event reaches destination `d` (R335). -/
def State.deliver (s0 : State) (d : Nat) : State :=
  let s := s0.count (EVR_DST_CNT d) 15 0 1
  if d < 4 then (s.setBit EVR_GDIS d true).gateGroupOff d
  else if d = 4 then s.safeBlockRequest
  else if d = 5 then
    (if s.fld CAP_STATUS 2 0 == 1 && s.fld CAP_CTRL 9 8 == 1 then s.withCap { s.cap with due := true } else s)
  else if d < 14 then s.heddleTrigger (d - 6) (s.stamp 0)
  else if d < 30 then s.canTrigger d
  else if d < 56 then s.crownIrq (d - 30)
  else s.withSap { s.sap with events := bvPut s.sap.events (d - 56) true }

/-- The destinations of a source (R334). -/
def State.routes (s : State) (src : Nat) : List Nat :=
  setBits (join64 (s.reg (EVR_SRC_DST_LO src)) (s.reg (EVR_SRC_DST_HI src))) 64

/-- Source `src` is masked or unmasked, journaled as a write of EVR_MASKEDj (R338). -/
def State.setMasked (s : State) (origin src : Nat) (on : Bool) : State :=
  let s1 := s.putFldJ origin (EVR_MASKED (src / 32)) (src % 32) (src % 32) (b2n on)
  s1.setBit (EVR_SRC_STAT src) 0 on

/-- The guard of a source. -/
def State.guard (s : State) (src : Nat) : Guard := Sparse.get (fun _ => (⟨none, 0⟩ : Guard)) s.evr.guards src

/-- The state with a guard replaced. -/
def State.setGuard (s : State) (src : Nat) (g : Guard) : State :=
  s.withEvr { s.evr with guards := Sparse.set (fun _ => (⟨none, 0⟩ : Guard)) s.evr.guards src g }

/-- An event of source `src` at the router (R334, R338): counted, held back by a mask, judged by the storm guard, and
delivered. -/
def State.routerFire (s0 : State) (src : Nat) : State :=
  let s := s0.count (EVR_SRC_STAT src) 31 16 1
  if s.bit (EVR_SRC_STAT src) 0 then s else
  let n := s.fld (EVR_SRC_CFG src) 31 24
  let w := ns (2 ^ s.fld (EVR_SRC_CFG src) 23 20 * 1000)
  let g := s.guard src
  let inside := match g.t0 with
    | some t0 => decide (tdiff (s.stamp 0) (t0 + w) < 0)
    | none => false
  if n = 0 then forEach State.deliver (s.routes src) s
  else if inside then
    if n ≤ g.count then
      ((s.setMasked (originBlk 0x08 15) src true).orReg EVR_EVENTS 1).holdTag 0x0801 31 src true
    else forEach State.deliver (s.routes src) (s.setGuard src { g with count := g.count + 1 })
  else forEach State.deliver (s.routes src) (s.setGuard src { t0 := some (s.stamp 0), count := 1 })

/-- The lowest number of a list. -/
def least : List Nat → Nat → Nat
  | [], m => m
  | x :: xs, m => least xs (min x m)

/-- The events of this instant are worked off in ascending source index (R340), those they cause among them; each source
has at most one event in an instant, so 256 rounds are enough. (DEDUCED: log entry 45) -/
def State.drain : Nat → State → State
  | 0, s => s
  | n + 1, s =>
    match s.evr.posted with
    | [] => s
    | x :: xs =>
      let src := least xs x
      State.drain n ((s.withEvr { s.evr with
        posted := s.evr.posted.filter (fun y => y != src)
        fired := src :: s.evr.fired }).routerFire src)

/-- The end of a command: the router has worked off the events it caused. (DEDUCED: log entry 45) -/
def State.settle (s : State) : State :=
  let s1 := s.drain 256
  s1.withEvr { s1.evr with posted := [], fired := [] }

/-- The next state a command answers; the journal copier has accounted for lost entries (R318), and the entries of this instant stand in
their order (R316). How the access in hand ended is kept: what the router does then is not that access. -/
def State.done (s : State) : Res := .next (s.lossCheck.settle.jOrder.ended s.acc)

/-- A Sap flag (R350) and its router source. -/
def State.sapFlag (s : State) (f : Nat) (on : Bool) : State := (s.setBit SAP_FLAGS f on).level (168 + f) on

/-! ## Router commands -/

/-- The sources that are pulses (R333). -/
def pulseSource (src : Nat) : Bool :=
  (80 ≤ src && src < 96 && src % 4 == 2) || (104 ≤ src && src < 109) || (112 ≤ src && src < 120)
    || (152 ≤ src && src < 160) || src == 183 || (184 ≤ src && src < 188) || 192 ≤ src

/-- The published word that Heddle flag `f` names is true, and the flag is enabled (R333). -/
def State.flagTrue (s : State) (f : Nat) : Bool :=
  s.bit (EVR_FLAG f) 31 && (Sparse.get (fun _ => (0 : Word)) (Sparse.get (fun _ => Engine.reset) s.engines (s.fld (EVR_FLAG f) 18 16)).pub
    (s.fld (EVR_FLAG f) 12 0)) != 0

/-- A source of a level that the model holds may assert (R333): a comparator while its latch is set, a window while it is not inside, a
Heddle flag while it is enabled and its word is true. Source 167 never does. -/
def State.srcMay (s : State) (src : Nat) : Bool :=
  if src < 64 then s.bit (if src < 32 then CMP_LATCH_HOT else CMP_LATCH_COLD) (src % 32)
  else if src < 80 then s.fld CMP_WINDOW (2 * (src - 64) + 1) (2 * (src - 64)) != 0
  else if 120 ≤ src ∧ src < 152 then s.flagTrue (src - 120)
  else src != 167

/-- EVR_UNMASK (R338): unmasks the source, closes its window, and ends the cause of 0x0801. -/
def execEvrUnmask (m : Master) (src : Fin 256) (s : State) : Res :=
  ((((s.strobeJ m EVR_UNMASK (w32 src)).setMasked (s.originOf m) src false).setGuard src ⟨none, 0⟩).holdTag 0x0801 31 src
    false).done

/-- SOURCE_STUCK (R339): not for a pulse source, and not with STUCK_T of 0. -/
def execSourceStuck (src : Fin 256) (s : State) : Res :=
  (if s.bit (EVR_SRC_STAT src) 2 && !pulseSource src && s.fld (EVR_SRC_CFG src) 15 0 != 0 then
    (((s.setBit (EVR_SRC_STAT src) 1 true).putFldJ (originBlk 0x08 15) (EVR_STUCK (src / 32)) (src % 32) (src % 32) 1).orReg
      EVR_EVENTS 2).holdTag 0x0802 31 src true
  else s).done

/-- Some source routed to destination `d` is asserted (R335). -/
def State.routedAsserted (s : State) (d : Nat) : Bool :=
  (upTo 0 256).any (fun n => s.bit (EVR_SRC_STAT n) 2 && (s.routes n).contains d)

/-- A refused write to a router register (R326, R343). -/
def State.evrRefuse (s : State) (m : Master) (addr : Nat) : State := (s.orReg EVR_EVENTS 8).refuse 0x0805 31 addr m

/-- EVR_GDIS_REL (R335): releases the named groups, or is refused while a source routed to one of them is asserted. -/
def execEvrGdisRel (m : Master) (v : BitVec 4) (s : State) : Res :=
  (if (setBits v.toNat 4).any (fun g => s.routedAsserted g) then s.evrRefuse m EVR_GDIS_REL
   else ((s.strobeJ m EVR_GDIS_REL (w32 v.toNat)).clrReg EVR_GDIS v.toNat).gdrShow).done

/-- EVR_SWTRIG (R333): pulses sources 192 + b or 224 + b. -/
def execEvrSwtrig (m : Master) (hi : Bool) (v : Word) (s : State) : Res :=
  let base := if hi then 224 else 192
  (forEach (fun s b => s.post (base + b)) (setBits v.toNat 32)
    (s.strobeJ m (if hi then EVR_SWTRIG_HI else EVR_SWTRIG_LO) v)).done

/-! ## Comparators -/

/-- The inner state of comparator `c`. -/
def State.cmp (s : State) (c : Nat) : CmpUnit := Sparse.get (fun _ => CmpUnit.reset) s.cmps c

/-- The state with a comparator replaced. -/
def State.setCmp (s : State) (c : Nat) (u : CmpUnit) : State :=
  { s with cmps := Sparse.set (fun _ => CmpUnit.reset) s.cmps c u }

/-- The register of a pair HOT, COLD that holds the bit of comparator `c`. -/
def cmpReg (hot c : Nat) : Nat := if c < 32 then hot else hot + 4

/-- The output of comparator `c`. -/
def State.cmpOut (s : State) (c : Nat) : Bool := s.bit (cmpReg CMP_RAW_HOT c) (c % 32)

/-- Comparator `c` is unresolved (R328, R329): enabled, and in its settling window or with its flag set. -/
def State.cmpUnres (s : State) (c : Nat) : Bool :=
  s.bit (CMP_C_CFG c) 31 && ((s.cmp c).settling || s.bit (cmpReg CMP_UNRES_HOT c) (c % 32))

/-- The UNRESOLVED bit of the window monitor of AINi (R331); no register shows it. -/
def State.windowUnres (s : State) (i : Nat) : Bool := s.cmpUnres (32 + 2 * i) || s.cmpUnres (33 + 2 * i)

/-- The window monitor of AINi from its two outputs (R331), and its router source (R333). -/
def State.windowUpdate (s : State) (c : Nat) : State :=
  if c < 32 then s else
  let i := (c - 32) / 2
  let v := b2n (s.cmpOut (32 + 2 * i)) + 2 * b2n (s.cmpOut (33 + 2 * i))
  (s.setFld CMP_WINDOW (2 * i + 1) (2 * i) v).level (64 + i) (v != 0)

/-- The output of comparator `c` changes; an asserted output sets the latch (R330), which is the router source. A warn
comparator is held back from both while its channel is in blanking (R360). -/
def State.setCmpOut (s : State) (c : Nat) (v : Bool) : State :=
  let s1 := s.setBit (cmpReg CMP_RAW_HOT c) (c % 32) v
  let masked := decide (c < 32) && c % 2 == 0 && (s.gch (c / 2)).blank
  let s2 := if v && !masked then (s1.setBit (cmpReg CMP_LATCH_HOT c) (c % 32) true).level c true else s1
  s2.windowUpdate c

/-- The latch of comparator `c` is cleared unless its output is asserted (R330). -/
def State.clearLatch (s : State) (c : Nat) : State :=
  if s.cmpOut c then s else (s.setBit (cmpReg CMP_LATCH_HOT c) (c % 32) false).level c false

/-- The latches that clear by themselves with CLR_SEL of `sel`, of every group or of one (R330). -/
def State.autoClear (s : State) (sel : Nat) (grp : Option Nat) : State :=
  forEach State.clearLatch
    ((upTo 0 64).filter (fun c => s.fld (CMP_C_CFG c) 19 18 == sel
      && (match grp with
          | some g => s.fld (CMP_C_CFG c) 17 16 == g
          | none => true))) s

/-- The UNRESOLVED flag of comparator `c` (R328), with the cause of 0x0803 (unit c/2, R341). (DEDUCED: log entry 45) -/
def State.setUnres (s : State) (c : Nat) (on : Bool) : State :=
  let s1 := s.setBit (cmpReg CMP_UNRES_HOT c) (c % 32) on
  (if on then s1.orReg CMP_EVENTS 1 else s1).holdTag 0x0803 (c / 2) c on

/-- The threshold code in force (R325): native K as 16·K, or CODE scaled to 12 bits. -/
def State.thrCode (s : State) (c : Nat) : Nat :=
  if s.bit (CMP_C_CFG c) 20 then
    s.fld (CMP_DAC c) 11 0 * 2 ^ (12 - (6 + 2 * s.fld (CMP_DAC c) 15 14))
  else 16 * s.fld (CMP_C_THR c) 7 0

/-- The threshold takes effect (R329). -/
def State.applyThr (s : State) (c : Nat) : State := s.setCmp c { s.cmp c with thr := s.thrCode c }

/-- A refused comparator write (R326). -/
def State.cmpRefuse (s : State) (m : Master) (addr : Nat) : State := (s.orReg CMP_EVENTS 4).refuse 0x0805 31 addr m

/-- The output that an input on a side of the hysteresis band gives (R326): with POL 0 above asserts, with POL 1 below. -/
def State.cmpGives (s : State) (c : Nat) (above : Bool) : Bool := above != s.bit (CMP_C_CFG c) 24

/-- The spare of a side, 64 hot and 65 cold, is unresolved or not (R341: unit 31). (DEDUCED: log entry 45) -/
def State.spareUnres (s : State) (c : Nat) (on : Bool) : State :=
  (if on then s.orReg CMP_EVENTS 1 else s).holdTag 0x0803 31 c on

/-- COMPARATOR_RESOLVE (R326, R328): at the end of the settling window. (DEDUCED: log entry 45) -/
def execComparatorResolve (c : Fin 66) (inBand above : Bool) (s : State) : Res :=
  (if 64 ≤ c.val then s.spareUnres c inBand
  else if s.bit (CMP_C_CFG c) 31 && (s.cmp c).settling then
    let s1 := s.setCmp c { s.cmp c with settling := false }
    if inBand && s.fld (CMP_C_CFG c) 23 22 != 0 then (s1.setUnres c true).setCmpOut c (s.bit (CMP_C_CFG c) 25)
    else s1.setCmpOut c (s.cmpGives c above)
  else s).done

/-- COMPARATOR_CROSSING (R326, R328): a clean crossing of an enabled, settled comparator to a side of the band; it ends UNRESOLVED. -/
def execComparatorCrossing (c : Fin 66) (above : Bool) (s : State) : Res :=
  (if 64 ≤ c.val then s.spareUnres c false
  else if s.bit (CMP_C_CFG c) 31 && !(s.cmp c).settling then
    (if s.bit (cmpReg CMP_UNRES_HOT c) (c % 32) then s.setUnres c false else s).setCmpOut c (s.cmpGives c above)
  else s).done

/-- The unit of a comparator's trim (R341), and the tag of its cause: a spare's lies beyond the sense inputs'. -/
def trimUnit (c : Nat) : Nat := if c < 64 then c / 2 else 31
@[inherit_doc trimUnit] def trimTag (c : Nat) : Nat := if c < 64 then c else 16 + c

/-- COMPARATOR_CALIBRATION (R332): at start-up of every comparator and spare, in service of every enabled one while CAL_EN is set. A
trim out of range raises 0x0804; a swap where the two do not agree is abandoned. (DEDUCED: log entry 45) -/
def execComparatorCalibration (c : Fin 66) (agreed inRange : Bool) (s : State) : Res :=
  (if !s.booted || (s.bit CMP_CTRL 0 && (decide (64 ≤ c.val) || s.bit (CMP_C_CFG c) 31)) then
    let s1 := if agreed then s.count CMP_CAL 31 16 1 else s
    if !inRange then
      ((if c.val < 64 then s1.setFld CMP_CAL 6 0 (64 + c) else s1).orReg CMP_EVENTS 2).holdTag 0x0804 (trimUnit c) (trimTag c) true
    else if agreed then s1.holdTag 0x0804 (trimUnit c) (trimTag c) false
    else s1
  else s).done

/-- ROUTER_EVENT (R333, R334): a source asserts. A Heddle flag asserts only while it is enabled and its word is true; a Sap flag is set
by the Sap engine. The other levels are the word of their origin. (DEDUCED: log entry 45) -/
def execRouterEvent (src : Fin 256) (s : State) : Res :=
  (if pulseSource src then s.post src
  else if 168 ≤ src.val ∧ src.val < 183 then s.sapFlag (src - 168) true
  else if s.srcMay src then s.level src true else s).done

/-- The modes of R327: Fast on all, Mid on warn comparators and the cold side, Slow and Watch on the cold side. -/
def cmpModeOk (c mode : Nat) : Bool :=
  mode == 0 || (mode == 1 && (32 ≤ c || c % 2 == 0)) || 32 ≤ c

/-- CMP_CFG_WRITE (R327 to R329). -/
def execCmpCfgWrite (c : Fin 64) (m : Master) (v : Word) (s : State) : Res :=
  let w := v &&& 0x8FFF0000
  let old := s.reg (CMP_C_CFG c)
  let hardOff := decide (c.val < 32) && c.val % 2 == 1 && bit old 31 && !bit w 31 && s.bit GDR_CTRL (c / 8)
  (if !cmpModeOk c (fld w 27 26) || fld w 19 18 == 3 || hardOff then s.cmpRefuse m (CMP_C_CFG c)
  else
    let s1 := (s.writeJ m (CMP_C_CFG c) w).applyThr c
    let fresh := bit w 31 && (!bit old 31 || fld w 27 26 != fld old 27 26 || bit w 21 != bit old 21 || bit w 24 != bit old 24)
    if !bit w 31 || fresh then
      let s2 := (s1.setCmp c { s1.cmp c with settling := true }).setUnres c false
      (s2.setCmpOut c false).clearLatch c
    else s1).done

/-- CMP_THRESHOLD_WRITE (R325, R329): a CODE of 2^N or more is refused. -/
def execCmpThresholdWrite (c : Fin 64) (m : Master) (dac : Bool) (v : Word) (s : State) : Res :=
  (if dac then
    let w := v &&& 0xCFFF
    if 2 ^ (6 + 2 * fld w 15 14) ≤ fld w 11 0 then s.cmpRefuse m (CMP_DAC c)
    else (s.writeJ m (CMP_DAC c) w).applyThr c
  else (s.writeJ m (CMP_C_THR c) (v &&& 0xFF)).applyThr c).done

/-- CMP_LATCH_CLEAR (R330): each bit written 1 clears its latch unless the output is asserted. -/
def execCmpLatchClear (_m : Master) (cold : Bool) (v : Word) (s : State) : Res :=
  (forEach State.clearLatch ((setBits v.toNat 32).map (fun b => if cold then 32 + b else b)) s).done

end Sys2Proof.Machine
end

