-- ==== Sys2Proof/Machine/Time.lean ====
section
/-! DEFINITION. The four time bases: counting, servos, corrections, holdover, the cross-check, the cycle grid's settings,
and the commands of the time family (R38 to R63, R27, R29, R44). -/

namespace Sys2Proof.Machine

/-! ## Rate -/

/-- One ppb in the units of I and F, 2^-32 ppb. -/
def ppb : Int := 4294967296

/-- The frequency limit of base `n` (R47), in 2^-32 ppb. -/
def State.flim (s : State) (n : Nat) : Int := (s.fld (TIM_TB_FLIM n) 17 0 : Int) * ppb

/-- The correction threshold of base `n` (R51, R53), in 2^-16 ns. -/
def State.thr (s : State) (n : Nat) : Int := ((ns (s.reg (TIM_TB_JUMP n)).toNat : Nat) : Int)

/-- The source code of base `n` (R49). -/
def State.src (s : State) (n : Nat) : Nat := s.fld (TIM_TB_CTRL n) 2 0

/-- Base `n` is sourced (R55): a source, its servo enabled, not frozen. -/
def State.sourced (s : State) (n : Nat) : Bool :=
  s.src n != 0 && s.bit TIM_SERVO_CTRL n && !s.bit TIM_SERVO_CTRL (8 + n)

/-- Base `n` is in holdover. -/
def State.inHold (s : State) (n : Nat) : Bool := s.bit (TIM_TB_STATUS n) 3

/-- TB0 is armed (R52). -/
def State.armed (s : State) : Bool := s.bit TIM_STATUS 0

/-- Base `n` runs at F = I: frozen, without a source, in holdover, or TB0 behind a TB2 in holdover (R49, R50, R55, R62). -/
def State.onlyI (s : State) (n : Nat) : Bool :=
  s.bit TIM_SERVO_CTRL (8 + n) || s.src n == 0 || s.inHold n || (n == 0 && s.src 0 == 1 && s.inHold 2)

/-- The frequency adjustment in force on base `n`, in 2^-32 ppb: the slew of an explicit correction (R51), 0 with the servo
off, I where only I counts, else the servo's F. (DEDUCED: log entry 16) -/
def State.effF (s : State) (n : Nat) : Int :=
  let t := s.tb n
  match t.slewTo with
  | some v => if sext 80 (v.toNat + 2 ^ 80 - t.cnt.toNat) < 0 then - s.flim n else s.flim n
  | none => if !s.bit TIM_SERVO_CTRL n then 0 else if s.onlyI n then t.integ else t.f

/-- The adjustment in force on base `n` is the servo's F as its clamp made it (R47). -/
def State.limited (s : State) (n : Nat) : Bool :=
  (s.tb n).slewTo.isNone && s.bit TIM_SERVO_CTRL n && !s.onlyI n && (s.tb n).clip

/-- The compensation in force on base `n`, in 2^-37 ppb (R45: none on TB1). -/
def State.effC (s : State) (n : Nat) : Int := if n = 1 then 0 else if s.bit TIM_COMP_CTRL 0 then s.tim.comp else 0

/-- TIM_TBn_FADJ shows the adjustment in force, in 2^-8 ppb, and FREQ_LIMITED whether F is clamped (R47, R63). -/
def State.showF (s : State) (n : Nat) : State :=
  (s.setReg (TIM_TB_FADJ n) (wordOfInt (s.effF n / 16777216))).setBit (TIM_TB_STATUS n) 5 (s.limited n)

/-- The adjustment of base `n` is shown, and that of TB0, which TB2's holdover changes too (R50). -/
def State.showHold (s : State) (n : Nat) : State := if n = 2 then (s.showF 2).showF 0 else s.showF n

/-! ## Counting -/

/-- The wrap of a base (R39): its epoch register counts; a wrap of TB0 opens a recovery epoch (R317). -/
def State.wrapped (s : State) (n : Nat) : State :=
  let s1 := s.setReg (TIM_TB_EPOCH n) (s.reg (TIM_TB_EPOCH n) + 1)
  if n = 0 then s1.nextEpoch 2 else s1

/-- The addend of one clock in 1/(16·10^9) of 2^-32 ns (R45): 2 ns · (1 + (C + F)·10^-9). (DEDUCED: log entry 16) -/
def State.addend (s : State) (n : Nat) : Nat := (1000000000 * 2 ^ 37 + s.effC n + s.effF n * 32).toNat

/-- Seconds of holdover (R55): 500,000,000 clocks of the Time island each. -/
def State.holdTick (s : State) (n : Nat) : State :=
  if s.inHold n then
    let t := s.tb n
    if t.holdClk + 1 = 500000000 then
      (s.setTb n { t with holdClk := 0 }).setReg (TIM_TB_HOLD_S n) (s.reg (TIM_TB_HOLD_S n) + 1)
    else s.setTb n { t with holdClk := t.holdClk + 1 }
  else s

/-- One clock of base `n` (R45), with its wrap, while its counter runs. The value an explicit correction slews towards runs on
at the rate without F. (DEDUCED: log entry 16) -/
def State.tickBase (s : State) (n : Nat) : State :=
  let t := s.tb n
  if !s.bit (TIM_TB_STATUS n) 0 then s else
  let total := t.rem + s.addend n
  let next := t.cnt.toNat + total / 16000000000
  let slew := t.slewTo.map (fun v =>
    BitVec.ofNat 80 (v.toNat + (1000000000 * 2 ^ 37 + s.effC n).toNat / 16000000000))
  let s1 := s.setTb n { t with cnt := BitVec.ofNat 80 next, rem := total % 16000000000, slewTo := slew }
  (if next < 2 ^ 80 then s1 else s1.wrapped n).holdTick n

/-- One 500 MHz clock of the Time island on all four bases. (DESIGN CHOICE: log entry 2) -/
def State.tick (s : State) : State := (((s.tickBase 0).tickBase 1).tickBase 2).tickBase 3

/-! ## Moving a base -/

/-- After a step or load of base `n` (R42, R48, R54, R317): LOCKED clears, the gate has no reference, pending times are
evaluated again, and TB0 opens a recovery epoch. -/
def State.tbMoved (s : State) (n : Nat) : State :=
  let s1 := (s.setTb n { s.tb n with lastE := none, lockRun := 0, rej := 0 }).setBit (TIM_TB_STATUS n) 1 false
  (if n = 0 then s1.nextEpoch 1 else s1).rebase n

/-- Base `n` steps by `d` in 2^-16 ns. -/
def State.stepBy (s : State) (n : Nat) (d : Int) : State :=
  (s.setTb n { s.tb n with cnt := BitVec.ofNat 80 (toU 80 ((s.tb n).cnt.toNat + d * 65536)) }).tbMoved n

/-- Base `n` takes the value `v` in 2^-16 ns; a slew towards another ends. -/
def State.setTo (s : State) (n v : Nat) : State :=
  let s1 := (s.setTb n { s.tb n with cnt := BitVec.ofNat 80 (v * 2 ^ 16), slewTo := none }).tbMoved n
  if (s.tb n).slewTo.isSome then (s1.setBit (TIM_TB_STATUS n) 2 false).showF n else s1

/-- A load of the unarmed TB0 (R44, R52): TB1 takes the same value, and the grid restarts with boundary 0 at the value
plus T_cyc; an origin not yet reached is withdrawn, and TIM_GRID_ORIGIN then reads that boundary. -/
def State.load0 (s : State) (v : Nat) : State :=
  let b := (v + ns s.tcyc) % 2 ^ 64
  let s1 := if s.tim.origin.isSome then s.setPair TIM_GRID_ORIGIN_LO b else s
  let s2 : State := { s1 with tim := { s1.tim with origin := none, nextB := b, nextK := 0 } }
  (s2.setTo 1 v).setTo 0 v

/-- A correction above the threshold is refused and flagged (R51). -/
def State.jumpRefused (s : State) (n : Nat) : State :=
  ((s.orReg TIM_EVENTS (2 ^ n)).count (TIM_TB_CNT n) 31 16 1).raise (0x0101 + n) 31

/-- An explicit correction of base `n` to the value `v` (R51 to R54). -/
def State.correct (s0 : State) (n v : Nat) : State :=
  let s := (s0.setTb n { s0.tb n with slewTo := none }).setBit (TIM_TB_STATUS n) 2 false
  let d := tdiff v (s.now n)
  if n = 0 ∧ !s.armed then s.load0 v
  else if 2 ≤ n ∨ (d.natAbs : Int) ≤ s.thr n then (s.stepBy n d).showF n
  else
    (((s.jumpRefused n).setTb n { s.tb n with slewTo := some (BitVec.ofNat 80 (v * 2 ^ 16)) }).setBit (TIM_TB_STATUS n) 2
      true).showF n

/-! ## Servos -/

/-- LOCKED after an accepted sample (R48). -/
def State.lockRule (s : State) (n : Nat) (e : Int) : State :=
  let thr : Nat := ns (s.fld (TIM_TB_GATE n) 31 20)
  let t := s.tb n
  if 4 * thr < e.natAbs then (s.setTb n { t with lockRun := 0 }).setBit (TIM_TB_STATUS n) 1 false
  else if e.natAbs ≤ thr then
    let s1 := s.setTb n { t with lockRun := t.lockRun + 1 }
    if 16 ≤ t.lockRun + 1 then
      let s2 := s1.setBit (TIM_TB_STATUS n) 1 true
      if n = 2 then { s2 with tim := { s2.tim with tb2Valid := true } } else s2
    else s1
  else s.setTb n { t with lockRun := 0 }

/-- Slew mode of the servo (R51, R53): F = sign(e)·FLIM, I held. -/
def State.servoSlew (s : State) (n : Nat) (e : Int) : State :=
  (s.setTb n { s.tb n with f := if e < 0 then - s.flim n else s.flim n, clip := false }).setBit (TIM_TB_STATUS n) 2 true

/-- Normal mode of the servo (R47), exactly: KP and KI in 2^-16 ppb/ns times e in 2^-16 ns. (DEDUCED: log entry 16) -/
def State.servoNormal (s : State) (n : Nat) (e : Int) : State :=
  let lim := s.flim n
  let i := clampI (-lim) lim ((s.tb n).integ + ((s.reg (TIM_TB_KI n)).toNat : Int) * e)
  let f := ((s.reg (TIM_TB_KP n)).toNat : Int) * e + i
  (s.setTb n { s.tb n with integ := i, f := clampI (-lim) lim f, clip := decide (f < -lim) || decide (lim < f) }).setBit
    (TIM_TB_STATUS n) 2 false

/-- The outlier gate rejects `e` (R48). -/
def State.gated (s : State) (n : Nat) (e : Int) : Bool :=
  let thr := s.fld (TIM_TB_GATE n) 15 0
  s.bit TIM_SERVO_CTRL (4 + n) && s.bit (TIM_TB_STATUS n) 1 && thr != 0 &&
    (match (s.tb n).lastE with
     | some e' => decide (ns thr < (e - e').natAbs)
     | none => false)

/-- A base leaves holdover at an accepted sample (R55). -/
def State.leaveHold (s : State) (n : Nat) : State :=
  if s.inHold n then
    (((((s.setBit (TIM_TB_STATUS n) 3 false).setBit (TIM_TB_STATUS n) 4 false).setReg (TIM_TB_HOLD_S n) 0).setTb n
      { s.tb n with holdClk := 0 }).level (107 + n) false).showHold n
  else s

/-- An accepted sample (R47, R50 to R53). The second component tells whether the servo was updated, which gives TB0 its
sample from TB2 (R49). (DEDUCED: log entry 16) -/
def State.acceptSample (s0 : State) (n : Nat) (e : Int) : State × Bool :=
  let t := s0.tb n
  let s := ((s0.setTb n { t with lastE := some e, rej := 0 }).setReg (TIM_TB_OFFSET n)
    (wordOfInt (clampI (-2147483648) 2147483647 (e / 256)))).leaveHold n
  if s.thr n < (e.natAbs : Int) then
    if n = 0 ∧ !s.armed then
      (s.load0 (if s.src 0 = 1 then s.now 2 else toU 64 ((s.now 0 : Int) + e)), false)
    else if 2 ≤ n ∧ s.bit (TIM_TB_CTRL n) 4 then ((s.stepBy n e).showF n, false)
    else
      let s1 := s.servoSlew n e
      let s2 := if n < 2 then s1.jumpRefused n else s1
      ((s2.lockRule n e).showF n, true)
  else (((s.servoNormal n e).lockRule n e).showF n, true)

/-- A measured offset reaches the servo of base `n` (R47 to R54). The sample after GATE_N rejections in a row is accepted whatever
its value (R48). -/
def State.sample (s : State) (n : Nat) (e : Int) : State × Bool :=
  if !s.sourced n || (n == 0 && s.src 0 == 1 && s.inHold 2) then (s, false)
  else if (s.tb n).slewTo.isSome then (s.count (TIM_TB_CNT n) 15 0 1, false)
  else if max 1 (s.fld (TIM_TB_GATE n) 19 16) ≤ (s.tb n).rej then
    ((((s.setBit (TIM_TB_STATUS n) 1 false).setTb n { s.tb n with lockRun := 0 }).orReg TIM_EVENTS (2 ^ (4 + n))).raise
      0x0103 31).acceptSample n e
  else if s.gated n e then ((s.setTb n { s.tb n with rej := (s.tb n).rej + 1 }).count (TIM_TB_CNT n) 15 0 1, false)
  else s.acceptSample n e

/-- A sample of base `n`, and the sample of TB0 from TB2 that follows an update of TB2's servo (R49, R58). -/
def State.servo (s : State) (n : Nat) (e : Int) : State :=
  let (s1, upd) := s.sample n e
  if n == 2 && upd && s1.src 0 == 1 then
    let s2 := s1.xstamp
    (s2.sample 0 (tdiff (s2.now 2) (s2.now 0))).1
  else s1

/-- TB2 or TB3 enters holdover (R55). -/
def State.enterHold (s : State) (n : Nat) : State :=
  if s.inHold n then s else
  let s1 := ((s.setBit (TIM_TB_STATUS n) 3 true).setBit (TIM_TB_STATUS n) 1 false).setBit (TIM_TB_STATUS n) 2 false
  let s2 := (s1.setTb n { s1.tb n with lockRun := 0, holdClk := 0 }).orReg TIM_EVENTS (2 ^ (6 + n))
  (((s2.setReg (TIM_TB_HOLD_S n) 0).raise (0x0102 + n) 31).level (107 + n) true).showHold n

/-- XCHK_OK: neither check of R56 has failed. -/
def State.xchkOk (s : State) : State :=
  s.setBit TIM_STATUS 4 (!(s.flt.causes.any (fun c => c.1 == 0x0108 || c.1 == 0x0109)))

/-- TB0 becomes armed (R52). (DEDUCED: log entry 16) -/
def State.arm (s : State) : State := if s.armed then s else (s.setBit TIM_STATUS 0 true).showRings

/-! ## The commands -/

/-- TB_WRAP (R39). -/
def execTbWrap (n : Fin 4) (s : State) : Res :=
  ((s.setTb n { s.tb n with cnt := 0 }).wrapped n).done

/-- SERVO_SAMPLE (R47): `e` is a signed 48.16 offset. -/
def execServoSample (n : Fin 4) (e : Time) (s : State) : Res := (s.servo n e.toInt).done

/-- TB_LOAD (R51). TB1 is locked after the end of boot (R52). -/
def execTbLoad (n : Fin 4) (m : Master) (v : Time) (s : State) : Res :=
  if n.val = 1 ∧ s.booted then (s.lockedRefuse (TIM_TB_LOAD_LO 1) m).done
  else (((s.strobeJ m (TIM_TB_LOAD_LO n) (lo32 v.toNat)).strobeJ m (TIM_TB_LOAD_HI n) (hi32 v.toNat)).correct n v.toNat).done

/-- TB_ADJ (R51): a signed difference in 2^-8 ns. -/
def execTbAdj (n : Fin 4) (m : Master) (delta : Word) (s : State) : Res :=
  if n.val = 1 ∧ s.booted then (s.lockedRefuse (TIM_TB_ADJ 1) m).done
  else ((s.strobeJ m (TIM_TB_ADJ n) delta).correct n (toU 64 ((s.now n : Int) + delta.toInt * 256))).done

/-- SLEW_DONE (R51): the base reaches the requested value exactly, SLEWING clears, F returns to the servo's. -/
def execSlewDone (n : Fin 4) (s : State) : Res :=
  match (s.tb n).slewTo with
  | some v =>
    ((((s.setTb n { s.tb n with cnt := v, slewTo := none }).tbMoved n).setBit (TIM_TB_STATUS n) 2 false).showF n).done
  | none => s.done

/-- PENDING_TIME_DUE (R42). -/
def execPendingTimeDue (u : PendingUnit) (s : State) : Res :=
  match u with
  | .gridOrigin =>
    (match s.tim.origin with
     | some v => { s with tim := { s.tim with origin := none, nextB := v, nextK := 0 } }
     | none => s).done
  | .captureTrigger => s.capDue.done
  | .canBuffer c b => (s.canEligible c b).done

/-- COMP_SAMPLE (R46): a reading in 1/128 °C. -/
def execCompSample (t : Option (BitVec 16)) (s : State) : Res :=
  let bad := fun (s : State) => ((s.setBit TIM_STATUS 3 false).orReg TIM_EVENTS 0x4000).holdCause 0x010A 31 true
  match t with
  | none => (bad s).done
  | some w =>
    let x := w.toInt
    let jump : Bool := match s.tim.lastTemp with
      | some p => decide (640 < (x - p).natAbs)
      | none => false
    let s1 : State := { s with tim := { s.tim with lastTemp := some x } }
    if x < -7040 ∨ 19200 < x ∨ jump then (bad s1).done
    else
      let d := x - 3200
      let c := (s1.reg (TIM_COMP_C 0)).toInt * 2097152 + (s1.reg (TIM_COMP_C 1)).toInt * d * 16384
        + (s1.reg (TIM_COMP_C 2)).toInt * d * d * 128 + (s1.reg (TIM_COMP_C 3)).toInt * d * d * d
      let lim : Int := 50000 * 137438953472
      let c' := clampI (-lim) lim c
      let s2 : State := { s1 with tim := { s1.tim with comp := c' } }
      ((((s2.setReg TIM_COMP_TEMP (w32 w.toNat)).setReg TIM_COMP_PPB (wordOfInt (c' / 536870912))).setBit TIM_STATUS 3
        (s2.bit TIM_COMP_CTRL 0)).holdCause 0x010A 31 false).done

/-- HOLDOVER_TIMEOUT (R55) of TB2 or TB3, while it is sourced. -/
def execHoldoverTimeout (b : Fin 2) (s : State) : Res :=
  (if s.sourced (2 + b) then s.enterHold (2 + b) else s).done

/-- HOLDOVER_LIMIT (R55): HOLD_S stands at the limit. -/
def execHoldoverLimit (b : Fin 2) (s : State) : Res :=
  let n := 2 + b.val
  let lim := s.reg (TIM_TB_HOLD_LIM n)
  (if s.inHold n && lim != 0 && !s.bit (TIM_TB_STATUS n) 4 then
    (((s.setReg (TIM_TB_HOLD_S n) lim).setBit (TIM_TB_STATUS n) 4 true).orReg TIM_EVENTS (2 ^ (8 + n))).raise 0x0106 31
  else s).done

/-- XCHK_SAMPLE (R56). -/
def execXchkSample (s : State) : Res :=
  let d := tdiff (s.now 1) (s.now 0)
  let bad := decide (ns (s.fld TIM_XCHK_LIMIT 15 0) < d.natAbs)
  let s1 := s.setReg TIM_XCHK_OFFSET (wordOfInt (clampI (-2147483648) 2147483647 (d / 65536)))
  let s2 := if bad then s1.orReg TIM_EVENTS 0x2000 else s1
  (((s2.holdCause 0x0108 31 bad).level 111 bad).xchkOk).done

/-- Oscillator 0, the main one, or 1, the secondary, runs or has stopped, and with it the counters it clocks (R45, R62, R63).
(DEDUCED: log entry 16) -/
def State.oscRuns (s : State) (o : Nat) (on : Bool) : State :=
  forEach (fun s n => s.setBit (TIM_TB_STATUS n) 0 on) (if o = 0 then [0, 2, 3] else [1]) (s.setBit TIM_STATUS (1 + o) on)

/-- RATE_CHECK (R56): the deviation in 2^-8 ppm, allowed up to 1,000 ppm; one within that shows that both oscillators run. -/
def execRateCheck (dev : Word) (s : State) : Res :=
  let s1 := s.setReg TIM_XCHK_RATE dev
  (if 256000 < dev.toInt.natAbs then ((s1.orReg TIM_EVENTS 0x2000).holdCause 0x0109 31 true).xchkOk
   else ((s1.oscRuns 0 true).oscRuns 1 true).xchkOk).done

/-- OSC_STOPPED (R56): oscillator 0 is the main one, 1 the secondary. -/
def execOscStopped (o : Fin 2) (s : State) : Res :=
  ((((s.oscRuns o false).orReg TIM_EVENTS 0x2000).holdCause 0x0109 31 true).xchkOk).done

/-- XSTAMP_TRIG (R58). -/
def execXstampTrig (m : Master) (s : State) : Res := ((s.strobeJ m TIM_XSTAMP_CTRL 1).xstamp).done

/-- DISARM (R52): in the stopped state with SPB held and no cell enabled, else refused and journaled (R29). -/
def execDisarm (m : Master) (s : State) : Res :=
  (if s.stopped && s.spb && !s.cellOn then ((s.strobeJ m TIM_CTRL 1).setBit TIM_STATUS 0 false).showRings
   else s.refusedJ m TIM_CTRL 1).done

/-- GRID_ORIGIN_WRITE (R44): TB0 unarmed and the time 1 µs to 1 s after now. -/
def execGridOriginWrite (m : Master) (v : Time) (s : State) : Res :=
  let d := tdiff v.toNat (s.now 0)
  (if !s.armed && decide ((ns 1000 : Nat) ≤ d) && decide (d ≤ (ns 1000000000 : Nat)) then
    let s1 := (s.writeJ m TIM_GRID_ORIGIN_LO (lo32 v.toNat)).writeJ m TIM_GRID_ORIGIN_HI (hi32 v.toNat)
    { s1 with tim := { s1.tim with origin := some v.toNat } }
   else (s.raise 0x010B 31).ended 3).done

/-- SERVO_RESET_I (R62): the integrators of the named bases are set to 0. -/
def execServoResetI (m : Master) (mask : BitVec 4) (s : State) : Res :=
  (forEach (fun s n => (s.setTb n { s.tb n with integ := 0 }).showF n) (setBits mask.toNat 4)
    (s.strobeJ m TIM_SERVO_CTRL (w32 (mask.toNat * 4096)))).done

end Sys2Proof.Machine
end

