-- ==== Sys2Proof/Machine/Can.lean ====
section
/-! DEFINITION. The CAN FD controllers (R396 to R410): reception, transmission, error states and the turbine's time
messages. -/

namespace Sys2Proof.Machine

/-- The controller takes part in the bus: a mode in force other than Init, integrated, not bus-off. -/
def State.canOn (s : State) (c : Nat) : Bool :=
  s.fld (CAN_STATUS c) 1 0 != 0 && s.bit (CAN_STATUS c) 4 && s.fld (CAN_STATUS c) 3 2 != 2

/-- The controller may transmit: Active, taking part, its driver on (R397, R398). -/
def State.canTx (s : State) (c : Nat) : Bool := s.canOn c && s.fld (CAN_STATUS c) 1 0 == 2 && !s.bit (CAN_STATUS c) 6

/-! ## Error counters (ISO 11898-1) -/

/-- The counters fall to error-active levels: the cause of 0x0A01 ends. (DEDUCED: log entry 59) -/
def State.canActive (s : State) (c : Nat) : State :=
  if s.fld (CAN_STATUS c) 3 2 == 1 && decide (s.fld (CAN_ERRCNT c) 24 16 < 128) && decide (s.fld (CAN_ERRCNT c) 7 0 < 128) then
    ((s.setFld (CAN_STATUS c) 3 2 0).endCause 0x0A01 c).level (96 + 4 * c) false
  else s

/-- A sound reception lowers REC by 1, and from above 127 to a value between 119 and 127, which ISO 11898-1 leaves free.
(DEDUCED: log entry 59) -/
def State.recDown (s : State) (c : Nat) : State :=
  let n := s.fld (CAN_ERRCNT c) 7 0
  (if n ≤ 127 then s.setFld (CAN_ERRCNT c) 7 0 (n - 1)
   else (s.setFld (CAN_ERRCNT c) 7 0 (119 + (Config.freeWord s.freeCtr).toNat % 9)).tickFree).canActive c

/-! ## Time messages -/

/-- The stamp of a frame's SOF in base `n` (R57). (DEDUCED: log entry 59) -/
def State.sofStamp (s : State) (f : CanFrame) (n : Nat) : Nat := (s.stamp n + 2 ^ 64 - f.since % 2 ^ 64) % 2 ^ 64

/-- Bytes `i` to `j - 1` of a frame are 0. -/
def zeroBytes (l : List Byte) (i n : Nat) : Bool := ((l.drop i).take n).all (fun b => b == 0)

/-- A time message that is rejected (R407). -/
def State.tsReject (s : State) (c : Nat) : State :=
  ((s.count (CAN_TS_CNT c) 31 16 1).orReg (CAN_EVENTS c) 0x80).raise 0x0A05 c

/-- The frame is a time message (R407): its identifier and IDE are those of CAN_TS_ID, with at least 8 data bytes.
(DEDUCED: log entry 59) -/
def State.isTime (s : State) (c : Nat) (f : CanFrame) : Bool :=
  let ts := s.reg (CAN_TS_ID c)
  bit ts 31 && !f.rtr && bit ts 29 == f.ide && decide (8 ≤ f.data.length) &&
    (if f.ide then fld ts 28 0 == f.id.toNat else fld ts 28 18 == nfld f.id.toNat 28 18)

/-- A time message is taken before filtering (R407), where TIM_TB3_CTRL.SRC selects the controller. -/
def State.timeMessage (s : State) (c : Nat) (f : CanFrame) : State :=
  if s.isTime c f && s.src 3 == c + 1 then
    let kind := (nth f.data 0 0).toNat
    let seq := (nth f.data 1 0).toNat
    if kind == 0x10 && zeroBytes f.data 2 6 then s.setCan c { s.can c with sync := some (seq, s.sofStamp f 3, s.stamp 0) }
    else if kind == 0x18 then
      match (s.can c).sync with
      | some (q, t3, t0) =>
        if q == seq && decide (tdiff (s.now 0) t0 ≤ (ns (s.fld (CAN_TS_CFG c) 31 16 * 1000000) : Nat)) then
          let tm := leNat ((f.data.drop 2).take 6)
          let d := sext 48 (toU 48 ((tm : Int) + sext 16 (s.fld (CAN_TS_CFG c) 15 0) - ((t3 / 65536 : Nat) : Int)))
          (s.count (CAN_TS_CNT c) 15 0 1).servo 3 (d * 65536)
        else s.tsReject c
      | none => s.tsReject c
    else s.tsReject c
  else s

/-! ## Reception -/

/-- Filter `n` matches a frame (R400). -/
def State.filterHit (s : State) (c : Nat) (f : CanFrame) (n : Nat) : Bool :=
  let i := s.reg (CAN_FLT_ID c n)
  let k := s.reg (CAN_FLT_MASK c n)
  let x := Nat.land (Nat.xor f.id.toNat (fld i 28 0)) (fld k 28 0)
  bit k 31 && bit i 29 == f.ide && (if f.ide then x == 0 else x / 2 ^ 18 == 0)

/-- The words of a received message (R410). -/
def State.rxWords (s : State) (f : CanFrame) (flt : Option Nat) : List Word :=
  let n := match flt with
    | some i => i * 256
    | none => 127 * 256 + 0x8000
  [w32 (f.id.toNat + b2n f.ide * 2 ^ 29 + b2n f.rtr * 2 ^ 30),
   w32 (f.dlc.toNat + b2n f.fdf * 16 + b2n f.brs * 32 + b2n f.esi * 64 + n),
   lo32 (s.sofStamp f 0), hi32 (s.sofStamp f 0), lo32 (s.sofStamp f 3), hi32 (s.sofStamp f 3), 0, 0]
  ++ (upTo 0 16).map (fun i => w32 (leNat ((f.data.drop (4 * i)).take 4)))

/-- A message goes into queue `q` (R401), or is discarded where the queue is full. (DEDUCED: log entry 59) -/
def State.enqueue (s : State) (c q : Nat) (words : List Word) : State :=
  let n := s.fld (CAN_RXQ_STAT c q) 6 0
  if 64 ≤ n then
    let s1 := s.count (CAN_RXQ_STAT c q) 31 16 1
    let sec := s.now 0 / ns 1000000000
    if (s.can c).ovfAt = some sec then s1
    else ((s1.setCan c { s1.can c with ovfAt := some sec }).orReg (CAN_EVENTS c) 8).raise 0x0A04 c
  else
    let slot := (s.fld (CAN_RXQ_STAT c q) 13 8 + n) % 64
    let s2 := forEach (fun s p => s.setCw (rxWord c q slot p.1) p.2) ((upTo 0 24).zip words) s
    (s2.setFld (CAN_RXQ_STAT c q) 6 0 (n + 1)).level (98 + 4 * c + q) true

/-- What an action of R400 does with a message. -/
def State.canAction (s : State) (c a : Nat) (words : List Word) : State :=
  if a = 1 then s.enqueue c 0 words else if a = 2 then s.enqueue c 1 words else s.count (CAN_CNT0 c) 15 0 1

/-- A frame ends (R398, R400, R407). Its stamps are those of its SOF, before a sample that it brings moves TB3. -/
def State.canReceive (s : State) (c : Nat) (f : CanFrame) : State :=
  if !s.canOn c then s
  else
    let s1 := s.timeMessage c f
    let s2 := if s1.fld (CAN_STATUS c) 1 0 == 2 then
        s1.recDown c
      else s1
    if !s2.bit (CAN_CTRL c) 5 then s2.count (CAN_CNT0 c) 31 16 1
    else
      match (upTo 0 128).find? (fun n => s2.filterHit c f n) with
      | some n => s2.canAction c (s2.fld (CAN_FLT_ID c n) 31 30) (s.rxWords f (some n))
      | none => s2.canAction c (s2.fld (CAN_NOMATCH c) 1 0) (s.rxWords f none)

/-- CAN_FRAME_RECEIVE (R400). -/
def execCanFrameReceive (c : Fin 2) (f : CanFrame) (s : State) : Res := (s.canReceive c f).done

/-- TIME_SYNC_MESSAGE (R407): a time message is taken, then filtered like any frame. -/
def execTimeSyncMessage (c : Fin 2) (f : CanFrame) (s : State) : Res := (s.canReceive c f).done

/-- TIME_FUP_MESSAGE (R407). -/
def execTimeFupMessage (c : Fin 2) (f : CanFrame) (s : State) : Res := (s.canReceive c f).done

/-- CAN_RXQ_REL (R401): a release of more messages than COUNT is refused. -/
def execCanRxqRel (c q : Fin 2) (m : Master) (n : BitVec 7) (s : State) : Res :=
  let cnt := s.fld (CAN_RXQ_STAT c q) 6 0
  let a := CAN_RXQ_REL c q
  (if cnt < n.toNat then s.canRefuse c a (masterCode m)
  else
    let s1 := s.strobeJ m a (w32 n.toNat)
    let s2 := (s1.setFld (CAN_RXQ_STAT c q) 13 8 (s1.fld (CAN_RXQ_STAT c q) 13 8 + n.toNat)).setFld (CAN_RXQ_STAT c q) 6 0
      (cnt - n.toNat)
    s2.level (98 + 4 * c + q) (decide (n.toNat < cnt))).done

/-! ## Transmission -/

/-- CAN_TXREQ (R402): a submission of a PENDING or EMPTY buffer is merged. -/
def execCanTxreq (c : Fin 2) (m : Master) (v : Word) (s : State) : Res :=
  (forEach (fun s b =>
      if s.bufSt c b == 2 || s.bufSt c b == 0 then s.count (CAN_CNT1 c) 15 0 1 else s.submit c b (CAN_TXREQ c) (masterCode m))
    (setBits v.toNat 32) (s.strobeJ m (CAN_TXREQ c) v)).done

/-- What of a buffer word a write sets (R410): the status fields and the reserved bits are not written. -/
def txMask (w : Nat) : Nat :=
  match w with
  | 0 => 0x7FFFFFFF
  | 1 => 0x3007F
  | 4 => 0
  | 5 => 0
  | 6 => 0xFFFF
  | 7 => 0
  | _ => 0xFFFFFFFF

/-- CAN_TX_BUFFER_WRITE (R402): refused while the buffer is PENDING; the first write loads an EMPTY buffer. -/
def execCanTxBufferWrite (c : Fin 2) (m : Master) (b : Fin 32) (w : Fin 24) (v : Word) (s : State) : Res :=
  let a := txWord c b w
  (if s.bufSt c b == 2 then s.canRefuse c a (masterCode m)
  else
    let k := w32 (txMask w)
    let s1 := s.setCw a ((s.cw a &&& ~~~k) ||| (v &&& k))
    if s1.bufSt c b == 0 then s1.setBufSt c b 1 else s1).done

/-- The arbitration order of a buffer (R403): base identifier, base before extended, extended bits; then submission. -/
def State.arbKey (s : State) (c b : Nat) : Nat :=
  let w := s.cw (txWord c b 0)
  ((fld w 28 18 * 2 + b2n (bit w 29)) * 2 ^ 18 + (if bit w 29 then fld w 17 0 else 0)) * 2 ^ 64 + (s.txb c b).order

/-- Buffer `b` is the first of the eligible pending buffers (R403). -/
def State.arbFirst (s : State) (c b : Nat) : Bool :=
  (s.txb c b).eligible &&
    (upTo 0 32).all (fun x => !(s.bufSt c x == 2 && (s.txb c x).eligible) || decide (s.arbKey c b ≤ s.arbKey c x))

/-- CAN_TXCANCEL (R405). Whether the buffer whose attempt could be running is past its SOF is a free value: the commands do
not say when an attempt begins. (DEDUCED: log entry 59) -/
def execCanTxcancel (c : Fin 2) (m : Master) (v : Word) (s : State) : Res :=
  (forEach (fun s b =>
      if s.bufSt c b == 2 then
        if s.canTx c && s.arbFirst c b && bit (Config.freeWord s.freeCtr) 0 then
          (s.setTxb c b { s.txb c b with cancel := true }).tickFree
        else ((s.setBufSt c b 5).setTxb c b TxBuf.reset).tickFree
      else s)
    (setBits v.toNat 32) (s.strobeJ m (CAN_TXCANCEL c) v)).done

/-- CAN_TX_ELIGIBLE (R404). -/
def execCanTxEligible (c : Fin 2) (b : Fin 32) (s : State) : Res := (s.canEligible c b).done

/-- CAN_TX_LATE (R404): a pending buffer with a window. -/
def execCanTxLate (c : Fin 2) (b : Fin 32) (s : State) : Res :=
  (if s.bufSt c b == 2 && (s.txb c b).winEnd.isSome then s.canLate c b else s).done

/-- CAN_TX_SUCCESS (R403, R405): the buffer becomes SENT with the TB0 stamp of the SOF. -/
def execCanTxSuccess (c : Fin 2) (b : Fin 32) (sof : Time) (s : State) : Res :=
  (if s.bufSt c b == 2 && (s.txb c b).eligible && s.canTx c then
    let late := (s.txb c b).cancel
    let s1 := ((s.setBufSt c b 3).setCw (txWord c b 4) (lo32 sof.toNat)).setCw (txWord c b 5) (hi32 sof.toNat)
    let s2 := s1.setCw (txWord c b 1) (putBit (s1.cw (txWord c b 1)) 18 late)
    let s3 := ((s2.setTxb c b TxBuf.reset).orReg (CAN_EVENTS c) (1 + 2 * b2n late)).emit
      (.canTx c b ((upTo 0 24).map (fun w => s2.cw (txWord c b w))))
    (s3.setFld (CAN_ERRCNT c) 24 16 (s3.fld (CAN_ERRCNT c) 24 16 - 1)).canActive c
  else s).done

/-- CAN_TX_LOST (R403, R405): the buffer stays PENDING, or a deferred cancel takes effect. -/
def execCanTxLost (c : Fin 2) (b : Fin 32) (error : Bool) (s : State) : Res :=
  (if s.bufSt c b == 2 && (s.txb c b).eligible && s.canTx c then
    let s1 := if (s.txb c b).cancel then (s.setBufSt c b 5).setTxb c b TxBuf.reset else s
    if error then s1.setFld (CAN_ERRCNT c) 24 16 (min 511 (s1.fld (CAN_ERRCNT c) 24 16 + 8)) else s1
  else s).done

/-! ## Error states -/

/-- CAN_ERROR_PASSIVE (R406). -/
def execCanErrorPassive (c : Fin 2) (tec : BitVec 9) (rec : BitVec 8) (s : State) : Res :=
  (((((s.setReg (CAN_ERRCNT c) (w32 (tec.toNat * 65536 + rec.toNat))).setFld (CAN_STATUS c) 3 2 1).orReg (CAN_EVENTS c)
    0x10).holdCause 0x0A01 c true).level (96 + 4 * c) true).done

/-- CAN_BUS_OFF (R406): at once; recovery starts by itself with AUTO_REC set. -/
def execCanBusOff (c : Fin 2) (tec : BitVec 9) (s : State) : Res :=
  let s1 := ((s.setFld (CAN_ERRCNT c) 24 16 tec.toNat).setFld (CAN_STATUS c) 3 2 2).setBit (CAN_STATUS c) 5
    (s.bit (CAN_CTRL c) 2)
  (((((s1.orReg (CAN_EVENTS c) 0x20).endCause 0x0A01 c).level (96 + 4 * c) false).holdCause 0x0A02 c true).level
    (97 + 4 * c) true).done

/-- Recovery from bus-off starts (R406). -/
def State.canRecovers (s : State) (c : Nat) : State :=
  if s.fld (CAN_STATUS c) 3 2 == 2 then s.setBit (CAN_STATUS c) 5 true else s

/-- CAN_RECOVER (R406). -/
def execCanRecover (c : Fin 2) (m : Master) (s : State) : Res := ((s.strobeJ m (CAN_CTRL c) 8).canRecovers c).done

/-- CAN_RECOVERY_DONE (R406): both counters start again from 0. -/
def execCanRecoveryDone (c : Fin 2) (s : State) : Res :=
  (if s.bit (CAN_STATUS c) 5 then
    ((((s.setBit (CAN_STATUS c) 5 false).setFld (CAN_STATUS c) 3 2 0).setReg (CAN_ERRCNT c) 0).endCause 0x0A02 c).level
      (97 + 4 * c) false
  else s).done

/-! ## Modes -/

/-- The mode in force follows (R398): leaving Init begins integration. Bus idle is taken as now. -/
def State.canMode (s : State) (c mode : Nat) : State :=
  let s1 := if s.fld (CAN_STATUS c) 1 0 == 0 || mode == 0 then s.setBit (CAN_STATUS c) 4 false else s
  s1.setFld (CAN_STATUS c) 1 0 mode

/-- CAN_MODE_WRITE (R398): code 3 is refused. -/
def execCanModeWrite (c : Fin 2) (m : Master) (mode : BitVec 2) (s : State) : Res :=
  (if mode = 3 then s.canRefuse c (CAN_CTRL c) (masterCode m)
   else (s.writeJ m (CAN_CTRL c) (putFld (s.reg (CAN_CTRL c)) 1 0 mode.toNat)).canMode c mode.toNat).done

/-- CAN_INTEGRATED (R398). -/
def execCanIntegrated (c : Fin 2) (s : State) : Res :=
  (if s.fld (CAN_STATUS c) 1 0 == 0 then s else s.setBit (CAN_STATUS c) 4 true).done

/-- CAN_TXD_TIMEOUT (R397): the driver is switched off. -/
def execCanTxdTimeout (c : Fin 2) (s : State) : Res :=
  (((s.setBit (CAN_STATUS c) 6 true).orReg (CAN_EVENTS c) 0x40).holdCause 0x0A07 c true).done

/-- CAN_TXD_RECESSIVE (R397): the driver is on again and the cause ends. -/
def execCanTxdRecessive (c : Fin 2) (s : State) : Res :=
  ((s.setBit (CAN_STATUS c) 6 false).holdCause 0x0A07 c false).done

end Sys2Proof.Machine
end

