-- ==== Sys2Proof/Machine/GraftLine.lean ====
section
/-! DEFINITION. The frames of the Graft link as bytes (R252 to R260): headers, bodies and check words, and what makes a frame valid at
its receiver. -/

namespace Sys2Proof

/-- POS of a STATUS frame. -/
def GraftStatus.pos (f : GraftStatus) : Bool := f.line.pos

/-- ROLE of a STATUS frame. -/
def GraftStatus.role (f : GraftStatus) : Nat := f.line.role

/-- K of a STATUS frame. -/
def GraftStatus.k (f : GraftStatus) : Word := f.line.k

/-- Bytes 0 to 11 of the Graft header (R252). -/
def graftHeader (l : GraftLine) : List Byte :=
  [BitVec.ofNat 8 (b2n l.pos), BitVec.ofNat 8 l.role] ++ natLe 2 l.len ++ natLe 4 l.k.toNat ++ [0, 0, 0, 0]

/-- Blocks from SOF to EOF on lane 0 (R252) for a body of `n` bytes: the header's two blocks and the body's are data blocks. -/
def graftLen (both : Bool) (n : Nat) : Nat := if both then 2 + (n / 8 + 3) / 2 else 4 + n / 8

/-- The line of a frame with the body `b` as its sender forms it. -/
def graftFormed (both pos : Bool) (role : Nat) (k : Word) (b : List Byte) : GraftLine :=
  let l : GraftLine := { pos := pos, role := role, k := k, len := graftLen both b.length, hcrc := 0
                         fcrc := BitVec.ofNat 32 (crc32c b), intact := true }
  { l with hcrc := BitVec.ofNat 32 (crc32c (graftHeader l)) }

/-- A Graft frame with the body `b` is valid at its receiver (R73 as applied to Graft frames): intact, LEN as one lane or both carry it,
HCRC and FCRC right. -/
def graftValid (l : GraftLine) (b : List Byte) : Bool :=
  l.intact && (l.len == graftLen true b.length || l.len == graftLen false b.length)
    && l.hcrc == BitVec.ofNat 32 (crc32c (graftHeader l)) && l.fcrc == BitVec.ofNat 32 (crc32c b)

/-- What a sender forms is valid where it arrives intact. -/
theorem graftFormed_valid (both pos : Bool) (role : Nat) (k : Word) (b : List Byte) :
    graftValid (graftFormed both pos role k b) b = true := by
  cases both <;> simp [graftValid, graftFormed, graftHeader]

/-- The body of a STATUS frame (R254). -/
def statusBody (f : GraftStatus) : List Byte :=
  natLe 8 f.origin.toNat ++ natLe 8 f.rxPeer.toNat ++ natLe 4 f.rxK.toNat ++ natLe 4 f.flags.toNat ++ natLe 4 f.configId.toNat
    ++ natLe 4 f.tcyc.toNat ++ natLe 8 f.bk.toNat

/-- The body of a MIRROR frame (R260). -/
def mirrorBody (f : MirrorFrame) : List Byte :=
  natLe 4 f.mseq.toNat ++ natLe 2 f.writes.length ++ [0, 0] ++ f.writes.flatMap (fun w => natLe 4 w.1.toNat ++ natLe 4 w.2.toNat)

/-- A ring in an image. -/
def imageRingBytes (x : ImageRing) : List Byte :=
  natLe 2 x.mandate.toNat ++ [BitVec.ofNat 8 x.state, BitVec.ofNat 8 x.wrapUp, BitVec.ofNat 8 x.wrapDn, x.presentHi, 0, 0]
    ++ natLe 4 x.presentLo.toNat ++ natLe 4 x.cut.toNat

/-- A ring's Draft section in an image. -/
def imageDraftBytes (x : ImageDraft) : List Byte := natLe 2 x.first ++ natLe 2 x.count ++ [BitVec.ofNat 8 x.slots, 0, 0, 0]

/-- A string in an image. -/
def imageStringBytes (x : ImageString) : List Byte :=
  natLe 8 x.ref.toNat ++ natLe 4 x.en.toNat ++ natLe 4 x.oos.toNat ++ natLe 4 x.ret.toNat
    ++ [BitVec.ofNat 8 x.mode.toNat, BitVec.ofNat 8 x.n, BitVec.ofNat 8 (b2n x.derated), 0] ++ natLe 4 x.head.toNat ++ natLe 4 0

/-- A quad in an image. -/
def imageQuadBytes (x : ImageQuad) : List Byte := natLe 8 x.ref.toNat ++ wordBytes x.psi

/-- An engine block of an image: each state with its sign extension to 64 bits. -/
def imageEngineBytes (x : ImageEngine) : List Byte :=
  [x.flags, x.hov] ++ natLe 2 x.states.length ++ natLe 2 x.segAct.toNat ++ natLe 2 x.segEn.toNat ++ natLe 4 x.swapCyc.toNat
    ++ [x.tracked, x.consec, 0, 0] ++ x.states.flatMap (fun v => natLe 8 (v.signExtend 64).toNat)

/-- The body of an IMAGE frame (R257). -/
def imageBody (x : Image) : List Byte :=
  natLe 4 x.k.toNat ++ natLe 8 x.bk.toNat ++ natLe 4 x.tcyc.toNat ++ natLe 4 x.configId.toNat ++ natLe 4 x.size
    ++ [BitVec.ofNat 8 (b2n x.handoff), 0, 0, 0] ++ natLe 4 x.mirrorSeq.toNat
    ++ [BitVec.ofNat 8 x.run, BitVec.ofNat 8 x.cls, 0, 0] ++ natLe 4 x.epoch.toNat ++ wordBytes x.supv
    ++ x.rings.flatMap imageRingBytes
    ++ (BitVec.ofNat 8 (b2n x.front) :: List.replicate 7 0) ++ x.draft.flatMap imageDraftBytes ++ List.replicate 24 0
    ++ x.strings.flatMap imageStringBytes ++ x.quads.flatMap imageQuadBytes ++ x.engines.flatMap imageEngineBytes

/-- A valid STATUS frame. -/
def statusOk (f : GraftStatus) : Bool := graftValid f.line (statusBody f)

/-- A valid MIRROR frame. -/
def mirrorOk (f : MirrorFrame) : Bool := graftValid f.line (mirrorBody f)

/-- A valid IMAGE frame. -/
def imageOk (x : Image) : Bool := graftValid x.line (imageBody x)

end Sys2Proof
end

