-- ==== Sys2Proof/Machine/Fixed.lean ====
section
/-! DEFINITION. The fixed-point arithmetic of the Heddle engines (R127, R128, R156): integers in units of the last fraction
bit, narrowing by rounding to nearest even and saturation, the accumulator, and the sine, magnitude and angle functions within the
bounds of R173 and R176. -/

namespace Sys2Proof.Machine

/-- A value in some format's unit, and whether a stage has saturated (R128). -/
structure Fx where
  v   : Int
  sat : Bool
  deriving DecidableEq, Repr

/-- `x` divided by 2^k, rounded to nearest, ties to even. -/
def rne (x : Int) (k : Nat) : Int :=
  let m : Int := ((2 ^ k : Nat) : Int)
  let q := x / m
  let r := 2 * (x % m)
  if m < r ∨ (r = m ∧ q % 2 = 1) then q + 1 else q

/-- The nearer end of the `n`-bit two's-complement range for a value outside it. -/
def satBits (n : Nat) (x : Fx) : Fx :=
  let lim : Int := ((2 ^ (n - 1) : Nat) : Int)
  if lim ≤ x.v then ⟨lim - 1, true⟩ else if x.v < -lim then ⟨-lim, true⟩ else x

/-- Narrowing: rounded first, then saturated. -/
def narrow (k n : Nat) (x : Fx) : Fx := satBits n ⟨rne x.v k, x.sat⟩

/-- From Q6.57 to a Q3.28 signal. -/
def toSig (x : Fx) : Fx := narrow 29 32 x

/-- From Q6.57 to a Q3.44 state. -/
def toSt (x : Fx) : Fx := narrow 13 48 x

/-- A sum in the accumulator, one addition at a time (R156), in 2^-57. -/
def accSum (l : List Int) : Fx := l.foldl (fun a t => satBits 64 ⟨a.v + t, a.sat⟩) ⟨0, false⟩

/-- A signal in 2^-57. -/
def sigAcc (x : Int) : Int := x * 2 ^ 29

/-- A coefficient in 2^-57. -/
def coefAcc (x : Int) : Int := x * 2 ^ 28

/-- A state in 2^-57. -/
def stAcc (x : Int) : Int := x * 2 ^ 13

/-- Exact. -/
def exactFx (x : Int) : Fx := ⟨x, false⟩

/-- Division by a nonzero integer, rounded to nearest, ties to even. -/
def rneDiv (a b : Int) : Int :=
  let n := if b < 0 then -a else a
  let d : Int := b.natAbs
  let q := n / d
  let r := 2 * (n % d)
  if d < r ∨ (r = d ∧ q % 2 = 1) then q + 1 else q

/-! ## Sine and cosine -/

/-- π in 2^-96. -/
def pi96 : Int := 248902613312231085230521944622

/-- `n` terms of the series of a sine or cosine whose last term is `t`, the next divided by (k+1)(k+2); `x2` is the squared
argument; all in 2^-96. -/
def trigSeries (x2 : Int) : Nat → Nat → Int → Int
  | 0, _, _ => 0
  | n + 1, k, t => t + trigSeries x2 n (k + 2) (-(t * x2 / 2 ^ 96) / (((k + 1) * (k + 2) : Nat) : Int))

/-- Sine and cosine of the phase `p` in 2^-32 turn, in 2^-96, exact to far below the last bit of Q2.29. -/
def sinCos96 (p : Nat) : Int × Int :=
  let x := ((p % 2 ^ 30 : Nat) : Int) * pi96 / 2 ^ 31
  let x2 := x * x / 2 ^ 96
  let s := trigSeries x2 18 1 x
  let c := trigSeries x2 18 0 (2 ^ 96)
  match p / 2 ^ 30 % 4 with
  | 0 => (s, c)
  | 1 => (c, -s)
  | 2 => (-s, -c)
  | _ => (-c, s)

/-- A Q2.29 value within 2^-29 of a value in 2^-96 (R173): which one is free. -/
def nearQ29 (x : Int) (free : Int) : Int :=
  let u : Int := 2 ^ 67
  let lo := -((u - x) / u)
  let hi := (x + u) / u
  lo + free % (hi - lo + 1)

/-- The sine unit (R173): the same angle always gives the same pair. (DEDUCED: log entry 20) -/
def sineUnit (p : Nat) : Int × Int :=
  let (s, c) := sinCos96 p
  (nearQ29 s (Config.freeErr (2 * p)), nearQ29 c (Config.freeErr (2 * p + 1)))

/-- The sine unit for an angle word (R157): bits 27 to 0 in 2^-28 turn. -/
def sineOf (w : Word) : Int × Int := sineUnit (w.toNat % 2 ^ 28 * 16)

/-! ## Magnitude and angle -/

/-- Integer square root by bits, from bit `n - 1` down. -/
def isqrtBits (x : Nat) : Nat → Nat → Nat
  | 0, r => r
  | n + 1, r => isqrtBits x n (if (r + 2 ^ n) * (r + 2 ^ n) ≤ x then r + 2 ^ n else r)

/-- The value of CMAG (R176): within 2^-27 of √(x² + y²), saturated at the top of Q3.28. Which of those values is free.
(DEDUCED: log entry 20) -/
def cmagOf (x y : Int) : Fx :=
  let n := (x * x + y * y).toNat
  let r := isqrtBits n 33 0
  let free := Config.freePick 0x18 [x, y]
  let v : Int := if r * r = n then (r : Int) - 2 + free % 5 else (r : Int) - 1 + free % 4
  satBits 32 ⟨v, false⟩

/-- (x, y) has its angle, less `a` in 2^-28 turn, in [0, 1/2) turn, in 2^-96. -/
def angleGe (x y : Int) (a : Nat) : Bool :=
  let (s, c) := sinCos96 (a * 16)
  let cross := y * c - x * s
  let dot := x * c + y * s
  decide (0 < cross) || (decide (cross = 0) && decide (0 < dot))

/-- The greatest multiple of 2^-28 turn not above the angle of (x, y), from a base within a half turn below it, by bits. -/
def angleBits (x y : Int) : Nat → Nat → Nat
  | 0, a => a
  | n + 1, a => angleBits x y n (if angleGe x y (a + 2 ^ n) then a + 2 ^ n else a)

/-- The angle of (x, y) in 2^-28 turn where it is a multiple of an eighth of a turn, the only such angles that are rational. -/
def angleExact (x y : Int) : Option Nat :=
  let e : Nat := 2 ^ 25
  if y = 0 then some (if 0 < x then 0 else 4 * e)
  else if x = 0 then some (if 0 < y then 2 * e else 6 * e)
  else if x.natAbs = y.natAbs then
    some (if 0 < y then (if 0 < x then e else 3 * e) else (if x < 0 then 5 * e else 7 * e))
  else none

/-- CANG (R176): within 2^-26 turn of atan2(y, x), in [−0.5, 0.5) turn; 0 at the origin. Which of those values is free.
(DEDUCED: log entry 20) -/
def cangOf (x y : Int) : Int :=
  if x = 0 ∧ y = 0 then 0 else
  let free := Config.freePick 0x19 [x, y]
  let v : Int := match angleExact x y with
    | some a => (a : Int) - 4 + free % 9
    | none => (angleBits x y 27 (if angleGe x y 0 then 0 else 2 ^ 27) : Int) - 3 + free % 8
  sext 28 (toU 28 v)

end Sys2Proof.Machine
end

