-- ==== Sys2Proof/Machine/Warp.lean ====
section
/-! DEFINITION. The module's side of the Warp rings: bring-up, status records, wrap and closing, sync exchanges, management
transactions, node loss and re-admission, strangers, pass mode (R87 to R121). -/

namespace Sys2Proof.Machine

/-! ## Bring-up -/

/-- The ring starts from its map with nothing known of its nodes; numbers of transactions and exchanges go on. -/
def ringStart (g : Ring) (step : Nat) : Ring :=
  { Ring.reset with map := g.map, mseq := g.mseq, sseq := g.sseq, step := step }

/-- The causes that ring `r` holds end: the ring is no longer run. -/
def State.ringCausesEnd (s : State) (r : Nat) : State :=
  forEach (fun s c => s.endCause c.1 c.2)
    (s.flt.causes.filter (fun c => c.1 / 256 == 2 && (c.2 == r || c.2 / 64 == r + 1))) s

/-- Block lock found on the ports ends the opening (R100 step 1): both are needed before the time-out. -/
def State.opened (s : State) (r : Nat) : State :=
  if (s.ring r).step = 1 && s.bit (WRP_RING_STATE r) 9 && s.bit (WRP_RING_STATE r) 10 then
    s.setRing r { s.ring r with step := 2, collects := 0, mand := none }
  else s

/-- The Shuttle engine brings ring `r` up (R100). -/
def State.bringUp (s : State) (r : Nat) : State :=
  let s1 := (s.setRing r (ringStart (s.ring r) 1)).setReg (WRP_RING_MANDATE r) 0
  (((s1.setReg (WRP_RING_WRAP r) 0).ringCausesEnd r).opened r).showRing r

/-- Ring `r` runs in pass mode (R97). -/
def State.passMode (s : State) (r : Nat) : State :=
  ((s.setRing r { s.ring r with step := 8, wrapped := false, txq := [], conv := false }).ringCausesEnd r).showRing r

/-- Ring `r` has been enabled (R98, R100): in a duplex pair only the module in control brings the ring up; any other passes
(R97). Without a pair the module controls the rings from then on, and its local demands act (R276). -/
def State.ringOn (s : State) (r : Nat) : State :=
  (if s.duplex && s.role != 4 then (s.setRing r (ringStart (s.ring r) 8)).showRing r else s.bringUp r).safEval

/-- Ring `r` has been disabled (R98): its bypass is commanded closed. -/
def State.ringOff (s : State) (r : Nat) : State :=
  let s1 := ((s.setRing r (ringStart (s.ring r) 0)).setReg (WRP_RING_MANDATE r) 0).setReg (WRP_RING_WRAP r) 0
  ((s1.ringCausesEnd r).showRing r).safEval

/-- RING_ENABLE (R98, R100). (DEDUCED: log entry 32) -/
def execRingEnable (r : Fin 4) (m : Master) (s : State) : Res :=
  (if s.ringEn r then s.writeJ m WRP_CTRL (s.reg WRP_CTRL)
   else (s.writeJ m WRP_CTRL (putBit (s.reg WRP_CTRL) r true)).ringOn r).done

/-- RING_DISABLE (R98). -/
def execRingDisable (r : Fin 4) (m : Master) (s : State) : Res :=
  ((s.writeJ m WRP_CTRL (putBit (s.reg WRP_CTRL) r false)).ringOff r).done

/-- The wrap points of ring `r` (R110). -/
def State.showWrap (s : State) (r : Nat) : State :=
  s.setReg (WRP_RING_WRAP r) (w32 ((s.ring r).dnSeen * 256 + (s.ring r).upSeen))

/-- A ring is declared wrapped (R110, R111): fault 0x0201 until it closes, the wrap points, its wrap cut, and condition 1 of R27
for its new path. (DEDUCED: log entry 33) -/
def State.declareWrap (s : State) (r : Nat) : State :=
  let s1 := s.setRing r { s.ring r with wrapped := true, gap := none, miss0 := 0, miss1 := 0 }
  let s2 := ((s1.count (WRP_RING_CNT1 r) 31 16 1).orReg WRP_EVENTS (2 ^ (4 + r))).showWrap r
  ((s2.holdTag 0x0201 r r true).showRing r).judgeCut.checkCond1 r

/-- RING_LOCK_TIMEOUT (R100): one locked port goes on wrapped, none fails the ring. -/
def execRingLockTimeout (r : Fin 4) (s : State) : Res :=
  (if (s.ring r).step = 1 then
    if s.bit (WRP_RING_STATE r) 9 || s.bit (WRP_RING_STATE r) 10 then
      (s.setRing r { s.ring r with step := 2, collects := 0, mand := none }).declareWrap r
    else ((s.setRing r { s.ring r with step := 9 }).holdTag 0x0206 r r true).showRing r
  else s).done

/-- BLOCK_LOCK_CHANGE (R66): port WP(2r) shows in LOCK_UP, WP(2r + 1) in LOCK_DN. (DEDUCED: log entry 33) -/
def execBlockLockChange (p : Fin 8) (locked : Bool) (s : State) : Res :=
  let r := p.val / 2
  (((s.setBit (WRP_RING_STATE r) (9 + p.val % 2) locked).opened r).showRing r).done

/-- BYPASS_MOVE_DONE (R98, R99): the bypass stands as its ring commands. -/
def execBypassMoveDone (r : Fin 4) (s : State) : Res := (s.setBit (WRP_RING_STATE r) 8 (!s.ringEn r)).done

/-! ## Collect frames and records -/

/-- A COLLECT frame of the current cycle on ring `r` (R81, R87). -/
def State.collectFrame (s : State) (r : Nat) (d : Dir) : WarpFrame :=
  .collect { hdr := modHdr r d 0 true (s.k % 65536) (s.mandate r), bk := BitVec.ofNat 64 s.bk, records := [] }

/-- The module launches no more frames: it yields (R265), or its hand-off has ended (R267). -/
def State.silent (s : State) : Bool := s.gft.yielding

/-- The rings on which the module launches frames. (DEDUCED: log entry 32) -/
def State.ringsUp (s : State) : List Nat :=
  if s.controls && !s.silent then s.ringsEn.filter (fun r => ringUp (s.ring r)) else []

/-- COLLECT_LAUNCH (R87, R95). -/
def execCollectLaunch (s : State) : Res :=
  (forEach (fun s r =>
      (s.launch r (s.collectFrame r)).setRing r { s.ring r with sent := true, collects := (s.ring r).collects + 1 })
    s.ringsUp s).done

/-- The 60 bytes that RCRC covers match it (R89). -/
def recordOk (w : List Word) : Bool :=
  w.length == 16 && decide (crc32c ((w.take 15).flatMap (fun x => natLe 4 x.toNat)) = (nth w 15 0).toNat)

/-- SYNC_OK of a new record against the one before (R105): its loss at an admitted node of a ring in service raises 0x0206, its
return ends the cause. -/
def State.syncSeen (s : State) (r a : Nat) : State :=
  let n := s.rnode r a
  let ok := recState n 6
  let was := s.mapBitOf (WRP_RING_SYNCOK_LO r) a
  let s1 := s.setMap (WRP_RING_SYNCOK_LO r) a ok
  if n.admitted && (s.ring r).step == 7 && was && !ok then s1.nodeFault 0x0206 r a
  else if ok then s1.holdTag 0x0206 r (nodeTag r a) false
  else s1

/-- The wrap points a record adds (R110): an address with ONE_DIR in a returning frame. WRP_RINGn_WRAP keeps the other
direction's point. -/
def State.wrapSeen (s : State) (r a : Nat) (dir : Dir) : State :=
  let g := s.ring r
  match dir with
  | .cw =>
    let s1 := s.setRing r { g with upSeen := max g.upSeen a }
    if g.wrapped then s1.setFld (WRP_RING_WRAP r) 5 0 (max g.upSeen a) else s1
  | .ccw =>
    let dn := if g.dnSeen = 0 then a else min g.dnSeen a
    let s1 := s.setRing r { g with dnSeen := dn }
    if g.wrapped then s1.setFld (WRP_RING_WRAP r) 13 8 dn else s1

/-- The highest MAND_HI reported to a ring that is being brought up (R82): 0 is not counted. -/
def mandSeen (g : Ring) (m : Nat) : Ring :=
  if g.step = 2 && m != 0 then
    { g with mand := match g.mand with
        | none => some m
        | some x => some (if newer m x then m else x) }
  else g

/-- A lost node answers again: its identity is read and compared (R115). -/
def State.lostSeen (s : State) (r a : Nat) : State :=
  let n := s.rnode r a
  if n.lost && !n.waiting && !((s.ring r).txq.any (fun t => t.purpose == .identity && t.dst == a)) then
    s.enqueueTx r (identityRead .identity a)
  else s

/-- BYPASS_CLOSED of a cell's record shows in WVR_STRs_BYP (R226). -/
def State.bypSeen (s : State) (r a : Nat) : State :=
  match mapEntry (s.ring r) a with
  | some e => if e.role = 0 && decide (r < 3) then s.setBit (WVR_STR_BYP r) e.index (recState (s.rnode r a) 4) else s
  | none => s

/-- The first valid record of address `a` in this cycle. -/
def State.takeRecord (s : State) (r a : Nat) (w : List Word) : State :=
  let g := s.ring r
  let s1 := s.setRing r (mandSeen { g with got := nput g.got a a 1 } ((nth w 1 0).toNat % 65536))
  let s2 := (s1.setRNode r a { s1.rnode r a with record := w }).syncSeen r a
  ((s2.lostSeen r a).bypSeen r a).showRing r

/-- STATUS_RECORD_RECEIVE (R24, R89, R118): the first valid copy of the current boundary, before the cut; a returning copy
with ONE_DIR gives a wrap point (R110), be it the first or not. A frame of a lower mandate gives none (R265).
(DEDUCED: log entry 33) -/
def execStatusRecordReceive (r : Fin 4) (hdr : FrameHdr) (bk : Time) (returning : Bool) (rec : List Word) (s : State) : Res :=
  let a := fld (nth rec 0 0) 5 0
  (if !(hdr.hcrcOk && recordOk rec && s.ringEn r && decide (1 ≤ a) && decide (a ≤ 40)) || s.lowFrame r hdr then s
  else if bk.toNat ≠ s.bk ∨ s.cyc.cutDone then s.count (WRP_RING_CNT0 r) 31 16 1
  else
    let s1 := if nbit (s.ring r).got a then s else s.takeRecord r a rec
    if returning && Sys2Proof.bit (nth rec 0 0) 13 then s1.wrapSeen r a hdr.dir else s1).done

/-- COLLECT_FRAME_RETURN (R110): a returning frame wraps the ring; a normal one of this cycle counts as returned. The return time
of R122 counts from the boundary (R27). (DEDUCED: log entry 33) -/
def execCollectFrameReturn (r : Fin 4) (port : Fin 2) (f : CollectFrame) (s : State) : Res :=
  let s1 := s.frameCounts r port f.hdr
  let ret := isReturning port f.hdr.dir
  let g := s1.ring r
  let t := ((s1.stamp 0 + 2 ^ 64 - s1.bk) % 2 ^ 64) / 65536
  (if !(f.hdr.hcrcOk && ringUp g) || s.lowFrame r f.hdr then s1
  else if ret then
    let s2 := s1.setRing r { g with back := nput g.back 2 2 1, tret := max g.tret t }
    if g.wrapped then s2 else s2.declareWrap r
  else if f.bk.toNat = s1.bk then
    let b : Nat := match f.hdr.dir with
      | .cw => 0
      | .ccw => 1
    s1.setRing r { g with back := nput g.back b b 1, tret := max g.tret t }
  else s1).done

/-- RING_CLOSE (R113): the ring is closed, its cut is restored at the next boundary, and the checks of R27 and R110 follow
the next exchange. (DEDUCED: log entry 33) -/
def execRingClose (r : Fin 4) (s : State) : Res :=
  (if (s.ring r).wrapped then
    let s1 := s.setRing r { s.ring r with wrapped := false, cutOk := false, gap := none, upSeen := 0, dnSeen := 0,
                                          recheck := true }
    (((((s1.setReg (WRP_RING_WRAP r) 0).orReg WRP_EVENTS (2 ^ (12 + r.val))).holdTag 0x0201 r r false).holdTag 0x0202 r r
      false).judgeCut.epsUpdate r).showRing r
  else s).done

/-- A node is lost (R115). -/
def State.loseNode (s : State) (r a : Nat) : State :=
  let n := s.rnode r a
  if n.lost then s else
  let s1 := s.setRNode r a { n with lost := true, admitted := false, waiting := false }
  let s2 := (s1.setRing r { s1.ring r with last := nput (s1.ring r).last a a 0 }).setMap (WRP_RING_PRESENT_LO r) a false
  ((s2.orReg WRP_EVENTS (2 ^ (8 + r))).nodeFault 0x0203 r a).showRing r

/-- NODE_LOSS (R115): a node that the map places on the ring. (DEDUCED: log entry 33) -/
def execNodeLoss (r : Fin 4) (a : Fin 64) (s : State) : Res :=
  (if (mapEntry (s.ring r) a).isSome then s.loseNode r a else s).done

/-! ## The cut of a ring -/

/-- Addresses of the map without a valid record in this cycle. -/
def missing (g : Ring) : List Nat := (g.map.nodes.map (fun e => e.addr)).filter (fun a => !nbit g.got a)

/-- The mandate is taken after four collect cycles (R82, R100 step 2), and the addresses are set and the identities read.
(DEDUCED: log entry 32) -/
def State.takeMandate (s : State) (r : Nat) : State :=
  let g := s.ring r
  if g.step = 2 ∧ 4 ≤ g.collects then
    let above := match g.mand, s.gft.mands with
      | some m, [] => m
      | none, [] => 0
      | none, l => nth l r 0
      | some m, l => if newer (nth l r 0) m then nth l r 0 else m
    let base := addrTx 63 0 :: (if g.wrapped then [addrTx 63 (mapCount g)] else [])
    (((s.setFld (WRP_RING_MANDATE r) 15 0 (nextMandate above)).setRing r
      { g with step := 4, txq := base ++ (upTo 1 40).map (identityRead .identity) })).showRing r
  else s

/-- A direction whose COLLECT frame has not returned by the cut twice in a row wraps the ring (R110).
(DEDUCED: log entry 33) -/
def State.missReturns (s : State) (r : Nat) : State :=
  let g := s.ring r
  if !(g.sent && ringUp g) then s else
  let m0 := if nbit g.back 0 then 0 else g.miss0 + 1
  let m1 := if nbit g.back 1 then 0 else g.miss1 + 1
  let s1 := s.setRing r { g with miss0 := m0, miss1 := m1 }
  if !g.wrapped && (2 ≤ m0 || 2 ≤ m1) then s1.declareWrap r else s1

/-- The break next to WP(2r) as this cycle shows it: the wrap point of the records that returned there, or no node where the port
itself is without block lock (R110). -/
def State.breakUp (s : State) (r : Nat) : Option Nat :=
  if (s.ring r).upSeen ≠ 0 then some (s.ring r).upSeen else if s.bit (WRP_RING_STATE r) 9 then none else some 0

/-- The break next to WP(2r + 1). -/
def State.breakDn (s : State) (r : Nat) : Option Nat :=
  if (s.ring r).dnSeen ≠ 0 then some (s.ring r).dnSeen
  else if s.bit (WRP_RING_STATE r) 10 then none else some (mapCount (s.ring r) + 1)

/-- The nodes without a record between two breaks. -/
def between (g : Ring) (up dn : Nat) : List Nat := (missing g).filter (fun a => decide (up < a) && decide (a < dn))

/-- The wrap points of the cycle are shown where a record carried one (R110). A second break is found (R114) where both ends of
the gap are known and more nodes lie between them than a single break or a failed node leaves. Each is lost.
(DEDUCED: log entry 29) -/
def State.secondBreak (s : State) (r : Nat) : State :=
  let g := s.ring r
  if !(g.wrapped && ringUp g) then s else
  let s0 := if g.upSeen + g.dnSeen = 0 then s else s.showWrap r
  match s.breakUp r, s.breakDn r with
  | some up, some dn =>
    let lost := between g up dn
    let s1 := s0.setRing r { g with gap := some lost.length }
    if (g.gap.getD 1) < lost.length then forEach (fun s a => s.loseNode r a) lost (s1.holdTag 0x0202 r r true) else s1
  | _, _ => s0

/-- AGE of every mapped node, and the nodes without a valid record (R24, R131, R333). -/
def State.ageNodes (s : State) (r : Nat) : State :=
  let g := s.ring r
  let miss := missing g
  let s1 := forEach (fun s e =>
      let n := s.rnode r e.addr
      s.setRNode r e.addr { n with age := if nbit g.got e.addr then 0 else min 255 (n.age + 1) }) g.map.nodes s
  let s2 := s1.setRing r { s1.ring r with last := g.got }
  if ringUp g || g.step == 8 then
    let s3 := s2.count (WRP_RING_CNT0 r) 15 0 miss.length
    if miss.isEmpty then s3 else s3.post (82 + 4 * r)
  else s2

/-- The input cut on ring `r`. -/
def State.ringCut (s : State) (r : Nat) : State :=
  ((((s.ageNodes r).missReturns r).secondBreak r).takeMandate r).showRing r

/-- The boundary on ring `r`: PRESENT and TRET of the cycle that ends, and a fresh cycle. -/
def State.ringBoundary (s : State) (r : Nat) : State :=
  let g := s.ring r
  let s1 := (s.setReg (WRP_RING_PRESENT_LO r) (w32 (nfld g.last 32 1))).setReg (WRP_RING_PRESENT_HI r)
    (w32 (nfld g.last 40 33))
  let s2 := s1.setReg (WRP_RING_TRET r) (w32 (min 65535 g.tret))
  s2.setRing r { g with got := 0, sent := false, back := 0, tret := 0, upSeen := 0, dnSeen := 0 }

/-! ## Sync -/

/-- The mean link delay P (R105), rounded down. (DESIGN CHOICE: log entry 27) -/
def pathOf (a b : Int) : Int := (a + b) / 2

/-- The SYNC frame of ring `r` in one direction (R90). -/
def State.syncFrame (s : State) (r : Nat) (d : Dir) : WarpFrame :=
  .sync { hdr := modHdr r d 63 true (s.ring r).sseq (s.mandate r), origin := BitVec.ofNat 64 (s.stamp 0)
          path := BitVec.ofNat 64 (s.pair (WRP_RING_PATH_LO r)) }

/-- SYNC_LAUNCH (R105). -/
def execSyncLaunch (r : Fin 4) (s : State) : Res :=
  let g := s.ring r
  (if s.controls && !s.silent && (g.step == 6 || g.step == 7) then
    (s.launch r (s.syncFrame r)).setRing r { g with sseq := (g.sseq + 1) % 65536 }
  else s).done

/-- |D_cw − D_ccw| exceeds the ring map's total asymmetry by more than 5 ns (R106). (DESIGN CHOICE: log entry 27) -/
def State.asymBad (s : State) (r : Nat) (a b : Int) : Bool :=
  decide ((sumInt (s.ring r).map.alpha).natAbs + ns 5 < (a - b).natAbs)

/-- Both directions of an exchange are measured: PATH, the asymmetry check, and the checks that waited (R105, R106,
R113). (DESIGN CHOICE: log entry 27) -/
def State.ringMeasured (s : State) (r : Nat) : State :=
  let g := s.ring r
  match g.dcw, g.dccw with
  | some (q, a), some (q', b) =>
    if q = q' then
      let s1 := (s.setPair (WRP_RING_PATH_LO r) (toU 64 (pathOf a b))).holdTag 0x0209 r r (s.asymBad r a b)
      if g.recheck then
        ((s1.setRing r { s1.ring r with recheck := false }).setFld (WRP_RING_WRAP_BOUND r) 15 0 (min 65535 (s1.wrapBound r))).checkCond1 r
      else s1
    else s
  | _, _ => s

/-- SYNC_FRAME_RETURN (R60) at a port of the ring: D = (t_rx − t_tx) − c in the frame's direction; on a wrapped ring no ring delay
is measured. -/
def execSyncFrameReturn (r : RingPort) (f : SyncFrame) (s0 : State) : Res :=
  let s := s0.frameCounts r.ring r.port f.hdr
  let g := s.ring r.ring
  (if !(frameValid (.sync f) && ringUp g && !g.wrapped && f.hdr.mandate.toNat == s.mandate r.ring && !isReturning r.port f.hdr.dir)
  then s
  else
    let d := tdiff (s.stamp 0) f.origin.toNat - f.hdr.corr.toInt
    let x := some (f.hdr.seq.toNat, d)
    (match f.hdr.dir with
     | .cw => s.setRing r.ring { g with dcw := x }
     | .ccw => s.setRing r.ring { g with dccw := x }).ringMeasured r.ring).done

/-- RING_CONVERGED (R105): the ring becomes running; condition 1 of R27, the wrap bound and ε are computed. -/
def execRingConverged (r : Fin 4) (s : State) : Res :=
  let g := s.ring r
  (if g.step = 6 || (g.step = 7 && !g.conv) then
    let s1 := (s.setRing r { g with step := 7, conv := true }).orReg WRP_EVENTS (2 ^ r.val)
    let s2 := s1.setFld (WRP_RING_WRAP_BOUND r) 15 0 (min 65535 (s1.wrapBound r))
    ((s2.holdTag 0x0206 r r false).epsUpdate r).checkCond1 r
  else s).done

/-- CONVERGE_TIMEOUT (R105): the ring stays in syncing and the cause persists until it converges. -/
def execConvergeTimeout (r : Fin 4) (s : State) : Res :=
  (if (s.ring r).step = 6 then (s.holdTag 0x0206 r r true).showRing r else s).done

/-- Ring `r` is to converge again (R122). -/
def State.resyncRing (s : State) (r : Nat) : State := (s.setRing r { s.ring r with conv := false }).showRing r

/-- RESYNC (R122): the ring returns to PERIOD_CONV until it converges again. -/
def execResync (r : Fin 4) (m : Master) (s : State) : Res := ((s.strobeJ m (WRP_RING_CMD r) 1).resyncRing r).done

/-! ## Management transactions -/

/-- A MGMT frame of a transaction (R91). -/
def State.mgmtFrame (s : State) (r seq : Nat) (t : MgmtTx) (d : Dir) : WarpFrame :=
  .mgmt { hdr := modHdr r d t.dst false seq (s.mandate r), op := BitVec.ofNat 8 t.op, status := 0
          npad := BitVec.ofNat 8 t.npad, req := t.req, rpl := List.replicate t.nrpl 0 }

/-- The bring-up goes on once nothing of its step waits (R100 steps 4 to 6): scales, then CYCLE frames and sync. -/
def State.advance (s : State) (r : Nat) : State :=
  let g := s.ring r
  if g.step = 4 && !(g.txq.any (fun t => t.purpose == .address || t.purpose == .identity)) then
    let good := (g.map.nodes.map (fun e => e.addr)).filter (fun a => (s.rnode r a).admitted)
    if good.isEmpty then (s.setRing r { g with step := 6 }).showRing r
    else s.setRing r { g with step := 5, txq := g.txq ++ good.map (scaleWrite g) }
  else if g.step = 5 && !(g.txq.any (fun t => t.purpose == .scales)) then (s.setRing r { g with step := 6 }).showRing r
  else s

/-- The transaction that goes out next: the first not yet sent, else the oldest; a bypass command has its own repetition
(R219). -/
def nextTx (q : List MgmtTx) : Option MgmtTx :=
  match q.find? (fun t => t.seq.isNone) with
  | some t => some t
  | none => q.find? (fun t => t.purpose != .bypass)

/-- The first transaction equal to `t` replaced, or removed. (DEDUCED: log entry 28) -/
def replaceTx (t : MgmtTx) (new : Option MgmtTx) : List MgmtTx → List MgmtTx
  | [] => []
  | x :: xs => if x = t then (match new with
      | some y => y :: xs
      | none => xs) else x :: replaceTx t new xs

/-- MGMT_TRANSACTION_SEND (R91): a transaction whose reply the module ignores is over once sent. -/
def execMgmtTransactionSend (r : Fin 4) (s : State) : Res :=
  let g := s.ring r
  (if !(s.controls && !s.silent && ringUp g) then s
  else match nextTx g.txq with
    | none => s
    | some t =>
      let q := match t.seq with
        | some q => q
        | none => g.mseq
      let s1 := s.launchSide r t.side (s.mgmtFrame r q t)
      let g1 : Ring := { g with mseq := if t.seq.isNone then (g.mseq + 1) % 65536 else g.mseq }
      if t.purpose = .address then (s1.setRing r { g1 with txq := replaceTx t none g.txq }).advance r
      else s1.setRing r { g1 with txq := replaceTx t (some { t with seq := some q, blanks := 0 }) g.txq }).done

/-- The targets that the map uses of a role (R102, R188). -/
def targetsOf (role : Nat) : Nat := if role = 0 then 4 else if role = 1 then 2 else 0

/-- The words that NMEAS must cover for a role (R102). -/
def measNeed (g : Ring) (role : Nat) : Nat :=
  let m := (nth g.map.assigned role 0).toNat
  (upTo 0 8).foldl (fun a i => if nbit m i then i + 1 else a) 0

/-- The checks of R102 on the identity words read at address `a`. -/
def admissible (g : Ring) (a : Nat) (ident : List Word) : Bool :=
  match mapEntry g a with
  | some e =>
    let c := nth ident 4 0
    fld c 1 0 == e.role && decide (measNeed g e.role ≤ fld c 23 16) && decide (4 ≤ fld c 15 8)
      && decide (targetsOf e.role ≤ fld c 7 4)
  | none => false

/-- The serial among identity words. -/
def serialOf (ident : List Word) : Nat := join64 (nth ident 2 0) (nth ident 3 0)

/-- A stranger (R116): counted once by its serial; R27 is checked with it. (DEDUCED: log entry 29) -/
def State.stranger (s : State) (r serial : Nat) : State :=
  let g := s.ring r
  if g.aliens.contains serial then s else
  (((s.setRing r { g with aliens := serial :: g.aliens }).orReg WRP_EVENTS (2 ^ (8 + r))).holdTag 0x0204 r r true).checkCond1 r

/-- An identity has been read at address `a` (R102, R115, R116). -/
def State.admission (s : State) (r a : Nat) (ident : List Word) : State :=
  let g := s.ring r
  let n := s.rnode r a
  if (mapEntry g a).isNone then s.stranger r (serialOf ident)
  else
    let ok := admissible g a ident
    let fresh := !n.ident.isEmpty && serialOf n.ident != serialOf ident
    let s1 := if n.lost && fresh then (s.setMapJ (WRP_RING_REPLACED_LO r) a).orReg WRP_EVENTS (2 ^ (8 + r)) else s
    let s2 := s1.setRNode r a { n with ident := ident, admitted := ok && !n.lost, waiting := ok && n.lost }
    (if ok then s2.holdTag 0x0205 r (nodeTag r a) false else s2.nodeFault 0x0205 r a).showRing r

/-- The bypass task of cell `key` = 32s + p. -/
def State.bypTask (s : State) (key : Nat) : Option BypTask := Sparse.get (fun _ => (none : Option BypTask)) s.wvr.tasks key

/-- The state with a bypass task replaced. -/
def State.setBypTask (s : State) (key : Nat) (t : Option BypTask) : State :=
  { s with wvr := { s.wvr with tasks := Sparse.set (fun _ => (none : Option BypTask)) s.wvr.tasks key t } }

/-- The reply to a bypass command (R219). (DEDUCED: log entry 26) -/
def State.bypassReply (s : State) (r : Nat) (t : MgmtTx) (status : Nat) : State :=
  match mapEntry (s.ring r) t.dst with
  | some e =>
    let key := 32 * r + e.index
    match s.bypTask key with
    | some b => s.setBypTask key (some { b with taken := b.taken || status == 1,
                                                npad := if status = 4 then Nat.min 255 (2 * b.npad) else b.npad })
    | none => s
  | none => s

/-- A node is no stranger any more: its address has been verified (R116). -/
def State.strangerEnds (s : State) (r serial : Nat) : State :=
  let l := (s.ring r).aliens.filter (fun x => x != serial)
  let s1 := s.setRing r { s.ring r with aliens := l }
  if l.length = (s.ring r).aliens.length then s else (if l.isEmpty then s1.holdTag 0x0204 r r false else s1).checkCond1 r

/-- What the reply of a transaction brings: a verified address must show the serial of the HELLO (R116), else its node is a
stranger. (DEDUCED: log entries 28 and 29) -/
def State.mgmtDone (s : State) (r : Nat) (t : MgmtTx) (f : MgmtFrame) : State :=
  match t.purpose with
  | .identity => if f.status = 1 then s.admission r t.dst f.rpl else s
  | .verify serial =>
    if f.status = 1 ∧ serialOf f.rpl = serial then (s.strangerEnds r serial).admission r t.dst f.rpl else s.stranger r serial
  | .bypass => s.bypassReply r t f.status.toNat
  | .scales => s
  | .address => s

/-- MGMT_REPLY_RECEIVE (R92) at a port of the ring: the first answered copy ends the transaction, or the second one that no node has
answered; a busy one is repeated with a larger NPAD. (DEDUCED: log entry 28) -/
def execMgmtReplyReceive (r : RingPort) (f : MgmtFrame) (s0 : State) : Res :=
  let s := s0.frameCounts r.ring r.port f.hdr
  let g := s.ring r.ring
  (if !(frameValid (.mgmt f) && ringUp g && f.hdr.mandate.toNat == s.mandate r.ring) then s
  else match g.txq.find? (fun t => t.seq == some f.hdr.seq.toNat) with
    | none => s
    | some t =>
      if f.status = 0 ∧ t.blanks = 0 then s.setRing r.ring { g with txq := replaceTx t (some { t with blanks := 1 }) g.txq }
      else if f.status = 4 && t.purpose != .bypass then
        s.setRing r.ring { g with txq := replaceTx t (some { t with seq := none, npad := Nat.min 255 (2 * t.npad) }) g.txq }
      else ((s.setRing r.ring { g with txq := replaceTx t none g.txq }).mgmtDone r.ring t f).advance r.ring).done

/-- READMIT (R115): accepted only when the node is present again, with a valid record by the last cut, and has passed its
checks. Its insertion has condition 1 of R27 checked. -/
def execReadmit (r : Fin 4) (a : Fin 64) (m : Master) (s : State) : Res :=
  let v := w32 (a.val * 1024 + 2)
  let n := s.rnode r a
  (if n.lost && n.waiting && nbit (s.ring r).last a then
    let s1 := (s.strobeJ m (WRP_RING_CMD r) v).setRNode r a { n with lost := false, waiting := false, admitted := true }
    (((s1.holdTag 0x0203 r (nodeTag r a) false).enqueueTx r (scaleWrite (s1.ring r) a)).showRing r).checkCond1 r
  else s.wrpRefuse m r (WRP_RING_CMD r) v).done

/-! ## HELLO -/

/-- An unassigned node at position `p` of a ring of `total` nodes (R116): a lost mapped position is given its address and
verified, and condition 1 of R27 is checked; every other node is a stranger. (DEDUCED: log entry 29) -/
def State.unassigned (s : State) (r p total serial : Nat) : State :=
  let g := s.ring r
  if total = mapCount g ∧ (mapEntry g p).isSome ∧ (s.rnode r p).lost then
    ((s.enqueueTx r (addrTx 62 0)).enqueueTx r (identityRead (.verify serial) p)).checkCond1 r
  else s.stranger r serial

/-- HELLO_RECEIVE (R103, R116): both copies of one HELLO give the number of nodes of a closed ring; on a wrapped ring one
copy arrives, and the node is a stranger. One with UNASSIGNED and MASTER_LOST is acted on and not counted.
(DEDUCED: log entry 29) -/
def execHelloReceive (r : Fin 4) (port : Fin 2) (f : HelloFrame) (s0 : State) : Res :=
  let s := s0.endCounts r port f.hdr
  let g := s.ring r
  let serial := f.serial.toNat
  let hops := f.hdr.hops.toNat
  (if !frameValid (.hello f) then s
  else if g.step ≠ 7 ∨ !f.hstate.getLsbD 0 then
    (if g.step = 7 && !f.hstate.getLsbD 1 then s else s.count (WRP_RING_CNT1 r) 15 0 1)
  else if g.wrapped then s.stranger r serial
  else match g.hello with
    | some (sr, q, p, h) =>
      if sr = serial ∧ q = f.hdr.seq.toNat ∧ p ≠ port.val then
        let up := if port.val = 0 then hops else h
        let s1 := s.setRing r { g with hello := none }
        s1.unassigned r (up + 1) (h + hops + 1) serial
      else s.setRing r { g with hello := some (serial, f.hdr.seq.toNat, port.val, hops) }
    | none => s.setRing r { g with hello := some (serial, f.hdr.seq.toNat, port.val, hops) }).done

/-! ## Pass mode -/

/-- The header after a hop in pass mode: HOPS unchanged, CORR maintained where TIMED is set (R80, R97), HCRC formed again. -/
def passHdr (h : FrameHdr) (residence : Time) (stomp : Bool) : FrameHdr :=
  reHcrc h { h with corr := if h.timed then h.corr + residence else h.corr, stomp := h.stomp || stomp }

/-- A machine demand is latched: SPB is latched by a source other than router, Bough and Trunk
(R276, R288). -/
def State.machineDemand (s : State) : Bool := s.spb && Nat.land (s.reg SAF_LATCH).toNat 0x38FFFF != 0

/-- The frame as a module in pass mode forwards it (R97, R288). -/
def State.passFrame (s : State) (residence : Time) (f : WarpFrame) : WarpFrame :=
  mapHdr (fun h => passHdr h residence (frameType f == 0x01 && s.machineDemand)) f

/-- A valid COLLECT, CYCLE or SYNC frame (R269). -/
def ringTraffic (f : WarpFrame) : Bool :=
  frameValid f && (frameType f == 0x01 || frameType f == 0x02 || frameType f == 0x03)

/-- PASS_FORWARD (R97); that ring traffic has passed is kept for R269. -/
def execPassForward (r : Fin 4) (dir : Dir) (residence : Time) (f : WarpFrame) (s : State) : Res :=
  (if (s.ring r).step = 8 then
    let s1 := s.emit (.passTx r dir (s.passFrame residence f))
    { s1 with gft := { s1.gft with passed := s1.gft.passed || ringTraffic f } }
  else s).done

end Sys2Proof.Machine
end

