-- ==== Sys2Proof/Machine/Nodes.lean ====
section
/-! DEFINITION. A compatible node (R2): forwarding, the safe-block symbol, what it holds and executes, status records, sync,
link registers, HELLO, breaks, and the lost master (R73 to R94, R101, R104, R108 to R117, R192 to R194). -/

namespace Sys2Proof.Machine

/-- The node at position `p` of ring `r`. -/
def State.node (s : State) (r p : Nat) : Node := Sparse.get (fun _ => Node.fresh NodeMake.none) s.nodes (64 * r + p)

/-- The state with a node replaced. -/
def State.setNode (s : State) (r p : Nat) (n : Node) : State :=
  { s with nodes := Sparse.set (fun _ => Node.fresh NodeMake.none) s.nodes (64 * r + p) n }

/-- A 16-bit counter, saturating. -/
def cnt16 (n : Nat) : Nat := satAdd 65535 n 1

/-! ## Sending -/

/-- The line out of a node's port. -/
def nodeLine (r p port : Nat) : Nat := 8 + 2 * (64 * r + p) + port

/-- A node sends a frame out of a port, its own or one it passes on; a wrap point at that port sends the turned copy out of the other
(R108). -/
def State.nodeSend (s : State) (r p port : Nat) (own : Bool) (f : WarpFrame) : State :=
  let send := fun (s : State) (q : Nat) => s.sendLine (nodeLine r p q) own f (.nodeTx r p q f) (.nodeResume r p q)
  let s1 := send s port
  if (s.node r p).turned.getLsbD port then send s1 (1 - port) else s1

/-- A node sends a block out of a port, with its turned copy (R68, R78, R108). -/
def State.nodeSendBlock (s : State) (r p port : Nat) (control : Bool) (b : BitVec 64) : State :=
  let s1 := s.emit (.nodeBlock r p port control b)
  if (s.node r p).turned.getLsbD port then s1.emit (.nodeBlock r p (1 - port) control b) else s1

/-- The header a hop further (R73, R74, R80): HOPS incremented, CORR maintained where TIMED is set, STOMP set for an invalid
frame, HCRC formed again. -/
def hopHdr (h : FrameHdr) (residence : Time) (stomp : Bool) : FrameHdr :=
  reHcrc h { h with hops := h.hops + 1, corr := if h.timed then h.corr + residence else h.corr, stomp := h.stomp || stomp }

/-! ## BLOCKED and HOLD -/

/-- Every target in HOLD, nothing still to come. -/
def holdLegs (n : Node) : Node := { n with legs := [], chosen := [], hold := true, prov := false, tHold := 255 }

/-- The node enters BLOCKED (R79): no permit held before the demand releases it (R85). -/
def enterBlocked (n : Node) : Node := { holdLegs n with blocked := true, permCw := none, permCcw := none }

/-- A block outside a frame at a node (R68, R78, R79): a BLK block blocks the node and passes; IDLE blocks may be dropped; every other
block passes, and is counted where it is a data block or invalid. (DEDUCED: log entry 30) -/
def State.nodeBlock (s : State) (r p port : Nat) (control : Bool) (b : BitVec 64) : State :=
  let n := s.node r p
  if control && isBlk b then
    (s.setNode r p (enterBlocked { n with blks := cnt16 n.blks })).nodeSendBlock r p (1 - port) true b
  else if control && blockType b == 0x1E then s
  else if control && !blockBad b then s.nodeSendBlock r p (1 - port) true b
  else (s.setNode r p { n with invalid := cnt16 n.invalid }).nodeSendBlock r p (1 - port) control b

/-! ## Mandates and the master timer -/

/-- The mandate is lower than MAND_HI (R83); while MAND_HI is undefined none is. (DEDUCED: log entry 30) -/
def lowMandate (n : Node) (m : Nat) : Bool := n.mandHi != 0 && newer n.mandHi m

/-- A frame of the master restarts the timer and ends MASTER_LOST (R117). -/
def restartMaster (n : Node) (m : Nat) : Node := if lowMandate n m then n else { n with lost := false, agreed := false }

/-! ## Forwarding -/

/-- A node takes its near port from its first valid frame (R96). -/
def takePort (n : Node) (dir : Dir) (port : Nat) : Node :=
  match n.near with
  | some _ => n
  | none => { n with near := some (match dir with
      | .cw => port
      | .ccw => 1 - port) }

/-- A frame on the port that its direction does not belong to is a returning frame (R96). -/
def wrongPort (n : Node) (h : FrameHdr) (port : Nat) : Bool :=
  match n.near with
  | some x => h.dirOk && (match h.dir with
      | .cw => port != x
      | .ccw => port == x)
  | none => false

/-- Counts of a received frame (R73): stomped by another, or invalid here. (DEDUCED: log entry 30) -/
def countFrame (n : Node) (f : WarpFrame) (h : FrameHdr) : Node :=
  if h.stomp then { n with stomped := cnt16 n.stomped }
  else if frameValid f then n
  else { n with invalid := cnt16 n.invalid, errRec := min 255 (n.errRec + 1) }

/-- A DST that is reserved (R71): the frame is forwarded and not processed. -/
def dstReserved (h : FrameHdr) : Bool := decide (41 ≤ h.dst.toNat) && decide (h.dst.toNat ≤ 61)

/-- The frame is one that its own row sends on: a COLLECT frame with this node's record, a valid MGMT frame to it with its reply. -/
def ownRow (n : Node) (f : WarpFrame) : Bool :=
  match f with
  | .collect x => n.addr != 62 && !dstReserved x.hdr
  | .mgmt x => x.hdr.dst.toNat == n.addr && frameValid f
  | _ => false

/-- The frame comes from the master (R117). -/
def masterFrame : WarpFrame → Bool
  | .cycle _ => true
  | .collect _ => true
  | .sync _ => true
  | .mgmt _ => true
  | _ => false

/-- A HELLO frame that this node originated (R74). -/
def ownHello (n : Node) : WarpFrame → Bool
  | .hello f => f.serial == n.make.serial
  | _ => false

/-- A frame of the master that is valid restarts the node's master timer. -/
def masterSeen (n : Node) (f : WarpFrame) (h : FrameHdr) : Node :=
  if frameValid f && masterFrame f then restartMaster n h.mandate.toNat else n

/-- A valid MGMT frame of a lower mandate to another node is counted as it passes (R83). -/
def lowPassing (n : Node) (f : WarpFrame) : Node :=
  match f with
  | .mgmt x => if frameValid f && lowMandate n x.hdr.mandate.toNat && x.hdr.dst.toNat != n.addr && x.hdr.dst.toNat != 63 then
      { n with low := cnt16 n.low } else n
  | _ => n

/-- A valid frame gives a node its near port. -/
def portSeen (n : Node) (f : WarpFrame) (h : FrameHdr) (port : Nat) : Node := if frameValid f then takePort n h.dir port else n

/-- A frame goes on out of the other port (R74, R109), discarded where HOPS would pass 63. -/
def State.passOn (s : State) (r p port : Nat) (residence : Time) (stomp : Bool) (f : WarpFrame) (h : FrameHdr) : State :=
  if h.hops = 63 then s else s.nodeSend r p (1 - port) false (mapHdr (fun h => hopHdr h residence stomp) f)

/-- NODE_RESET (R82). -/
def execNodeReset (r : Fin 4) (p : Fin 64) (make : NodeMake) (s : State) : Res := (s.setNode r p (Node.fresh make)).done

/-- NODE_FRAME_RECEIVE (R73, R74): validity, counts, and forwarding out of the other port, except past 63 hops and for its own
HELLO. A returning frame is forwarded by R109 alone (R96). -/
def execNodeFrameReceive (r : Fin 4) (p : Fin 64) (port : Fin 2) (residence : Time) (f : WarpFrame) (s : State) : Res :=
  (match f, frameHdr f with
   | .block c b, _ => s.nodeBlock r p port c b
   | f, some h =>
     let n := s.node r p
     if wrongPort n h port then s.passOn r p port residence false f h
     else
       let s1 := s.setNode r p (lowPassing (masterSeen (portSeen (countFrame n f h) f h port) f h) f)
       if ownHello n f || ownRow n f then s1 else s1.passOn r p port residence (!frameValid f) f h
   | _, none => s).done

/-- NODE_RETURNING_FRAME (R109): forwarded out of the other port with HOPS and CORR, and no other change. -/
def execNodeReturningFrame (r : Fin 4) (p : Fin 64) (port : Fin 2) (residence : Time) (f : WarpFrame) (s : State) : Res :=
  (match f, frameHdr f with
   | .block c b, _ => s.nodeBlock r p port c b
   | f, some h => s.passOn r p port residence false f h
   | _, none => s).done

/-- NODE_BLK_RECEIVE (R68, R79): a block outside a frame. -/
def execNodeBlkReceive (r : Fin 4) (p : Fin 64) (block : BlockIn) (s : State) : Res :=
  (s.nodeBlock r p block.port block.control block.bits).done

/-! ## Sets -/

/-- The SAFE word is a valid permit (R85). -/
def permitOk (f : CycleFrame) : Bool :=
  let w := f.safe.toNat
  w % 65536 == 0xA55A && w / 65536 % 65536 == 0x5AA5 && w / 2 ^ 32 % 65536 == f.hdr.seq.toNat

/-- The permit of a cycle frame: held in its direction, or the node enters BLOCKED. -/
def safeWord (n : Node) (f : CycleFrame) : Node :=
  if permitOk f then
    let x := some (f.hdr.seq.toNat, f.hdr.mandate.toNat)
    match f.hdr.dir with
    | .cw => { n with permCw := x }
    | .ccw => { n with permCcw := x }
  else enterBlocked n

/-- The two copies of one cycle frame that release BLOCKED are held (R85). -/
def permitPair (n : Node) : Bool :=
  match n.permCw, n.permCcw with
  | some (q, m), some (q', m') => q == q' && m == m' && !lowMandate n m
  | _, _ => false

/-- Fields of an entry (R191). -/
def entryTime (e : Entry) : Nat := e.time.toNat / 8192 * 8192

/-- DUTY. -/
def entryDuty (e : Entry) : Nat := e.time.toNat % 8192

/-- TGT. -/
def entryTgt (e : Entry) : Nat := nfld e.ctrl.toNat 10 8

/-- TYPE: 0 HOLD, 1 EDGE, 2 PERIODIC. -/
def entryType (e : Entry) : Nat := nfld e.ctrl.toNat 12 11

/-- PARAM. -/
def entryParam (e : Entry) : Nat := nfld e.ctrl.toNat 31 14

/-- An entry that a node keeps (R84, R192); `now` is the node's TB0. -/
def entryOk (n : Node) (f : CycleFrame) (off now : Nat) (e : Entry) : Bool :=
  let c := e.ctrl.toNat
  nfld c 5 0 == n.addr && nbit c 13 == (off == 2) && nfld c 47 32 == f.hdr.seq.toNat && nfld c 63 48 == f.hdr.mandate.toNat
    && decide (((tdiff (entryTime e) now).natAbs : Int) ≤ maxTime) && entryType e != 3 && decide (entryTgt e < n.make.ntgt)
    && (match entryType e with
        | 2 => entryParam e != 0
        | 1 => entryDuty e == 0 && entryParam e < 2
        | _ => entryDuty e == 0 && entryParam e == 0)

/-- The entries of a set stand in ascending TIME (R192). -/
def ascending : List Entry → Bool
  | e :: e' :: es => decide (0 ≤ tdiff (entryTime e') (entryTime e)) && ascending (e' :: es)
  | _ => true

/-- A set received against the sets held (R86 rules 1 to 8); the late set of R31 is discarded. -/
def offerSet (n : Node) (x : HeldSet) : Node :=
  let late : Bool := match n.slot with
    | some t => decide (tdiff x.slot t ≤ 0)
    | none => false
  if late then (if x.firm then { n with late := cnt16 n.late, lateRec := min 255 (n.lateRec + 1) } else n)
  else if lowMandate n x.mand then { n with low := cnt16 n.low }
  else
    let same := fun (h : HeldSet) => h.tgt == x.tgt && h.slot == x.slot
    let put : Node := { n with held := x :: n.held.filter (fun h => !same h) }
    match n.held.find? same with
    | none => put
    | some h =>
      if x.mand ≠ h.mand then
        (if newer x.mand h.mand then { put with sup := cnt16 n.sup } else { n with sup := cnt16 n.sup })
      else if h.firm && !x.firm then { n with sup := cnt16 n.sup }
      else if !h.firm && x.firm then put
      else if x.seq = h.seq then { n with dup := cnt16 n.dup }
      else if newer x.seq h.seq then put
      else { n with sup := cnt16 n.sup }

/-- The sets of one section, by target (R84, R192). (DEDUCED: log entry 30) -/
def takeSection (n : Node) (f : CycleFrame) (now : Nat) (sec : Section) : Node :=
  if sec.node.toNat ≠ n.addr ∨ sec.offset < 2 ∨ 5 < sec.offset then n else
  let good := sec.entries.filter (entryOk n f sec.offset now)
  let n1 : Node := { n with bad := satAdd 65535 n.bad (sec.entries.length - good.length) }
  let slot := (f.b2.toNat + (sec.offset - 2) * ns f.tcyc.toNat) % 2 ^ 64
  (upTo 0 n.make.ntgt).foldl (fun n t =>
      let es := good.filter (fun e => entryTgt e == t)
      if es.isEmpty then n
      else if !ascending es then { n with bad := cnt16 n.bad }
      else offerSet n { tgt := t, slot := slot, firm := sec.offset == 2, seq := f.hdr.seq.toNat, mand := f.hdr.mandate.toNat,
                        entries := es }) n1

/-- NODE_CYCLE_FRAME_RECEIVE (R71, R83, R84, R86, R117). -/
def execNodeCycleFrameReceive (r : Fin 4) (p : Fin 64) (f : CycleFrame) (s : State) : Res :=
  let n := s.node r p
  (if !frameValid (.cycle f) || dstReserved f.hdr then s
  else if lowMandate n f.hdr.mandate.toNat then s.setNode r p { n with low := cnt16 n.low }
  else
    let n1 := safeWord { restartMaster n f.hdr.mandate.toNat with tcyc := f.tcyc.toNat } f
    s.setNode r p (f.sections.foldl (fun n x => takeSection n f (s.now 0) x) n1)).done

/-- A set that is one HOLD entry. -/
def isHold (h : HeldSet) : Bool := match h.entries with
  | [e] => entryType e == 0
  | _ => false

/-- A set may run (R32, R104): after HOLD only a firm one begins, without SYNC_OK only a HOLD. -/
def mayRun (n : Node) (h : HeldSet) : Bool := (n.syncOk || isHold h) && (h.firm || !n.tHold.getLsbD h.tgt)

/-- The highest mandate of the sets and MAND_HI. -/
def topMandate (n : Node) (l : List HeldSet) : Nat :=
  l.foldl (fun a h => if a = 0 || newer h.mand a then h.mand else a) n.mandHi

/-- A blocked node leaves BLOCKED at a decision on a permit pair (R85); from there it resumes by R32. -/
def blockedExit (n : Node) : Node := if n.blocked && permitPair n then { n with blocked := false } else n

/-- NODE_SLOT_DECISION (R31, R85, R86): the held set of each target is chosen for the slot; a target without one goes into
HOLD (R32). Where the held sets of two targets differ in mandate, those of the highest mandate run.
(DEDUCED: log entry 30) -/
def execNodeSlotDecision (r : Fin 4) (p : Fin 64) (slot : Time) (s : State) : Res :=
  let n := blockedExit (s.node r p)
  let t := slot.toNat
  let cand := if n.blocked then [] else n.held.filter (fun h => h.slot == t && mayRun n h)
  let top := topMandate n cand
  let run := cand.filter (fun h => h.mand == top)
  let rest := n.held.filter (fun h => decide (0 < tdiff h.slot t) && !newer top h.mand)
  let has := run.foldl (fun (a : BitVec 8) h => bvPut a h.tgt true) 0
  let later := n.held.filter (fun h => decide (0 < tdiff h.slot t))
  (s.setNode r p { n with slot := some t, chosen := run, held := if n.blocked then later else rest, mandHi := top
                          tHold := n.tHold ||| ~~~has }).done

/-! ## Execution -/

/-- The level of a PERIODIC pattern at time `t` (R194). -/
def patLevel (e : Entry) (t : Nat) : Bool :=
  let per := ns (entryParam e * 8)
  let high := entryDuty e * entryParam e / 128 * 8192
  decide ((tdiff t (entryTime e)) % (per : Int) < (high : Int))

/-- 64 ns, the lead of the adoption (R193). -/
def adoptLead : Nat := ns 64

/-- The leg as it stands at time `t`, with its pattern stopped. -/
def stopPat (l : Leg) (t : Nat) : Leg := match l.pat with
  | some e => { l with level := patLevel e t, pat := none }
  | none => l

/-- An EDGE or HOLD entry executes (R193). -/
def runEntry (l : Leg) (e : Entry) : Leg :=
  if entryType e = 0 then { l with hold := true, pat := none }
  else { l with hold := false, level := nbit (entryParam e) 0, pat := none }

/-- The set of a target becomes current at A_j (R193, R194): a PERIODIC entry drives from there on; EDGE and HOLD entries
before A_j execute at once; no entry of A_(j+1) or later ever executes. -/
def adoptLeg (l : Leg) (h : HeldSet) (a next : Nat) : Leg :=
  let l1 := stopPat { l with todo := [] } a
  let l2 := match h.entries.find? (fun e => entryType e == 2 && decide (tdiff (entryTime e) next < 0)) with
    | some e => { l1 with hold := false, pat := some e }
    | none => l1
  let ev := h.entries.filter (fun e => entryType e != 2 && decide (tdiff (entryTime e) next < 0))
  let due := ev.filter (fun e => decide (tdiff (entryTime e) a < 0))
  { due.foldl runEntry l2 with todo := ev.filter (fun e => !decide (tdiff (entryTime e) a < 0)) }

/-- A HOLD at the start of a slot for a target without a set (R32). -/
def holdAt (t : Nat) : Entry := { time := BitVec.ofNat 64 (t / 8192 * 8192), ctrl := 0 }

/-- The leg of a target. -/
def legOf (n : Node) (t : Nat) : Leg := Sparse.get (fun _ => Leg.reset) n.legs t

/-- The node with a leg replaced. -/
def setLeg (n : Node) (t : Nat) (l : Leg) : Node := { n with legs := Sparse.set (fun _ => Leg.reset) n.legs t l }

/-- A set leaves its target in HOLD (R32): it has a HOLD entry. -/
def holds (h : HeldSet) : Bool := h.entries.any (fun e => entryType e == 0)

/-- The adoption of a slot on one target. What follows HOLD begins with a firm set (R32). -/
def adoptTgt (n : Node) (slot : Nat) (t : Nat) : Node :=
  let l := legOf n t
  match n.chosen.find? (fun h => h.tgt == t) with
  | some h =>
    let n1 := setLeg n t (adoptLeg l h (slot + 2 ^ 64 - adoptLead) (slot + ns n.tcyc + 2 ^ 64 - adoptLead))
    let n2 : Node := { n1 with tHold := if holds h then bvPut n1.tHold t true else if h.firm then bvPut n1.tHold t false else n1.tHold }
    if t = 0 then { n2 with xseq := h.seq, prov := !h.firm } else n2
  | none => if l.hold then n else setLeg n t { l with todo := [holdAt slot] }

/-- NODE_ADOPTION (R193). -/
def execNodeAdoption (r : Fin 4) (p : Fin 64) (slot : Time) (s : State) : Res :=
  let n := s.node r p
  (if n.blocked || n.slot != some slot.toNat then s
  else s.setNode r p { (upTo 0 n.make.ntgt).foldl (fun n t => adoptTgt n slot.toNat t) n with chosen := [], hold := n.chosen.isEmpty }).done

/-- NODE_ENTRY_DUE (R193): the next EDGE or HOLD entry of a target. -/
def execNodeEntryDue (r : Fin 4) (p : Fin 64) (tgt : Fin 8) (s : State) : Res :=
  let n := s.node r p
  let l := legOf n tgt
  (match l.todo with
   | e :: es => s.setNode r p (setLeg n tgt { runEntry l e with todo := es })
   | [] => s).done

/-! ## Status records -/

/-- STATE of R89. -/
def nodeState (n : Node) : Nat :=
  b2n n.blocked + 2 * b2n (permitPair n && n.lock == 3) + 4 * b2n n.hold + 8 * b2n n.prov + 16 * b2n n.bypass
    + 32 * b2n (n.lock != 3) + 64 * b2n n.syncOk + 128 * b2n (n.nfault != 0)

/-- TOFF, saturating. -/
def toffWord (n : Node) : Word := wordOfInt (clampI (-2147483648) 2147483647 n.toff)

/-- A single-precision scale (R93) times a raw measurement in Q3.28 (R89), rounded down and clamped: the sign, the 24-bit significand
and the exponent of the scale. None for an infinite scale or none at all. (DESIGN CHOICE: log entry 31) -/
def measWord (scale raw : Word) : Option Word :=
  let e := Sys2Proof.fld scale 30 23
  let m := Sys2Proof.fld scale 22 0 + (if e = 0 then 0 else 2 ^ 23)
  if e = 255 then none else
  let x : Int := (if Sys2Proof.bit scale 31 then -1 else 1) * ((m * 2 ^ max e 1 : Nat) : Int) * raw.toInt
  some (wordOfInt (clampI (-2147483648) 2147483647 (x / 2 ^ 122)))

/-- MEAS word `i` (R89): 0 before SYNC_OK, beyond NMEAS and for a scale of 0; free for a scale that is no number.
(DESIGN CHOICE: log entry 31) -/
def measOf (n : Node) (raw : List Word) (free i : Nat) : Word :=
  let scale := Sparse.get (fun _ => (0 : Word)) n.scale i
  if n.syncOk && decide (i < n.make.nmeas) && scale != 0 then
    (match measWord scale (nth raw i 0) with
     | some w => w
     | none => Config.freeWord (free + 3 + i))
  else 0

/-- The words of a status record before RCRC (R89). The maker's words are free. (DESIGN CHOICE: log entry 31) -/
def recordBody (n : Node) (raw : List Word) (temp : BitVec 16) (free : Nat) : List Word :=
  [w32 (n.addr + n.make.role % 4 * 64 + nodeState n * 256 + n.xseq % 65536 * 65536),
   w32 (n.mandHi + n.lateRec * 65536 + n.errRec * 2 ^ 24)]
  ++ (upTo 0 8).map (measOf n raw free)
  ++ [w32 (temp.toNat + n.nfault * 65536), toffWord n, Config.freeWord free, Config.freeWord (free + 1), Config.freeWord (free + 2)]

/-- The whole record (R89). -/
def statusRecord (n : Node) (raw : List Word) (temp : BitVec 16) (free : Nat) : List Word :=
  let b := recordBody n raw temp free
  b ++ [w32 (crc32c (b.flatMap (fun x => natLe 4 x.toNat)))]

/-- The port out of which frames of a direction leave: clockwise out of the far port (R96). -/
def outPort (n : Node) (d : Dir) : Nat :=
  let near := match n.near with
    | some x => x
    | none => 0
  match d with
  | .cw => 1 - near
  | .ccw => near

/-- The COLLECT frame as a node sends it on with its record in front of the EOF (R73, R88): 8 blocks more, FCRC over the new body, and
stomped where it was invalid. -/
def appended (f : CollectFrame) (residence : Time) (rec_ : List Word) : CollectFrame :=
  let g : CollectFrame := { f with records := f.records ++ [rec_] }
  let h := hopHdr f.hdr residence (!frameValid (.collect f))
  { g with hdr := reHcrc f.hdr { h with len := f.hdr.len + 8, fcrc := fcrcOf (.collect g) } }

/-- NODE_COLLECT_APPEND (R71, R88, R89): a node with an address appends its record, and stomps an invalid frame. -/
def execNodeCollectAppend (r : Fin 4) (p : Fin 64) (residence : Time) (f : CollectFrame) (raw : List Word) (x : NodeInputs) (s : State) :
    Res :=
  let n : Node := { s.node r p with nfault := x.nfault.toNat, bypass := x.closed }
  (if n.addr = 62 || f.hdr.hops == 63 || dstReserved f.hdr then s
  else
    let s1 : State := { s with freeCtr := s.freeCtr + 11 }
    (s1.setNode r p { n with lateRec := 0, errRec := 0 }).nodeSend r p (outPort n f.hdr.dir) false
      (.collect (appended f residence (statusRecord n raw x.temp s.freeCtr)))).done

/-! ## Sync -/

/-- SYNC_OK after an exchange with offset `o` (R104). -/
def syncJudge (n : Node) (o : Int) : Node :=
  let n1 : Node := { n with toff := o }
  if ns 4 < o.natAbs then { n1 with syncOk := false, syncRun := 0 }
  else if o.natAbs ≤ ns 1 then
    { n1 with syncRun := min 16 (n.syncRun + 1), syncOk := n.syncOk || decide (16 ≤ n.syncRun + 1) }
  else { n1 with syncRun := 0 }

/-- An exchange at a node (R104): from both copies of one SEQ, or from one direction with the delay last derived. -/
def syncUse (n : Node) (path : Int) : Node :=
  match n.syncCw, n.syncCcw with
  | some (q, sc, ac), some (q', sd, ad) =>
    if q = q' then
      let o := (tdiff ac sc + tdiff ad sd + path) / 2
      let up := tdiff sc ac + o
      syncJudge { n with dUp := some up, dDn := some (path - up) } o
    else n
  | _, _ => n

/-- With one direction only (R104): o = A + D − s. -/
def syncOne (n : Node) (d : Dir) (a stamp : Nat) : Node :=
  match d, n.dUp, n.dDn with
  | .cw, some up, _ => syncJudge n (tdiff a stamp + up)
  | .ccw, _, some dn => syncJudge n (tdiff a stamp + dn)
  | _, _, _ => n

/-- The copy held of a direction. -/
def syncHeld (n : Node) : Dir → Option (Nat × Nat × Nat)
  | .cw => n.syncCw
  | .ccw => n.syncCcw

/-- The other direction. -/
def otherDir : Dir → Dir
  | .cw => .ccw
  | .ccw => .cw

/-- The exchange before has come from one direction only: the copy held of direction `d` has an older SEQ than the one that arrives, and
the other direction's copy never came. It is used with the delay last derived. (DEDUCED: log entry 30) -/
def syncSingle (n : Node) (d : Dir) (seq : Nat) : Node :=
  match syncHeld n d with
  | some (q, stamp, a) =>
    let paired : Bool := match syncHeld n (otherDir d) with
      | some (q', _) => q' == q
      | none => false
    if q = seq ∨ paired then n else syncOne n d a stamp
  | none => n

/-- NODE_SYNC_RECEIVE (R71, R83, R90, R104, R112): a node with both ports in block lock uses both copies of one exchange, or an
exchange of which one copy came once the next begins; a node with one port only uses each copy. (DEDUCED: log entry 30) -/
def execNodeSyncReceive (r : Fin 4) (p : Fin 64) (stamp : Time) (f : SyncFrame) (s : State) : Res :=
  let n := s.node r p
  (if !frameValid (.sync f) || dstReserved f.hdr then s
  else if lowMandate n f.hdr.mandate.toNat then s.setNode r p { n with low := cnt16 n.low }
  else
    let a := (f.origin + f.hdr.corr).toNat
    let x := some (f.hdr.seq.toNat, stamp.toNat, a)
    let n0 := restartMaster (if n.lock = 3 then syncSingle n f.hdr.dir f.hdr.seq.toNat else n) f.hdr.mandate.toNat
    let n1 : Node := match f.hdr.dir with
      | .cw => { n0 with syncCw := x }
      | .ccw => { n0 with syncCcw := x }
    s.setNode r p (if n.lock = 3 then syncUse n1 f.path.toInt else syncOne n1 f.hdr.dir a stamp.toNat)).done

/-- NODE_SYNC_TIMEOUT (R104). -/
def execNodeSyncTimeout (r : Fin 4) (p : Fin 64) (s : State) : Res :=
  (s.setNode r p { s.node r p with syncOk := false, syncRun := 0 }).done

/-! ## Link registers -/

/-- STATE of NODE_STATE (R93): as in the status record, and 0 after reset until the node has taken its first valid frame.
(DESIGN CHOICE: log entry 31) -/
def shownState (n : Node) : Nat := if n.near.isNone then 0 else nodeState n

/-- A link register as it reads (R93); none where the node implements none. (DESIGN CHOICE: log entry 31) -/
def nodeReg (n : Node) (a : Nat) : Option Word :=
  if a = 0x00 then some (w32 (n.make.maker.toNat * 65536 + n.make.product.toNat))
  else if a = 0x04 then some n.make.rev
  else if a = 0x08 then some (lo32 n.make.serial.toNat)
  else if a = 0x0C then some (hi32 n.make.serial.toNat)
  else if a = 0x10 then some (w32 (n.make.nmeas * 65536 + n.make.maxEnt * 256 + n.make.ntgt * 16 + n.make.role % 4))
  else if a = 0x14 then some (w32 n.addr)
  else if a = 0x18 then some (w32 (n.mandHi * 256 + shownState n))
  else if a = 0x1C then some (w32 (n.stomped * 65536 + n.invalid))
  else if a = 0x20 then some (w32 (n.low * 65536 + n.late))
  else if a = 0x24 then some (w32 (n.sup * 65536 + n.dup))
  else if a = 0x28 then some (w32 (n.blks * 65536 + n.bad))
  else if a = 0x2C then some (toffWord n)
  else if 0x40 ≤ a ∧ a < 0x60 ∧ a % 4 = 0 then some (Sparse.get (fun _ => 0) n.scale ((a - 0x40) / 4))
  else none

/-- A read clears the counters it returns (R93). (DESIGN CHOICE: log entry 31) -/
def nodeRegRead (n : Node) (a : Nat) : Node :=
  if a = 0x1C then { n with stomped := 0, invalid := 0 }
  else if a = 0x20 then { n with low := 0, late := 0 }
  else if a = 0x24 then { n with sup := 0, dup := 0 }
  else if a = 0x28 then { n with blks := 0, bad := 0 }
  else n

/-- Addresses of `k` words from `a` on. -/
def wordAddrs (a : Nat) (k : Nat) : List Nat := (upTo 0 k).map (fun i => a + 4 * i)

/-- NODE_ADDR after a write of `v` (R101): broadcast and DST 62 by HOPS and direction, unicast the value itself; none where
the node leaves its address and refuses. -/
def addrWrite (n : Node) (f : MgmtFrame) (v : Nat) : Option Nat :=
  if !n.held.isEmpty then none
  else if f.hdr.dst.toNat = 63 ∨ f.hdr.dst.toNat = 62 then
    let h := f.hdr.hops.toNat
    match f.hdr.dir with
    | .cw => if v = 0 then some (if h + 1 ≤ 40 then h + 1 else 62) else some n.addr
    | .ccw => if 1 ≤ v ∧ v ≤ 40 then some (if h < v then v - h else 62) else some n.addr
  else if (1 ≤ v ∧ v ≤ 40) ∨ v = 62 then some v
  else none

/-- A WRITE of the words `ws` from `a` on (R93): the node after it and the STATUS; a register that cannot be written
refuses the whole. (DESIGN CHOICE: log entry 31) -/
def linkWrite (n : Node) (f : MgmtFrame) (a : Nat) (ws : List Word) : Node × Nat :=
  if a = 0x14 ∧ ws.length = 1 then
    match addrWrite n f (nth ws 0 0).toNat with
    | some x => ({ n with addr := x }, 1)
    | none => (n, 3)
  else if 0x40 ≤ a ∧ a % 4 = 0 ∧ a + 4 * ws.length ≤ 0x60 then
    ({ n with scale := Sparse.setList (fun _ => 0) n.scale ((a - 0x40) / 4) ws }, 1)
  else if (wordAddrs a ws.length).all (fun x => (nodeReg n x).isSome) then (n, 3)
  else (n, 2)

/-- The answer of a node to a unicast MGMT frame (R92): the node, STATUS, and the reply words. Registers of the maker's
region answer as the maker documents them, which this model leaves free; the bypass register is the one the spec describes
(R219). (DEDUCED: log entry 30) -/
def State.nodeServe (s : State) (n : Node) (f : MgmtFrame) (inTime : Bool) : Node × Nat × List Word :=
  let a := (nth f.req 0 0).toNat
  let ws := f.req.drop 1
  let k := f.rpl.length
  let none_ := List.replicate k (0 : Word)
  if f.op = 1 then
    if !inTime then (n, 4, none_)
    else if 0x10000 ≤ a then
      (n, 1 + (Config.freeWord s.freeCtr).toNat % 2, (upTo 0 k).map (fun i => Config.freeWord (s.freeCtr + i)))
    else if (wordAddrs a k).all (fun x => (nodeReg n x).isSome) then
      ((wordAddrs a k).foldl nodeRegRead n, 1, (wordAddrs a k).map (fun x => (nodeReg n x).getD 0))
    else (n, 2, none_)
  else if f.op = 2 then
    if lowMandate n f.hdr.mandate.toNat then (n, 3, none_)
    else if !inTime then (n, 4, none_)
    else if 0x10000 ≤ a then
      if a = (s.reg WVR_BYP_ADDR).toNat then
        (if ws = [s.reg WVR_BYP_CLOSE] ∨ ws = [s.reg WVR_BYP_OPEN] then (n, 1, none_) else (n, 3, none_))
      else (n, 1 + (Config.freeWord s.freeCtr).toNat % 3, none_)
    else
      let (n1, st) := linkWrite n f a ws
      (n1, st, none_)
  else (n, 2, none_)

/-- A WRITE of NODE_ADDR by broadcast or DST 62 in the direction that leaves the address as it is (R101): the node executes nothing of
it, so that it is not remembered. (DEDUCED: log entry 30) -/
def addrIdle (f : MgmtFrame) : Bool :=
  let v := (nth f.req 1 0).toNat
  (nth f.req 0 0).toNat == 0x14 && f.req.length == 2 && (f.hdr.dst.toNat == 63 || f.hdr.dst.toNat == 62)
    && (match f.hdr.dir with
        | .cw => v != 0
        | .ccw => v == 0 || decide (40 < v))

/-- The answer to a WRITE that the node has already executed, among the last four it remembers (R92). -/
def remembered (n : Node) (f : MgmtFrame) : Option Nat :=
  (n.memo.find? (fun x => x.1 == f.hdr.seq.toNat && x.2.1 == f.hdr.mandate.toNat)).map (fun x => x.2.2)

/-- The frame as the addressee sends it on, with its reply and FCRC over it (R73, R92). -/
def mgmtReply (f : MgmtFrame) (st : Nat) (rpl : List Word) : WarpFrame :=
  let g : MgmtFrame := { f with status := BitVec.ofNat 8 st, rpl := rpl }
  .mgmt { g with hdr := reHcrc f.hdr { hopHdr f.hdr 0 false with fcrc := fcrcOf (.mgmt g) } }

/-- A WRITE that has been executed is remembered by SEQ and mandate, the last four (R92). -/
def memoed (n : Node) (f : MgmtFrame) (st : Nat) : Node :=
  if f.op = 2 && !addrIdle f then { n with memo := ((f.hdr.seq.toNat, f.hdr.mandate.toNat, st) :: n.memo).take 4 } else n

/-- NODE_MGMT_RECEIVE (R83, R92, R101): a unicast frame to the node is served and sent on with the reply; a broadcast WRITE is
executed. Frames of lower mandate are counted; their READs are served. One whose HOPS would pass 63 is discarded (R74).
(DEDUCED: log entry 30) -/
def execNodeMgmtReceive (r : Fin 4) (p : Fin 64) (inTime : Bool) (f : MgmtFrame) (s : State) : Res :=
  let n0 := s.node r p
  let low := lowMandate n0 f.hdr.mandate.toNat
  let n : Node := if low then { n0 with low := cnt16 n0.low } else restartMaster n0 f.hdr.mandate.toNat
  let dst := f.hdr.dst.toNat
  (if !frameValid (.mgmt f) then s
  else if dst = 63 then
    (if f.op = 2 && !low && (remembered n f).isNone then
      let (n1, st) := linkWrite n f (nth f.req 0 0).toNat (f.req.drop 1)
      s.setNode r p (memoed n1 f st)
    else s.setNode r p n)
  else if dst = n0.addr && f.hdr.hops != 63 then
    (match (if f.op = 2 then remembered n f else none) with
     | some st => (s.setNode r p n).nodeSend r p (outPort n f.hdr.dir) false (mgmtReply f st f.rpl)
     | none =>
       let (n1, st, rpl) := s.nodeServe n f inTime
       ((s.tickFree).setNode r p (memoed n1 f st)).nodeSend r p (outPort n f.hdr.dir) false (mgmtReply f st rpl))
  else s).done

/-! ## HELLO and the lost master -/

/-- HSTATE (R94). -/
def hState (n : Node) : Byte := BitVec.ofNat 8 (b2n (n.addr == 62) + 2 * b2n n.lost + 4 * b2n n.syncOk)

/-- NODE_HELLO_SEND (R76, R94): on both ports at once, unless the node holds a set for any slot. A node that does not know its near
port takes port 0 as near. (DEDUCED: log entry 30) -/
def execNodeHelloSend (r : Fin 4) (p : Fin 64) (s : State) : Res :=
  let n := s.node r p
  (if !n.held.isEmpty || !n.chosen.isEmpty then s
  else
    let near := match n.near with
      | some x => x
      | none => 0
    let f := fun (d : Dir) => formed (.hello {
      hdr := { modHdr r d 63 false n.hello n.mandHi with src := BitVec.ofNat 6 n.addr }
      nodeId := w32 (n.make.maker.toNat * 65536 + n.make.product.toNat), serial := n.make.serial, hstate := hState n
      mandHi := BitVec.ofNat 16 n.mandHi })
    ((s.setNode r p { n with hello := (n.hello + 1) % 65536 }).nodeSend r p (1 - near) true (f .cw)).nodeSend r p near true (f .ccw)).done

/-- NODE_MASTER_TIMEOUT (R117). -/
def execNodeMasterTimeout (r : Fin 4) (p : Fin 64) (s : State) : Res :=
  (s.setNode r p { s.node r p with lost := true }).done

/-- MASTER_LOST_AGREEMENT (R117). -/
def execMasterLostAgreement (r : Fin 4) (p : Fin 64) (s : State) : Res :=
  (if (s.node r p).lost then s.setNode r p { s.node r p with agreed := true } else s).done

/-! ## Breaks -/

/-- NODE_PORT_LOCK_LOSS (R108): the node becomes a wrap point at the port. -/
def execNodePortLockLoss (r : Fin 4) (p : Fin 64) (port : Fin 2) (s : State) : Res :=
  let n := s.node r p
  (s.setNode r p { n with lock := bvPut n.lock (port.val) false, turned := bvPut n.turned (port.val) true }).done

/-- NODE_BLOCK_LOCK_GAIN (R113): ONE_DIR follows the locks at once; turned copies go on. -/
def execNodeBlockLockGain (r : Fin 4) (p : Fin 64) (port : Fin 2) (s : State) : Res :=
  let n := s.node r p
  (s.setNode r p { n with lock := bvPut n.lock (port.val) true }).done

/-- NODE_WRAP_END (R113): 1 ms of block lock at the port ends its turned copies. -/
def execNodeWrapEnd (r : Fin 4) (p : Fin 64) (port : Fin 2) (s : State) : Res :=
  let n := s.node r p
  (if n.lock.getLsbD port then s.setNode r p { n with turned := bvPut n.turned (port.val) false } else s).done

end Sys2Proof.Machine
end

