-- ==== Sys2Proof/Machine/Engines.lean ====
section
/-! DEFINITION. A Heddle engine (R123 to R149): its memories, what a pass does from the cut to its commit, the hand-over unit
and the relay units at a commit (R227 to R241), the sorter's lane records (R214), and mirrored writes (R260). -/

namespace Sys2Proof.Machine

/-! ## Access -/

/-- Engine `e`. -/
def State.eng (s : State) (e : Nat) : Engine := Sparse.get (fun _ => Engine.reset) s.engines e

/-- The state with an engine replaced. -/
def State.setEng (s : State) (e : Nat) (x : Engine) : State :=
  { s with engines := Sparse.set (fun _ => Engine.reset) s.engines e x }

/-- A signal word as a pick reads it (R135): the output region from its shadow copy. -/
def sigGet (x : Engine) (w : Nat) : Word :=
  if w < 7168 then Sparse.get (fun _ => 0) x.sig w else Sparse.get (fun _ => 0) x.shadow w

/-- A signal word as a fabric read sees it (R135): the output region from its published copy. -/
def sigRead (x : Engine) (w : Nat) : Word :=
  if w < 7168 then Sparse.get (fun _ => 0) x.sig w else Sparse.get (fun _ => 0) x.pub w

/-- The engine with a signal word that a pick writes. -/
def sigPut (x : Engine) (w : Nat) (v : Word) : Engine :=
  if w < 7168 then { x with sig := Sparse.set (fun _ => 0) x.sig w v }
  else { x with shadow := Sparse.set (fun _ => 0) x.shadow w v }

/-- A committed state (R142). -/
def stGet (x : Engine) (i : Nat) : BitVec 48 := Sparse.get (fun _ => 0) x.st i

/-- The engine with a committed state written. -/
def stCommit (x : Engine) (i : Nat) (v : BitVec 48) : Engine := { x with st := Sparse.set (fun _ => 0) x.st i v }

/-- The engine with a state's shadow written, and its written bit set (R142). -/
def stPut (x : Engine) (i : Nat) (v : BitVec 48) : Engine :=
  { x with stNew := Sparse.set (fun _ => (none : Option (BitVec 48))) x.stNew i (some v) }

/-- Pick `i` of pattern memory. -/
def patGet (x : Engine) (i : Nat) : Nat := (Sparse.get (fun _ => (0 : BitVec 64)) x.pat i).toNat

/-- A coefficient of a bank. -/
def coefBank (x : Engine) (bank c : Nat) : Word := Sparse.get (fun _ => 0) x.coef (bank * 2048 + c)

/-- The active bank of engine `e` (R140). -/
def State.activeBank (s : State) (e : Nat) : Nat := s.fld (HDL_COEF_CTRL e) 12 12

/-- The window of engine `e` (R123). -/
def hdlBase (e : Nat) : Nat := 0x20000000 + e * 0x40000

/-- The engine runs in the sense of R126: ARMED or RUNNING. -/
def State.engRuns (s : State) (e : Nat) : Bool := s.fld (HDL_STATUS e) 1 0 != 0

/-- The members of the lock group of engine `e`, itself where it has none (R149). -/
def State.group (s : State) (e : Nat) : List Nat :=
  let g := s.fld (HDL_CTRL e) 10 8
  if g = 0 then [e] else (upTo 0 8).filter (fun x => s.fld (HDL_CTRL x) 10 8 == g)

/-- Fault 0x0304 of a refused write or request (R126). -/
def State.hdlRefuse (s : State) (e addr : Nat) (m : Master) : State :=
  (s.orReg (HDL_EVENTS e) 0x20).refuse 0x0304 e addr m

/-! ## Mirrored stores (R260) -/

/-- Firmware or the host makes the access. (DEDUCED: log entry 14) -/
def byUser : Master → Bool
  | .crown _ => true
  | .host _ _ _ => true
  | _ => false

/-- A standby refuses firmware and host writes to mirrored stores. -/
def State.mirrorBars (s : State) (m : Master) : Bool := s.standby && byUser m

/-- The refusal: fault 0x050A. -/
def State.mirrorRefuse (s : State) (addr : Nat) (m : Master) : State := s.refuse 0x050A 31 addr m

/-- A mirror queue that overflows is emptied, fault 0x050B is raised and a resync starts (R261). -/
def State.mirrorOverflow (s : State) : State :=
  if 4096 < s.gft.mirrorQ.length then
    (({ s with gft := { s.gft with mirrorQ := [], askedRs := true } } : State).orReg GFT_EVENTS 0x20).raise 0x050B 31
  else s

/-- An accepted write to a mirrored store on the active module is queued for the standby. -/
def State.mirror (s : State) (m : Master) (addr : Nat) (v : Word) : State :=
  if s.duplex && s.role == 4 && byUser m then
    ({ s with gft := { s.gft with mirrorQ := s.gft.mirrorQ ++ [(w32 addr, v)] } } : State).mirrorOverflow
  else s

/-! ## Segments -/

/-- Segment `n` of engine `e` is valid. -/
def State.segValid (s : State) (e n : Nat) : Bool := s.bit (HDL_SEG_RANGE e n) 15

/-- First pick of a segment. -/
def State.segFirst (s : State) (e n : Nat) : Nat := s.fld (HDL_SEG_RANGE e n) 10 0

/-- Last pick of a segment. -/
def State.segLast (s : State) (e n : Nat) : Nat := s.fld (HDL_SEG_RANGE e n) 26 16

/-- Pick `i` lies in segment `n`. -/
def State.inSeg (s : State) (e n i : Nat) : Bool :=
  s.segValid e n && decide (s.segFirst e n ≤ i) && decide (i ≤ s.segLast e n)

/-- The segment of a pick. -/
def State.segOf (s : State) (e i : Nat) : Option Nat := (upTo 0 16).find? (fun n => s.inSeg e n i)

/-- The pick at or after `i` that the pass executes, and the clocks of the disabled segments passed over, one each (R137);
at most 16 segments follow each other. (DEDUCED: log entry 18) -/
def State.nextPick (s : State) (e : Nat) : Nat → Nat → Nat → Nat × Nat
  | 0, i, c => (i, c)
  | n + 1, i, c =>
    match s.segOf e i with
    | some g => if s.bit (HDL_SEG_ACT e) g then (i, c) else State.nextPick s e n (s.segLast e g + 1) (c + 1)
    | none => (i, c)

/-! ## A pick -/

/-- What a pick writes: signal words, state shadows, and whether it saturated (R128). -/
structure PickOut where
  words : List (Nat × Word)
  sts   : List (Nat × Int)
  sat   : Bool
  deriving DecidableEq, Repr

/-- A pick has saturated (R129). -/
def State.saturated (s : State) (e i : Nat) : State :=
  let fresh := !s.bit (HDL_SAT e) 11
  let s1 := (s.setBit (HDL_SATMAP e (i / 32)) (i % 32) true).orReg (HDL_EVENTS e) 4
  let s2 := if fresh then (s1.setFld (HDL_SAT e) 10 0 i).setBit (HDL_SAT e) 11 true else s1
  let s3 := if (s2.eng e).satPass then s2 else s2.count (HDL_SAT e) 31 16 1
  let trk := s3.inSeg e (s3.fld (HDL_HOV_SEGS e) 11 8) i
  let s4 := s3.setEng e { s3.eng e with satPass := true, satTrk := (s3.eng e).satTrk || trk }
  if fresh && s4.bit (HDL_CTRL e) 2 then s4.raise 0x0307 e else s4

/-- The engine after a pick's writes. -/
def pickWrites (x : Engine) (o : PickOut) : Engine :=
  o.sts.foldl (fun x p => stPut x p.1 (BitVec.ofNat 48 (toU 48 p.2))) (o.words.foldl (fun x p => sigPut x p.1 p.2) x)

/-- The address of signal word `w` of engine `e`. -/
def sigAddr (e w : Nat) : Nat := hdlBase e + 0x10000 + 4 * w

/-- The address of the low word of state `i` of engine `e`. -/
def stAddr (e i : Nat) : Nat := hdlBase e + 0x28000 + 8 * i

/-- A pick is over after `cost` clocks: its results are written and the pass goes on (R136). -/
def State.pickDone (s : State) (e cost : Nat) (o : PickOut) : State :=
  let x := s.eng e
  let (i, c) := s.nextPick e 16 (x.idx + 1) (x.clocks + cost)
  let s1 := forEach (fun s p => s.rewritten (sigAddr e p.1)) (o.words.filter (fun p => decide (p.1 < 7168)))
    (s.setEng e { pickWrites x o with idx := i, clocks := c })
  if o.sat then s1.saturated e x.idx else s1

/-! ## Overrun and abort -/

/-- The unit measures: it waits, skips or measures (R227). -/
def State.relayOn (s : State) (e u : Nat) : Bool :=
  s.fld (HDL_RLY_STAT e u) 2 0 == 1 || s.fld (HDL_RLY_STAT e u) 2 0 == 2

/-- A relay unit discards the pass and the period in progress (R227); GAPS counts a discarded period. -/
def State.relayGap (s : State) (e u : Nat) : State :=
  let x := Sparse.get (fun _ => Relay.reset) (s.eng e).relays u
  let y : Relay := { x with feed := none, prev := none, rise := none }
  let s1 := s.setEng e { s.eng e with relays := Sparse.set (fun _ => Relay.reset) (s.eng e).relays u y }
  if x.rise.isSome && s.relayOn e u then s1.count (HDL_RLY_STAT e u) 31 24 1 else s1

/-- A run that does not commit (R146): counted. Its pulse at the router comes at t_out (R333). -/
def State.overrun (s : State) (e : Nat) : State :=
  let s0 := forEach (fun s u => s.relayGap e u) (upTo 0 4)
    (s.setEng e { s.eng e with inRun := false, atEnd := false, sort := none, lanes := [], stNew := [], missed := true })
  let s1 := ((s0.count (HDL_OVR e) 15 0 1).count (HDL_STATUS e) 31 24 1).setBit (HDL_STATUS e) 2 false
  (s1.orReg (HDL_EVENTS e) 1).raise 0x0301 e

/-- Two overruns in a row are escalated (R148). -/
def State.escalate (s : State) (e : Nat) : State :=
  if s.fld (HDL_STATUS e) 31 24 = 2 then (s.orReg (HDL_EVENTS e) 2).raise 0x0302 e else s

/-- The overruns of a cycle pulse at the router (R333). -/
def State.overPulse (s : State) (e : Nat) : State :=
  if (s.eng e).missed then (s.setEng e { s.eng e with missed := false }).post (112 + e) else s

/-- An abort before t_out overruns the whole lock group at t_out; the engine itself stops at once (R147, R149). -/
def State.abortRun (s : State) (e : Nat) : State := if (s.eng e).inRun then (s.overrun e).escalate e else s

/-! ## Relay units (R227 to R230) -/

/-- 2^16 of a cycle. -/
def cyc16 : Int := 65536

/-- The place of a rising switch in cycle `c` (R228), in 2^-16 cycle, clamped to the cycle before it; rounded down. -/
def risePlace (c : Nat) (p f : RelayFeed) : Int :=
  let lo := ((c : Int) - 1) * cyc16
  let den := f.a - p.a
  -- ε is a Q2.29 value, A a Q3.28 one
  let num := f.eps - 2 * p.a
  if den = 0 then lo else clampI lo ((c : Int) * cyc16) (lo + num * cyc16 / (2 * den))

/-- Greatest minus least of a list. -/
def spread (l : List Int) : Int :=
  match l with
  | [] => 0
  | x :: xs => xs.foldl max x - xs.foldl min x

/-- The spread of `n` values is within TOL·2^-8 of their mean (R229). -/
def spreadOk (tol : Nat) (l : List Int) : Bool :=
  decide (spread l * 256 * (l.length : Int) ≤ (tol : Int) * sumInt l)

/-- The unit's register of results `i`: 0 PER, 1 AMP, 2 CTR, 3 KU. -/
def relayReg (e u i : Nat) : Nat := HDL_RLY_PER e u + 4 * i

/-- PHI by bits (R230): the greatest `k` up to a quarter turn with sin((k − 1/2) / 2^16 turn) at or below ε/a, so that `k` is the
arcsine rounded to nearest; ε in 2^-29, `amp` twice the sum of `n` amplitudes in 2^-28. (DEDUCED: log entry 21) -/
def lagBits (eps amp : Int) (n : Nat) : Nat → Nat → Nat
  | 0, k => k
  | b + 1, k =>
    let k' := k + 2 ^ b
    lagBits eps amp n b
      (if k' ≤ 16384 ∧ (sinCos96 ((2 * k' - 1) * 2 ^ 15)).1 * amp ≤ eps * n * 2 ^ 96 then k' else k)

/-- KU (R230): 4h / (π·a), unsigned 16.16, rounded to nearest and saturated; h in 2^-29. (DEDUCED: log entry 21) -/
def relayKu (h amp : Int) (n : Nat) : Word :=
  if 0 < amp then
    w32 (min 0xFFFFFFFF (roundDiv (h * 4 * 65536 * (n : Int) * 10 ^ 34) (31415926535897932384626433832795029 * amp.toNat)).toNat)
  else if 0 < h then 0xFFFFFFFF
  else Config.relayOpen false

/-- A result of a relay unit, journaled (R243). -/
def State.relayPut (s : State) (e a : Nat) (v : Word) : State :=
  (s.setReg a v).jAppend (originBlk 0x03 e) 0x01 false a (s.reg a) v false

/-- The relay results (R230), as means over the window. AMP and CTR are halves of the sums kept. (DEDUCED: log entry 21) -/
def State.relayResults (s : State) (e u : Nat) (x : Relay) (f : RelayFeed) : State :=
  let n := x.window.length
  let per := roundDiv (sumInt (x.window.map (fun w => w.1))) n
  let amp := sumInt (x.window.map (fun w => w.2.1))
  let ctr := roundDiv (sumInt (x.window.map (fun w => w.2.2))) (2 * n)
  let phi := if 0 < amp then w32 (lagBits f.eps amp n 15 0) else Config.relayOpen true &&& 0xFFFF
  ((((s.relayPut e (relayReg e u 0) (wordOfInt per)).relayPut e (relayReg e u 1) (wordOfInt (roundDiv amp (2 * n)))).relayPut e
    (relayReg e u 2) (wordOfInt ctr)).relayPut e (relayReg e u 3) (relayKu (max 0 f.h) amp n)).relayPut e (HDL_RLY_PHI e u) phi

/-- A relay register changes and is journaled (R243). -/
def State.relayState (s : State) (e u v : Nat) : State := s.putFldJ (originBlk 0x03 e) (HDL_RLY_STAT e u) 2 0 v

/-- A measurement ends without a result (R229). -/
def State.relayFail (s : State) (e u v : Nat) : State :=
  ((s.relayState e u v).orReg (HDL_TUNE_EVENTS e) (2 ^ (8 + u))).raise 0x0309 e

/-- The unit of engine `e`. -/
def State.relay (s : State) (e u : Nat) : Relay := Sparse.get (fun _ => Relay.reset) (s.eng e).relays u

/-- The state with a unit replaced. -/
def State.setRelay (s : State) (e u : Nat) (x : Relay) : State :=
  s.setEng e { s.eng e with relays := Sparse.set (fun _ => Relay.reset) (s.eng e).relays u x }

/-- Every relay unit is idle: a takeover carries none over (R242). -/
def State.relaysIdle (s : State) : State :=
  forEach (fun s i => (s.setRelay (i / 4) (i % 4) Relay.reset).relayState (i / 4) (i % 4) 0) (upTo 0 32) s

/-- A whole period has been measured at a rising switch at `t` (R229). -/
def State.relayPeriod (s : State) (e u : Nat) (x : Relay) (t0 t : Int) (f : RelayFeed) : State :=
  if 0 < x.skip then
    let s1 := s.setRelay e u { x with skip := x.skip - 1 }
    if x.skip = 1 then s1.relayState e u 2 else s1
  else
    let navg := max 1 (s.fld (HDL_RLY_CTRL e u) 11 8)
    let w := ((t - t0, x.hi - x.lo, x.hi + x.lo) :: x.window).take navg
    let y : Relay := { x with window := w, nper := x.nper + 1 }
    let s1 := (s.setRelay e u y).count (HDL_RLY_STAT e u) 15 8 1
    let tol := s.fld (HDL_RLY_CTRL e u) 23 16
    if w.length = navg ∧ spreadOk tol (w.map (fun p => p.1)) ∧ spreadOk tol (w.map (fun p => p.2.1)) then
      if sumInt (w.map (fun p => p.2.1)) < f.eps * (w.length : Int) then s1.relayFail e u 4
      else ((s1.relayResults e u y f).relayState e u 3).orReg (HDL_TUNE_EVENTS e) (2 ^ (4 + u))
    else if s1.fld (HDL_RLY_TMO e u) 31 16 ≤ y.nper then s1.relayFail e u 5
    else s1

/-- A relay unit at a commit (R227, R228): its feed of the pass, or a gap. -/
def State.relayCommit (s : State) (e u : Nat) : State :=
  if !s.relayOn e u then s else
  let x := s.relay e u
  let c := x.cyc + 1
  let quiet := x.quiet + 1
  match x.feed with
  | none =>
    let s1 := (s.setRelay e u { x with cyc := c, quiet := quiet }).relayGap e u
    if max 1 (s.fld (HDL_RLY_TMO e u) 15 0) ≤ quiet then s1.relayFail e u 4 else s1
  | some f =>
    let rising : Bool := match x.prev with
      | some p => !p.sig && f.sig
      | none => false
    if rising then
      let p := x.prev.getD f
      let t := risePlace c p f
      let y : Relay := { x with feed := none, prev := some f, cyc := c, quiet := 0, rise := some t, lo := f.a, hi := f.a }
      match x.rise with
      | some t0 =>
        let s1 := s.relayPeriod e u { x with feed := none, cyc := c } t0 t f
        s1.setRelay e u { s1.relay e u with feed := none, prev := some f, cyc := c, quiet := 0, rise := some t, lo := f.a, hi := f.a }
      | none => s.setRelay e u y
    else
      let s1 := s.setRelay e u { x with feed := none, prev := some f, cyc := c, quiet := quiet, lo := min x.lo f.a
                                        hi := max x.hi f.a }
      if max 1 (s.fld (HDL_RLY_TMO e u) 15 0) ≤ quiet then s1.relayFail e u 4 else s1

/-! ## Hand-over unit (R237 to R241) -/

/-- PHASE of the hand-over unit. -/
def State.hovPhase (s : State) (e : Nat) : Nat := s.fld (HDL_HOV_STATUS e) 2 0

/-- The segment of a role: 0 OUT, 1 IN, 2 TRK, 3 FADE. -/
def State.hovSeg (s : State) (e i : Nat) : Nat := s.fld (HDL_HOV_SEGS e) (4 * i + 3) (4 * i)

/-- A segment enable of the unit. -/
def State.hovEn (s : State) (e i : Nat) (on : Bool) : State := s.setBit (HDL_SEG_EN e) (s.hovSeg e i) on

/-- A journal entry of the unit (R243): the segments as the old value, the last gap as the new. -/
def State.hovJournal (s : State) (e : Nat) : State :=
  s.journal (originBlk 0x03 e) 0x01 false (HDL_HOV_STATUS e) (s.reg (HDL_HOV_SEGS e)) (s.reg (HDL_HOV_STATUS e))

/-- The magnitudes of the gap words as published (R239). -/
def State.gaps (s : State) (e : Nat) : List Nat :=
  (upTo (s.fld (HDL_HOV_GAP e) 12 0) (s.fld (HDL_HOV_GAP e) 19 16)).map (fun w => (sigRead (s.eng e) w).toInt.natAbs)

/-- The tracking cycle is closed (R239). -/
def State.hovClosed (s : State) (e : Nat) : Bool :=
  (s.gaps e).all (fun g => decide (g ≤ s.fld (HDL_HOV_LIM e) 15 0 * 4096)) && !(s.eng e).satTrk

/-- λ and Δ of the unit are states XS and XS + 1. -/
def State.xs (s : State) (e : Nat) : Nat := s.fld (HDL_HOV_XFD e) 9 0

/-- The fade begins (R240). -/
def State.hovFade (s : State) (e : Nat) : State :=
  let m := max 1 (s.fld (HDL_HOV_CFG e) 31 16)
  let d := (2 ^ 44 + m - 1) / m
  let s1 := s.setEng e (stCommit (stCommit (s.eng e) (s.xs e) 0) (s.xs e + 1) (BitVec.ofNat 48 d))
  let s2 := (((s1.hovEn e 2 false).hovEn e 3 true).setFld (HDL_HOV_STATUS e) 2 0 3).orReg (HDL_TUNE_EVENTS e) 2
  (s2.hovJournal e).raise 0x0308 e

/-- The unit ends at the next boundary with a result; segment `i` is enabled in place of `j`. -/
def State.hovEnd (s : State) (e i j res : Nat) : State :=
  ((s.hovEn e j false).hovEn e i true).setEng e { s.eng e with hovRes := res, hovAbt := false }

/-- What the members of a group decide together at a commit (R239, R242): the tracking cycle is closed on every member, every
member has tracked for its MIN_TRACK, and some member for its MAX_TRACK. -/
structure HovVote where
  closed : Bool
  enough : Bool
  last   : Bool
  deriving DecidableEq, Repr

/-- The vote of the members `ms` that are tracking; the cycle of this commit is counted. (DEDUCED: log entry 22) -/
def State.hovVote (s : State) (ms : List Nat) : HovVote :=
  let ts := ms.filter (fun e => s.hovPhase e == 2)
  let n := fun (e : Nat) => s.fld (HDL_HOV_STATUS e) 15 8 + 1
  { closed := ts.all (fun e => s.hovClosed e)
    enough := ts.all (fun e => decide (s.fld (HDL_HOV_CFG e) 3 0 ≤ n e))
    last := ts.any (fun e => decide (s.fld (HDL_HOV_CFG e) 15 8 ≤ n e)) }

/-- The decision of the unit at a commit (R239 to R241); the vote is the group's. -/
def State.hovCommit (s : State) (e : Nat) (v : HovVote) : State :=
  let ph := s.hovPhase e
  let abt := (s.eng e).hovAbt
  if (s.eng e).hovRes ≠ 0 then s
  else if ph = 1 then (if abt then s.hovEnd e 0 2 3 else s)
  else if ph = 2 then
    let gap := (s.gaps e).foldl max 0
    let s1 := (s.count (HDL_HOV_STATUS e) 15 8 1).setFld (HDL_HOV_STATUS e) 31 16 (min 65535 ((gap + 4095) / 4096))
    if abt then s1.hovEnd e 0 2 3
    else if v.enough && v.closed then s1.hovEnd e 1 2 1
    else if v.last && !v.closed then s1.hovFade e
    else s1
  else if ph = 3 then
    if abt then
      let x := s.eng e
      let d := stGet x (s.xs e + 1)
      let s1 := (s.setEng e { stCommit x (s.xs e + 1) (- d) with hovAbt := false }).setFld (HDL_HOV_STATUS e) 2 0 4
      if stGet x (s.xs e) = 0 then s1.hovEnd e 0 3 3 else s1
    else if stGet (s.eng e) (s.xs e) = BitVec.ofNat 48 (2 ^ 44) then s.hovEnd e 1 3 2
    else s
  else if ph = 4 then
    if stGet (s.eng e) (s.xs e) = 0 then s.hovEnd e 0 3 3
    else s.setEng e { s.eng e with hovAbt := false }
  else s.setEng e { s.eng e with hovAbt := false }

/-- The hand-over unit at a boundary (R238 to R241): waiting becomes tracking, and a decided end takes effect. -/
def State.hovBoundary (s : State) (e : Nat) : State :=
  let res := (s.eng e).hovRes
  if res ≠ 0 then
    let s1 := ((s.setEng e { s.eng e with hovRes := 0 }).setFld (HDL_HOV_STATUS e) 5 4 res).setFld (HDL_HOV_STATUS e) 2 0 0
    let s2 := (s1.count (HDL_HOV_CNT e) 15 0 1).count (HDL_HOV_CNT e) 31 16 (if res = 2 then 1 else 0)
    (s2.orReg (HDL_TUNE_EVENTS e) (if res = 3 then 4 else 1)).hovJournal e
  else if s.hovPhase e = 1 then s.setFld (HDL_HOV_STATUS e) 2 0 2
  else s

/-! ## Commit -/

/-- The sorter's lane record takes a committed sort (R214). -/
def State.laneCommit (s : State) (e : Nat) (l : LaneRec) : State :=
  let st := SRT_LANE_STAT l.ch
  let n := l.order.length
  let n0 := if s.bit st 6 then s.fld st 5 0 else 0
  let swaps := ((upTo 0 (max n n0)).filter (fun j =>
    !(decide (j < n) && decide (j < n0) && s.fld (SRT_LANE_ORDER l.ch j) 4 0 == nth l.order j 0))).length
  let s1 := s.setReg st (w32 (swaps * 65536 + e * 256 + b2n l.desc * 128 + 64 + n))
  let s2 := ((s1.setReg (SRT_LANE_CYC l.ch) (w32 s.k)).setReg (SRT_LANE_MASK l.ch) (w32 l.excl)).count
    (SRT_LANE_SWAPCNT l.ch) 31 0 swaps
  let s3 : State := { s2 with cyc := { s2.cyc with laneAt := Sparse.set (fun _ => 0) s2.cyc.laneAt l.ch l.done } }
  forEach (fun s j => s.setReg (SRT_LANE_ORDER l.ch j) (w32 (nth l.order j 0))) (upTo 0 32) s3

/-- The record of lane `ch` after a commit of the sorts `ls`, each with its engine: the sort that completed last at the sorter
in this cycle stands (R214). -/
def State.laneTake (s : State) (ls : List (Nat × LaneRec)) (ch : Nat) : State :=
  let last := ls.foldl (fun (best : Option (Nat × LaneRec)) p =>
    if p.2.ch ≠ ch then best else
    match best with
    | some q => if q.2.done < p.2.done then some p else best
    | none => some p) none
  match last with
  | some p => if Sparse.get (fun _ => 0) s.cyc.laneAt ch < p.2.done then s.laneCommit p.1 p.2 else s
  | none => s

/-- Presets are applied after the pattern's writes, in the order written, and journaled (R145). -/
def State.applyPresets (s : State) (e : Nat) : State :=
  let ps := (s.eng e).presets
  let s1 := forEach (fun s p =>
      let a := hdlBase e + 0x28000 + 8 * p.idx
      let old := stGet (s.eng e) p.idx
      let s2 := s.setEng e (stCommit (s.eng e) p.idx (BitVec.ofNat 48 (p.lo.toNat + p.hi.toNat % 65536 * 2 ^ 32)))
      (s2.journal p.origin 0x01 false (a + 4) (wordOfInt (sext 16 (old.toNat / 2 ^ 32)))
        (wordOfInt (sext 16 p.hi.toNat))).journal p.origin 0x01 false a (lo32 old.toNat) p.lo) ps s
  (s1.setEng e { s1.eng e with presets := [] }).setReg (HDL_PRESET e) 0

/-- The Heddle flags that name a published word of engine `e` (R333). -/
def State.flagCommit (s : State) (e : Nat) : State :=
  forEach (fun s f => s.level (120 + f) (decide ((sigRead (s.eng e) (s.fld (EVR_FLAG f) 12 0)).toNat ≠ 0)))
    ((upTo 0 32).filter (fun f => s.bit (EVR_FLAG f) 31 && s.fld (EVR_FLAG f) 18 16 == e)) s

/-- Bindings by an engine that does not own the channel are ignored, and raise 0x0404 (R184). -/
def State.bindCheck (s : State) (e : Nat) : State :=
  let bad := (s.eng e).bound.filter (fun b => s.fld (WVR_CH_CFG b.1) 2 0 != 0 && s.fld (WVR_CH_CFG b.1) 6 4 != e)
  forEach (fun s _ => (s.orReg WVR_EVENTS 4).raise 0x0404 e) bad s

/-- The states and outputs of a pass are committed and published in one clock (R135, R143). -/
def State.commitData (s : State) (e : Nat) : State :=
  let x := s.eng e
  let st := x.stNew.foldl (fun m p => match p.2 with
    | some v => Sparse.set (fun _ => 0) m p.1 v
    | none => m) x.st
  let s1 := s.setEng e { x with st := st, stNew := [], pub := x.shadow, bound := x.binds, inRun := false, atEnd := false
                                did := true, lanes := [] }
  forEach (fun s p => (s.rewritten (stAddr e p.1)).rewritten (stAddr e p.1 + 4)) x.stNew
    (s1.cleared (sigAddr e 7168) (sigAddr e 8191))

/-- What else a commit does for an engine (R145, R148, R152, R227); `clk` is the clocks from the cut to the commit. -/
def State.commitRest (s : State) (clk e : Nat) : State :=
  let s1 := (s.applyPresets e).setFld (HDL_STATUS e) 31 24 0
  let s2 := ((s1.setBit (HDL_STATUS e) 2 true).setFld (HDL_RUN_CLK e) 15 0 (min 65535 clk)).peak (HDL_RUN_CLK e) 31 16 clk
  ((forEach (fun s u => s.relayCommit e u) (upTo 0 4) s2).flagCommit e).bindCheck e

/-- A deferred hand-off is accepted at the first commit at which every PHASE is idle (R267). -/
def State.hoPoll (s : State) : State :=
  if s.gft.hoReq = 1 ∧ s.gft.hoPhase = 0 ∧ (upTo 0 8).all (fun e => s.hovPhase e == 0) then
    { s with gft := { s.gft with hoReq := 0, hoPhase := 1 } }
  else s

/-- The commit of a lock group (R143, R149): every member together. -/
def State.commitGroup (s : State) (ms : List Nat) : State :=
  let lanes := ms.flatMap (fun e => (s.eng e).lanes.map (fun l => (e, l)))
  let s1 := forEach (fun s ch => s.laneTake lanes ch) (upTo 0 4) (forEach State.commitData ms s)
  let v := s1.hovVote ms
  let s2 := forEach (fun s e => s.hovCommit e v) ms s1
  let clk := ms.foldl (fun a e => max a (s.eng e).clocks) 0
  (forEach (fun s e => s.commitRest clk e) ms s2).hoPoll

/-- The members of the group that run in this cycle. -/
def State.groupRun (s : State) (e : Nat) : List Nat := (s.group e).filter (fun x => (s.eng x).inRun)

/-- END is reached (R183): the commit follows once every member of the group that runs in this cycle has reached its END (R149). A
member that is armed waits for its first cut (R150); one that has overrun in this cycle keeps the others from committing (R25). -/
def State.endReached (s : State) (e : Nat) : State :=
  let s1 := s.setEng e { s.eng e with atEnd := true, clocks := (s.eng e).clocks + 1 }
  let ms := s1.group e
  if ms.all (fun x => (s1.eng x).atEnd || s1.fld (HDL_STATUS x) 1 0 != 2) then s1.commitGroup (s1.groupRun e) else s1

end Sys2Proof.Machine
end

