-- ==== Sys2Proof/Machine/Ecc.lean ====
section
/-! DEFINITION. Memory errors (R125, R309 to R313): what follows when a poisoned word is found, by an engine, a fabric read or the
scrubber, and the reads of the running pass. -/

namespace Sys2Proof.Machine

/-- The address of pick `i`. -/
def pickAddr (e i : Nat) : Nat := hdlBase e + 8 * i

/-- The address of coefficient `c` of a bank. -/
def coefAddr (e bank c : Nat) : Nat := hdlBase e + 0x20000 + bank * 0x2000 + 4 * c

/-- The engine whose pattern or coefficient memory holds a word (R311). -/
def cardStore (a : Nat) : Bool :=
  decide (0x20000000 ≤ a) && decide (a < 0x20200000) &&
    (decide (a % 0x40000 < 0x4000) || (decide (0x20000 ≤ a % 0x40000) && decide (a % 0x40000 < 0x24000)))

/-- The dirty bit of a word (R311): its own, or that of a whole bank, which the bank copy sets. (DEDUCED: log entry 43) -/
def State.isDirty (s : State) (a : Nat) : Bool :=
  Sparse.get (fun _ => false) s.dirty a || Sparse.get (fun _ => false) s.dirty (a / 0x2000 * 0x2000 + 1)

/-- The capture fields of an error: the address, and the access that found it (R309). -/
def eccCap (a finder : Nat) (access width : BitVec 2) : Capture :=
  { addr := w32 a, master := BitVec.ofNat 8 finder, access := access, width := width }

/-- An error read by an engine aborts its run (R125, R147). -/
def State.eccAbort (s : State) (e : Nat) : State :=
  if (s.eng e).inRun then ((s.count (HDL_OVR e) 31 16 1).orReg (HDL_EVENTS e) 0x10).abortRun e else s

/-- A poisoned committed state becomes 0 (R310). -/
def State.eccState (s : State) (e a : Nat) : State :=
  let o := a - (hdlBase e + 0x28000)
  if hdlBase e + 0x28000 ≤ a ∧ o < 0x2000 then
    (((s.setEng e (stCommit (s.eng e) (o / 8) 0)).rewritten (a / 8 * 8)).rewritten (a / 8 * 8 + 4))
  else s

/-- The fault of a memory error that stays (R310, R311, R313), held until the word is rewritten. (DEDUCED: log entry 43) -/
def State.eccHold (s : State) (code a : Nat) (cap : Capture) : State :=
  if s.flt.causes.any (fun c => c.1 == code && c.2 == wordTag a) then s
  else s.raiseCore code 31 (wordTag a) (s.now 0) true (some cap)

/-- A clean word waits for its reload from the card (R311). -/
def State.wantReload (s : State) (cap : Capture) : State :=
  if s.flt.reloads.any (fun c => c.addr == cap.addr) then s
  else s.withFlt { s.flt with reloads := s.flt.reloads ++ [cap] }

/-- The master is one whose reads raise 0x0D03 (R313): a Heddle engine, the Weaver, a Shuttle engine. -/
def eccReader (finder : Nat) : Bool := (decide (0x10 ≤ finder) && decide (finder ≤ 0x18)) || finder == 0x20 || finder == 0x21

/-- The unit of 0x0D03: the engine, or 31 for the Weaver. -/
def eccUnit (finder : Nat) : Nat := if finder < 0x18 then finder - 0x10 else if finder = 0x18 then 31 else finder - 0x20

/-- A poisoned word is found (R310, R311, R313): a read by an engine raises 0x0D03, which the first write of the word ends, and
aborts a Heddle engine's run; a clean pattern or coefficient word waits for its reload; a Crown SRAM word raises 0x0D04, and any
other 0x0D05 (a clean one too without the card, R427) until it is rewritten. (DEDUCED: log entry 43) -/
def State.eccFound (s : State) (a finder : Nat) (access width : BitVec 2) : State :=
  let cap := eccCap a finder access width
  let hot := eccReader finder
  let eng := decide (0x10 ≤ finder) && decide (finder ≤ 0x17)
  let s0 := if eng then s.eccAbort (finder - 0x10) else s
  let s1 := if hot then s0.raiseCore 0x0D03 (eccUnit finder) (wordTag a) (s0.now 0) true (some cap) else s0
  let s2 := if eng then s1.eccState (finder - 0x10) a else s1
  if !s2.poisoned a then s2
  else if decide (0x10000000 ≤ a) && decide (a < 0x10400000) then s2.eccHold 0x0D04 a cap
  else if cardStore a then (if s2.isDirty a || !s2.seed.cardOk then s2.eccHold 0x0D05 a cap else s2.wantReload cap)
  else if hot then s2
  else s2.eccHold 0x0D05 a cap

end Sys2Proof.Machine
end

