-- ==== Sys2Proof/Machine/Picks.lean ====
section
/-! DEFINITION. The picks (R153 to R183): the fields of a pick, its operands, and the arithmetic of each opcode, over exact values. A
pick command runs the next pick of its engine's own pattern where that pick has the command's opcode (R136). -/

namespace Sys2Proof.Machine

/-! ## Fields -/

/-- A pick taken apart (R153). -/
structure Pick where
  opc : Nat
  flg : Nat
  d   : Nat
  a   : Nat
  b   : Nat
  p   : Nat
  deriving DecidableEq, Repr

/-- The fields of a 64-bit pick. -/
def pickOf (w : Nat) : Pick :=
  { opc := nfld w 63 58, flg := nfld w 57 52, d := nfld w 51 39, a := nfld w 38 26, b := nfld w 25 13, p := nfld w 12 0 }

/-- Flag Fi of a pick. -/
def pflag (k : Pick) (i : Nat) : Bool := nbit k.flg i

/-- What a pick reads: the engine, its active bank and the pick. -/
structure PickIn where
  x    : Engine
  bank : Nat
  k    : Pick
  deriving DecidableEq, Repr

/-- A signal word as it stands. -/
def PickIn.sw (c : PickIn) (w : Nat) : Word := sigGet c.x w

/-- A signal word as a value in 2^-28. -/
def PickIn.sg (c : PickIn) (w : Nat) : Int := (c.sw w).toInt

/-- A coefficient word of the active bank. -/
def PickIn.cw (c : PickIn) (i : Nat) : Word := coefBank c.x c.bank i

/-- A coefficient as a value in 2^-29. -/
def PickIn.co (c : PickIn) (i : Nat) : Int := (c.cw i).toInt

/-- A committed state as a value in 2^-44. -/
def PickIn.st (c : PickIn) (i : Nat) : Int := (stGet c.x i).toInt

/-- The bits of a committed state as a number. -/
def PickIn.raw (c : PickIn) (i : Nat) : Nat := (stGet c.x i).toNat

/-- Flag Fi. -/
def PickIn.f (c : PickIn) (i : Nat) : Bool := pflag c.k i

/-- The result of values narrowed to signals and states: each word and state, and whether any has saturated. -/
def pickOut (ws : List (Nat × Fx)) (sts : List (Nat × Fx)) : PickOut :=
  { words := ws.map (fun p => (p.1, wordOfInt p.2.v)), sts := sts.map (fun p => (p.1, p.2.v)),
    sat := ws.any (fun p => p.2.sat) || sts.any (fun p => p.2.sat) }

/-- A result that copies a word. -/
def copyOut (d : Nat) (w : Word) : PickOut := { words := [(d, w)], sts := [], sat := false }

/-- The truth value of R157. -/
def truth (b : Bool) : Word := if b then 0x10000000 else 0

/-! ## What a pick names -/

/-- What a pick names (R154, R155, R158 to R183): a field or flag that must be 0 or is forbidden; a raw value out of range; the
signal words it reads and writes; its coefficients and its states. -/
structure PickUse where
  bad : Bool
  raw : Bool
  rd  : List Nat
  wr  : List Nat
  co  : List Nat
  st  : List Nat
  deriving DecidableEq, Repr

/-- Clock cost of an opcode (R158); 0 for a reserved one. -/
def costOf (opc : Nat) : Nat :=
  nth [0, 1, 1, 0, 1, 1, 1, 1, 8, 1, 2, 0, 2, 2, 2, 0, 1, 1, 1, 2, 2, 2, 2, 2, 4, 4, 2, 0, 2, 1, 224, 1] opc 0

/-- A use from its parts: the flags the opcode defines and the fields that must be 0. -/
def useOf (k : Pick) (flags : Nat) (zero : List Nat) (rd wr co st : List Nat) : PickUse :=
  { bad := andNot k.flg flags != 0 || zero.any (fun z => z != 0), raw := false, rd := rd, wr := wr, co := co, st := st }

/-- `n` indices from `i` on. -/
def rng (i n : Nat) : List Nat := upTo i n

/-- What each opcode names. -/
def pickUse (k : Pick) : PickUse :=
  let f := pflag k
  let u := useOf k
  match k.opc with
  | 0x01 => u 0 [k.d, k.a, k.b, k.p] [] [] [] []
  | 0x02 => u 0 [k.d, k.a, k.b, k.p] [] [] [] []
  | 0x04 => u 1 [k.a, k.b] [] [k.d] [k.p] []
  | 0x05 => if f 0 then u 1 [] [k.a, k.b] [k.d] [k.p] [] else u 1 [k.b] [k.a] [k.d] [k.p] []
  | 0x06 => if f 2 then u 15 [k.b] [k.a] [k.d] [k.p] [] else u 15 [k.p] [k.a, k.b] [k.d] [] []
  | 0x07 => u 1 [k.p] [k.a, k.b] [k.d] [] []
  | 0x08 => u 0 [k.p] [k.a, k.b] [k.d] [] []
  | 0x09 =>
    let n := if f 0 then 1 else 2
    if f 1 then u 7 [k.p] (k.a :: rng k.b n) [k.d] [] [] else u 7 [k.b] [k.a] [k.d] (rng k.p n) []
  | 0x0A => u 0 [] [k.a] [k.d] (rng k.p 2) [k.b]
  | 0x0C => u 0 [] [k.a] [k.d] (rng k.p 5) (rng k.b 2)
  | 0x0D => u 0 [] [k.a, k.b] [k.d] [] []
  | 0x0E => u 1 [] [k.a, k.b] (rng k.d (if f 0 then 2 else 1)) [] (rng k.p 2)
  | 0x10 => if f 0 then u 1 [k.b] [k.a] [k.d] [] [k.p] else u 1 [] [k.a, k.b] [k.d] [] [k.p]
  | 0x11 => if f 0 then u 1 [] [k.a, k.b] [k.d] [k.p] [] else u 1 [k.p] [k.a, k.b, k.a + 1] [k.d] [] []
  | 0x12 =>
    let x := if f 3 then u 31 [k.b] [k.a] [k.d] [k.p] [] else u 31 [k.p] [k.a, k.b] [k.d] [] []
    { x with bad := x.bad || decide (5 < k.flg % 8) }
  | 0x13 =>
    let m := k.flg % 16
    let x := u 63 [k.b] [k.a] [k.d] (rng k.p (2 ^ m + 1)) []
    if 1 ≤ m ∧ m ≤ 9 then x else { x with bad := true, co := [] }
  | 0x14 =>
    let x := u 3 [k.b, k.p] (rng k.a (if f 1 then 2 else 3)) (rng k.d (if f 0 then 3 else 2)) [] []
    { x with bad := x.bad || (f 0 && f 1) }
  | 0x15 => u 1 [k.b, k.p] (rng k.a (if f 0 then 3 else 2)) (rng k.d 3) [] []
  | 0x16 => u 0 [k.p] (rng k.a 2 ++ [k.b]) (rng k.d 2) [] []
  | 0x17 => u 0 [k.p] (rng k.a 2 ++ [k.b]) (rng k.d 2) [] []
  | 0x18 => u 0 [k.p] [k.a, k.b] [k.d] [] []
  | 0x19 => u 0 [k.p] [k.a, k.b] [k.d] [] []
  | 0x1A => if f 0 then u 1 [k.p] [k.a, k.b] (rng k.d 2) [] [] else u 1 [k.b, k.p] [k.a] (rng k.d 2) [] []
  | 0x1C =>
    let t := k.flg % 4
    u 3 (if t = 0 then [k.b] else []) [k.a] [k.d] (rng k.p (t + 1)) (if t = 0 then [] else rng k.b (if t = 3 then 2 else 1))
  | 0x1D =>
    let x := u 7 [] [k.a] [k.d] (rng k.p 3) [k.b]
    { x with bad := x.bad || (!f 2 && k.flg % 4 != 0) }
  | 0x1E =>
    let n := k.p % 64
    let x := u 31 (if f 4 then [] else [k.b]) (rng k.a n ++ (if f 4 then [k.b] else [])) (rng k.d n) [] []
    { x with raw := decide (k.p ≥ 64) || n == 0 || decide (32 < n) }
  | 0x1F =>
    let x := u 0 [k.d] [] [] [] []
    { x with raw := decide (k.b < 1) || decide (64 < k.b) || decide (k.a < 7168) || decide (8191 < k.a + k.b - 1)
                      || decide (1023 < k.p) }
  | _ => { bad := true, raw := false, rd := [], wr := [], co := [], st := [] }

/-! ## Running a pick -/

/-- The pick that engine `e` runs next. -/
def State.curPick (s : State) (e : Nat) : Pick := pickOf (patGet (s.eng e) (s.eng e).idx)

/-- Engine `e` is in its pass, before END and not waiting for the sorter, and its next pick has opcode `opc`.
(DEDUCED: log entry 18) -/
def State.pickReady (s : State) (e opc : Nat) : Bool :=
  (s.eng e).inRun && !(s.eng e).atEnd && (s.eng e).sort.isNone && (s.curPick e).opc == opc

/-- What the next pick of engine `e` reads. -/
def State.pickIn (s : State) (e : Nat) : PickIn := { x := s.eng e, bank := s.activeBank e, k := s.curPick e }

/-- The first table index that a LUT pick reads, of two, or of one at an end of its table (R172). -/
def lutReads (c : PickIn) : List Nat :=
  let m := c.k.flg % 16
  let sp := c.k.flg / 16 % 4
  let u := c.sg c.k.a + 2 ^ (28 + sp)
  if u < 0 then [c.k.p]
  else if 2 ^ (29 + sp) ≤ u then [c.k.p + 2 ^ m]
  else rng (c.k.p + (u / 2 ^ (29 + sp - m)).toNat) 2

/-- The index of the coefficient that a multisine reads in its table (R179). -/
def sineIdx (c : PickIn) : Nat := ((c.cw (c.k.p + 1)).toNat + c.raw c.k.b % 2 ^ 32 / 2 ^ 24) % 2048

/-- The coefficients and states that a pick reads: those it names, but for the table words of a LUT and of a multisine, and for TRK,
which reads those of the BIQ pick that it names (R168). -/
def coefReads (c : PickIn) : List Nat :=
  match c.k.opc with
  | 0x0D => let t := pickOf (patGet c.x c.k.p)
            [t.p, t.p + 2, t.p + 4]
  | 0x13 => lutReads c
  | 0x1C => if c.k.flg % 4 = 2 then sineIdx c :: (pickUse c.k).co else (pickUse c.k).co
  | _ => (pickUse c.k).co
@[inherit_doc coefReads] def stateReads (c : PickIn) : List Nat :=
  if c.k.opc = 0x0D then [(pickOf (patGet c.x c.k.p)).b] else (pickUse c.k).st

/-- The addresses of the words that the next pick of engine `e` reads: the pick, that of a BIQ pick that it names, its signal words,
coefficients and states. The output region is read from its shadow copy, which the pass has written before (R134). -/
def State.pickReads (s : State) (e : Nat) : List Nat :=
  let c := s.pickIn e
  [pickAddr e c.x.idx, pickAddr e c.x.idx + 4] ++ (if c.k.opc = 0x0D then [pickAddr e c.k.p, pickAddr e c.k.p + 4] else [])
    ++ ((pickUse c.k).rd.filter (fun w => decide (w < 7168))).map (sigAddr e) ++ (coefReads c).map (coefAddr e c.bank)
    ++ (stateReads c).flatMap (fun i => [stAddr e i, stAddr e i + 4])

/-- The first poisoned word that the next pick of engine `e` reads (R125, R310). -/
def State.badRead (s : State) (e : Nat) : Option Nat := (s.pickReads e).find? s.poisoned

/-- The next pick of engine `e` is one of opcode `opc`: it runs by `f`, or aborts the run where it reads a poisoned word (R125, R147,
R310). (DEDUCED: log entry 18) -/
def State.atPick (s : State) (e opc : Nat) (f : State → State) : State :=
  if !s.pickReady e opc then s
  else match s.badRead e with
    | some a => s.eccFound a (0x10 + e) 0 2
    | none => f s

/-- The pick of opcode `opc` and a fixed cost (R158) runs (R155): it reads every operand before it writes.
(DEDUCED: log entry 18) -/
def State.runPick (s : State) (e opc cost : Nat) (f : PickIn → PickOut) : State :=
  s.atPick e opc (fun s => s.pickDone e cost (f (s.pickIn e)))

/-! ## Arithmetic picks -/

/-- A coefficient as a signal (R156). -/
def coefSig (x : Int) : Int := rne x 1

/-- LDC (R159). -/
def pickLdc (c : PickIn) : PickOut :=
  copyOut c.k.d (if c.f 0 then c.cw c.k.p else wordOfInt (coefSig (c.co c.k.p)))

/-- GAIN (R160). -/
def pickGain (c : PickIn) : PickOut :=
  let prod := c.sg c.k.a * c.co c.k.p
  pickOut [(c.k.d, toSig (accSum (if c.f 0 then [prod, sigAcc (c.sg c.k.b)] else [prod])))] []

/-- The rounded sum of an angle (R161): bits 27 to 0, with bit 27 copied above. -/
def angleWord (x : Int) : Word := wordOfInt (sext 28 (toU 28 x))

/-- SUM (R161). -/
def pickSum (c : PickIn) : PickOut :=
  let a := sigAcc (c.sg c.k.a)
  let x := if c.f 2 then coefAcc (c.co c.k.p) else sigAcc (c.sg c.k.b)
  let a' := if c.f 0 then -a else a
  let x' := if c.f 1 then -x else x
  if c.f 3 then copyOut c.k.d (angleWord (rne (a' + x') 29)) else pickOut [(c.k.d, toSig (accSum [a', x']))] []

/-- MUL (R162): the exact product has 56 fraction bits. -/
def pickMul (c : PickIn) : PickOut :=
  let v := c.sg c.k.a * c.sg c.k.b
  pickOut [(c.k.d, narrow 28 32 (exactFx (if c.f 0 then -v else v)))] []

/-- DIV (R163). -/
def pickDiv (c : PickIn) : PickOut :=
  let a := c.sg c.k.a
  let b := c.sg c.k.b
  let v : Fx :=
    if b = 0 then ⟨if a = 0 then 0 else if 0 < a then 2147483647 else -2147483648, true⟩
    else
      let q := satBits 32 (exactFx (rneDiv (a * 2 ^ 28) b))
      ⟨q.v, q.sat || decide (8 * b.natAbs ≤ a.natAbs)⟩
  pickOut [(c.k.d, v)] []

/-- LIM (R164): a clamp is no saturation; with REP it sets the pick's bit all the same. (DEDUCED: log entry 20) -/
def pickLim (c : PickIn) : PickOut :=
  let a := sigAcc (c.sg c.k.a)
  let hi := if c.f 1 then sigAcc (c.sg c.k.b) else coefAcc (c.co c.k.p)
  let lo := if c.f 0 then -hi else if c.f 1 then sigAcc (c.sg (c.k.b + 1)) else coefAcc (c.co (c.k.p + 1))
  let v := min (max a lo) hi
  pickOut [(c.k.d, toSig (exactFx v))] []

/-- A is clamped by a LIM with REP (R164). -/
def limReports (c : PickIn) : Bool :=
  let a := sigAcc (c.sg c.k.a)
  let hi := if c.f 1 then sigAcc (c.sg c.k.b) else coefAcc (c.co c.k.p)
  let lo := if c.f 0 then -hi else if c.f 1 then sigAcc (c.sg (c.k.b + 1)) else coefAcc (c.co (c.k.p + 1))
  c.f 2 && decide (min (max a lo) hi ≠ a)

/-! ## Dynamic picks -/

/-- A coefficient times a state (R156): 73 fraction bits, rounded to Q6.57. -/
def coefSt (c st : Int) : Int := rne (c * st) 16

/-- RAT (R166). -/
def pickRat (c : PickIn) : PickOut :=
  let y0 := stAcc (c.st c.k.b)
  let up := coefAcc (max (c.co c.k.p) 0)
  let dn := coefAcc (max (c.co (c.k.p + 1)) 0)
  let y := accSum [y0, clampI (-dn) up (sigAcc (c.sg c.k.a) - y0)]
  pickOut [(c.k.d, toSig y)] [(c.k.b, toSt y)]

/-- BIQ (R165). -/
def pickBiq (c : PickIn) : PickOut :=
  let x := c.sg c.k.a
  let p := c.k.p
  let s1 := stAcc (c.st c.k.b)
  let s2 := stAcc (c.st (c.k.b + 1))
  let acc := accSum [c.co p * x, s1]
  let y := toSt acc
  let n1 := accSum [c.co (p + 1) * x, -(coefSt (c.co (p + 3)) y.v), s2]
  let n2 := accSum [c.co (p + 2) * x, -(coefSt (c.co (p + 4)) y.v)]
  let o := pickOut [(c.k.d, toSig acc)] [(c.k.b, toSt n1), (c.k.b + 1, toSt n2)]
  { o with sat := o.sat || y.sat }

/-- TRK (R168): the coefficient and state bases are those of the named BIQ pick. -/
def pickTrk (c : PickIn) : PickOut :=
  let t := pickOf (patGet c.x c.k.p)
  let x := c.sg c.k.a
  let yt := c.sg c.k.b
  let b0x := c.co t.p * x
  let yf := accSum [b0x, stAcc (c.st t.b)]
  let gap := accSum [sigAcc yt, -yf.v]
  let n1 := accSum [sigAcc yt, -b0x]
  let n2 := accSum [c.co (t.p + 2) * x, -(c.co (t.p + 4) * yt)]
  let o := pickOut [(c.k.d, toSig gap)] [(t.b, toSt n1), (t.b + 1, toSt n2)]
  { o with sat := o.sat || yf.sat }

/-- 1.0 as a Q3.44 state. -/
def oneSt : Int := 2 ^ 44

/-- XFD (R169). -/
def pickXfd (c : PickIn) : PickOut :=
  let lam := clampI 0 oneSt (c.st c.k.p)
  let a := c.sg c.k.a
  let y := accSum [sigAcc a, rne (lam * (c.sg c.k.b - a)) 15]
  let next := clampI 0 oneSt (lam + c.st (c.k.p + 1))
  let lout := if c.f 0 then [(c.k.d + 1, narrow 16 32 (exactFx lam))] else []
  pickOut ((c.k.d, toSig y) :: lout) [(c.k.p, exactFx next)]

/-- HLD (R167). -/
def pickHld (c : PickIn) : PickOut :=
  let a := exactFx (c.sg c.k.a * 2 ^ 16)
  let held := narrow 16 32 (exactFx (c.st c.k.p))
  if c.f 0 then pickOut [(c.k.d, held)] [(c.k.p, a)]
  else if c.sw c.k.b ≠ 0 then pickOut [(c.k.d, exactFx (c.sg c.k.a))] [(c.k.p, a)]
  else pickOut [(c.k.d, held)] []

/-! ## Logic and tables -/

/-- SEL (R171). -/
def pickSel (c : PickIn) : PickOut :=
  let alt := if c.f 0 then wordOfInt (coefSig (c.co c.k.p)) else c.sw (c.k.a + 1)
  copyOut c.k.d (if c.sw c.k.b ≠ 0 then c.sw c.k.a else alt)

/-- The relation of a CMP (R170) on a difference. -/
def cmpRel (op : Nat) (d : Int) : Bool :=
  match op with
  | 0 => decide (0 < d)
  | 1 => decide (0 ≤ d)
  | 2 => decide (d < 0)
  | 3 => decide (d ≤ 0)
  | 4 => decide (d = 0)
  | _ => decide (d ≠ 0)

/-- CMP (R170): exact between values in 2^-29, or by the signed 32-bit difference of the bits. -/
def pickCmp (c : PickIn) : PickOut :=
  let d : Int :=
    if c.f 4 then (c.sw c.k.a - (if c.f 3 then c.cw c.k.p else c.sw c.k.b)).toInt
    else 2 * c.sg c.k.a - (if c.f 3 then c.co c.k.p else 2 * c.sg c.k.b)
  copyOut c.k.d (truth (cmpRel (c.k.flg % 8) d))

/-- LUT (R172): the interpolation is exact before its one rounding. (DEDUCED: log entry 20) -/
def pickLut (c : PickIn) : PickOut :=
  let m := c.k.flg % 16
  let sp := c.k.flg / 16 % 4
  let u := c.sg c.k.a + 2 ^ (28 + sp)
  let at_ := fun (i : Nat) => c.co (c.k.p + i)
  if u < 0 then { copyOut c.k.d (wordOfInt (coefSig (at_ 0))) with sat := true }
  else if 2 ^ (29 + sp) ≤ u then { copyOut c.k.d (wordOfInt (coefSig (at_ (2 ^ m)))) with sat := true }
  else
    let sh := 29 + sp - m
    let i := (u / 2 ^ sh).toNat
    let f := u % 2 ^ sh
    pickOut [(c.k.d, narrow (sh + 1) 32 (exactFx (at_ i * 2 ^ sh + f * (at_ (i + 1) - at_ i))))] []

/-! ## Vectors and angles -/

/-- The Q2.29 values nearest to 1/3, 2/3, 1/√3, √3/2 (R173), and 1/2. -/
def k13 : Int := 178956971
@[inherit_doc k13] def k23 : Int := 357913941
@[inherit_doc k13] def k1r3 : Int := 309962566
@[inherit_doc k13] def kr32 : Int := 464943848
@[inherit_doc k13] def k12 : Int := 268435456

/-- CLK (R174): (1/3)·(b + c) is formed as two exact products. (DEDUCED: log entry 20) -/
def pickClk (c : PickIn) : PickOut :=
  let a := c.sg c.k.a
  let b := c.sg (c.k.a + 1)
  let x := if c.f 1 then -a - b else c.sg (c.k.a + 2)
  let zs := if c.f 0 then [(c.k.d + 2, toSig (accSum [k13 * (a + b + x)]))] else []
  pickOut ([(c.k.d, toSig (accSum [k23 * a, -(k13 * (b + x))])), (c.k.d + 1, toSig (accSum [k1r3 * (b - x)]))] ++ zs) []

/-- ICLK (R174). -/
def pickIclk (c : PickIn) : PickOut :=
  let al := c.sg c.k.a
  let be := c.sg (c.k.a + 1)
  let z := sigAcc (if c.f 0 then c.sg (c.k.a + 2) else 0)
  pickOut [(c.k.d, toSig (accSum [sigAcc al, z])), (c.k.d + 1, toSig (accSum [-(k12 * al), kr32 * be, z])),
    (c.k.d + 2, toSig (accSum [-(k12 * al), -(kr32 * be), z]))] []

/-- PRK (R175). -/
def pickPrk (c : PickIn) : PickOut :=
  let (sn, cs) := sineOf (c.sw c.k.b)
  let al := c.sg c.k.a
  let be := c.sg (c.k.a + 1)
  pickOut [(c.k.d, toSig (accSum [al * cs, be * sn])), (c.k.d + 1, toSig (accSum [-(al * sn), be * cs]))] []

/-- IPRK (R175). -/
def pickIprk (c : PickIn) : PickOut :=
  let (sn, cs) := sineOf (c.sw c.k.b)
  let d := c.sg c.k.a
  let q := c.sg (c.k.a + 1)
  pickOut [(c.k.d, toSig (accSum [d * cs, -(q * sn)])), (c.k.d + 1, toSig (accSum [d * sn, q * cs]))] []

/-- CMAG (R176). -/
def pickCmag (c : PickIn) : PickOut := pickOut [(c.k.d, cmagOf (c.sg c.k.a) (c.sg c.k.b))] []

/-- CANG (R176). -/
def pickCang (c : PickIn) : PickOut := copyOut c.k.d (wordOfInt (cangOf (c.sg c.k.a) (c.sg c.k.b)))

/-- CSIN (R176). -/
def pickCsin (c : PickIn) : PickOut :=
  let (sn, cs) := sineOf (c.sw c.k.a)
  if c.f 0 then
    pickOut [(c.k.d, toSig (exactFx (sn * c.sg c.k.b))), (c.k.d + 1, toSig (exactFx (cs * c.sg c.k.b)))] []
  else pickOut [(c.k.d, exactFx (coefSig sn)), (c.k.d + 1, exactFx (coefSig cs))] []

/-! ## Test signals -/

/-- Length L and tap k of the polynomial x^L + x^k + 1 (R178). (DEDUCED: log entry 20) -/
def prbsOf (sel : Nat) : Nat × Nat :=
  nth [(7, 6), (9, 5), (11, 9), (15, 14), (23, 18)] sel (31, 28)

/-- INJ with the binary sequence (R178): g·amp in 2^-57, and the state. -/
def injPrbs (c : PickIn) : Int × List (Nat × Nat) :=
  let cfg := (c.cw (c.k.p + 1)).toNat
  let (len, tap) := prbsOf (cfg % 8)
  let hold := max 1 (nfld cfg 15 8)
  let raw := c.raw c.k.b
  let r0 := raw % 2 ^ len
  let r := if r0 = 0 then 1 else r0
  let cnt := nfld raw 39 32
  let next := (2 * r + b2n (xor (nbit r (len - 1)) (nbit r (tap - 1)))) % 2 ^ len
  let (r', cnt') := if cnt = 0 then (next, hold - 1) else (r, cnt - 1)
  let amp := coefAcc (c.co c.k.p)
  (if nbit r' 0 then amp else -amp, [(c.k.b, r' + cnt' * 2 ^ 32)])

/-- INJ with the multisine (R179). -/
def injMulti (c : PickIn) : Int × List (Nat × Nat) :=
  let base := (c.cw (c.k.p + 1)).toNat
  let phase := c.raw c.k.b % 2 ^ 32
  let g := c.co ((base + phase / 2 ^ 24) % 2048)
  (rne (c.co c.k.p * g) 1, [(c.k.b, (phase + (c.cw (c.k.p + 2)).toNat) % 2 ^ 32)])

/-- INJ with the chirp (R179). -/
def injChirp (c : PickIn) : Int × List (Nat × Nat) :=
  let phi0 := (c.cw (c.k.p + 1)).toNat
  let delta := c.co (c.k.p + 2)
  let phi1 : Int := (c.cw (c.k.p + 3)).toNat
  let phase := c.raw c.k.b % 2 ^ 32
  let phi := if c.raw (c.k.b + 1) = 0 then phi0 else c.raw (c.k.b + 1) % 2 ^ 32
  let next : Int := phi + delta
  let passed := (decide (0 < delta) && decide (phi1 < next)) || (decide (delta < 0) && decide (next < phi1))
  (rne (c.co c.k.p * (sineUnit phase).1) 1,
    [(c.k.b, (phase + phi) % 2 ^ 32), (c.k.b + 1, if passed then phi0 else toU 32 next)])

/-- INJ (R177). -/
def pickInj (c : PickIn) : PickOut :=
  if c.k.flg % 4 = 0 then copyOut c.k.d (c.sw c.k.a) else
  let (g, sts) := match c.k.flg % 4 with
    | 1 => injPrbs c
    | 2 => injMulti c
    | _ => injChirp c
  let o := pickOut [(c.k.d, toSig (accSum [sigAcc (c.sg c.k.a), g]))] []
  { o with sts := sts.map (fun p => (p.1, (p.2 : Int))) }

/-- σ' of an RLY (R180), with A and ε in 2^-29. -/
def relayNext (sigma : Bool) (a eps : Int) : Bool :=
  if sigma && decide (a < -eps) then false else if !sigma && decide (eps < a) then true else sigma

/-- RLY (R180): what it feeds to its measurement unit. -/
def relayFeedOf (c : PickIn) : RelayFeed :=
  let h := max (c.co c.k.p) 0
  let eps := max (c.co (c.k.p + 1)) 0
  { a := c.sg c.k.a, sig := relayNext (nbit (c.raw c.k.b) 0) (2 * c.sg c.k.a) eps, h := h, eps := eps }

/-- RLY (R180): its output and state. -/
def pickRly (c : PickIn) : PickOut :=
  let r := relayFeedOf c
  let u0 := c.co (c.k.p + 2)
  pickOut [(c.k.d, narrow 1 32 (exactFx (if r.sig then u0 + r.h else u0 - r.h)))] [(c.k.b, exactFx (b2n r.sig))]

/-! ## Sorter -/

/-- Value `a` at index `i` comes before `b` at `j` (R181): ties by ascending index. -/
def ranksBefore (desc : Bool) (p q : Nat × Int) : Bool :=
  if p.2 = q.2 then decide (p.1 < q.1) else if desc then decide (q.2 < p.2) else decide (p.2 < q.2)

/-- A ranked list with one more pair. -/
def rankInsert (desc : Bool) (p : Nat × Int) : List (Nat × Int) → List (Nat × Int)
  | [] => [p]
  | q :: qs => if ranksBefore desc p q then p :: q :: qs else q :: rankInsert desc p qs

/-- The indices of the values in rank order. -/
def rankOrder (desc : Bool) (l : List (Nat × Int)) : List Nat :=
  (l.foldl (fun acc p => rankInsert desc p acc) []).map (fun p => p.1)

/-- The values of a request with their indices. -/
def sortPairs (q : SortReq) : List (Nat × Int) := (upTo 0 q.n).map (fun i => (i, (nth q.vals i 0).toInt))

/-- The order list of a request: excluded indices last in ascending order. -/
def sortOrder (q : SortReq) : List Nat :=
  rankOrder q.desc ((sortPairs q).filter (fun p => !nbit q.excl p.1)) ++ (upTo 0 q.n).filter (fun i => nbit q.excl i)

/-- The place of `i` in a list. -/
def placeOf (i : Nat) : List Nat → Nat
  | [] => 0
  | j :: js => if i = j then 0 else 1 + placeOf i js

/-- The words that a request writes (R181). -/
def sortWords (q : SortReq) : List (Nat × Word) :=
  let order := sortOrder q
  if q.ord then (upTo 0 q.n).map (fun j => (q.dst + j, w32 (nth order j 0)))
  else (upTo 0 q.n).map (fun i => (q.dst + i, if nbit q.excl i then 0xFFFFFFFF else w32 (placeOf i order)))

/-- The request of an SRT pick (R181, R212). -/
def sortReqOf (c : PickIn) : SortReq :=
  let n := c.k.p % 64
  { at_ := 5 * c.x.clocks + 32, pick := c.x.idx, dst := c.k.d, n := n, ch := c.k.flg % 4, desc := c.f 2, ord := c.f 3
    excl := if c.f 4 then (c.sw c.k.b).toNat % 2 ^ n else 0
    vals := (upTo 0 n).map (fun i => c.sw (c.k.a + i)) }

/-- The engine whose request the sorter serves next (R212): the first that arrived, of those of one clock that of the lowest index. -/
def State.sortFront (s : State) : Option Nat :=
  (upTo 0 8).foldl (fun (best : Option Nat) e =>
    match (s.eng e).sort, best with
    | some q, some b => (match (s.eng b).sort with
      | some p => if q.at_ < p.at_ then some e else best
      | none => some e)
    | some _, none => some e
    | none, _ => best) none

/-- The sorter has done a sort of 64 ns (R211, R212): its wait from arrival to start, in nanoseconds, and the count.
(DEDUCED: log entry 18) -/
def State.sortDone (s : State) (q : SortReq) : State :=
  let start := max q.at_ s.cyc.free
  let w := (start - q.at_) / 2
  let s1 := ((s.setFld SRT_WAIT 15 0 w).peak SRT_WAIT 31 16 w).count SRT_CNT 15 0 1
  { s1 with cyc := { s1.cyc with sorts := s1.cyc.sorts + 1, free := start + 128 } }

/-- A checked result is written (R181, R213): the pick is over. -/
def State.sortReleased (s : State) (e : Nat) (q : SortReq) : State :=
  let x := s.eng e
  let l : LaneRec := { done := s.cyc.sorts, ch := q.ch, order := sortOrder q, desc := q.desc, excl := q.excl }
  (s.setEng e { x with sort := none, lanes := x.lanes ++ [l] }).pickDone e 224 { words := sortWords q, sts := [], sat := false }

/-! ## The commands -/

/-- NOP (R183). -/
def execNop (e : Fin 8) (s : State) : Res :=
  (s.runPick e 0x01 1 (fun _ => { words := [], sts := [], sat := false })).done

/-- END (R183). -/
def execEndPass (e : Fin 8) (s : State) : Res := (s.atPick e 0x02 (fun s => s.endReached e)).done

/-- LDC (R159). -/
def execLdc (e : Fin 8) (s : State) : Res := (s.runPick e 0x04 1 pickLdc).done

/-- GAIN (R160). -/
def execGain (e : Fin 8) (s : State) : Res := (s.runPick e 0x05 1 pickGain).done

/-- SUM (R161). -/
def execSum (e : Fin 8) (s : State) : Res := (s.runPick e 0x06 1 pickSum).done

/-- MUL (R162). -/
def execMul (e : Fin 8) (s : State) : Res := (s.runPick e 0x07 1 pickMul).done

/-- DIV (R163). -/
def execDiv (e : Fin 8) (s : State) : Res := (s.runPick e 0x08 8 pickDiv).done

/-- LIM (R164): with REP a clamp sets the pick's bit of the saturation map, and nothing else. -/
def execLim (e : Fin 8) (s : State) : Res :=
  let i := (s.eng e).idx
  let rep := s.pickReady e 0x09 && (s.badRead e).isNone && limReports (s.pickIn e)
  let s1 := s.runPick e 0x09 1 pickLim
  (if rep then s1.setBit (HDL_SATMAP e (i / 32)) (i % 32) true else s1).done

/-- RAT (R166). -/
def execRat (e : Fin 8) (s : State) : Res := (s.runPick e 0x0A 2 pickRat).done

/-- BIQ (R165). -/
def execBiq (e : Fin 8) (s : State) : Res := (s.runPick e 0x0C 2 pickBiq).done

/-- TRK (R168). -/
def execTrk (e : Fin 8) (s : State) : Res := (s.runPick e 0x0D 2 pickTrk).done

/-- XFD (R169). -/
def execXfd (e : Fin 8) (s : State) : Res := (s.runPick e 0x0E 2 pickXfd).done

/-- HLD (R167). -/
def execHld (e : Fin 8) (s : State) : Res := (s.runPick e 0x10 1 pickHld).done

/-- SEL (R171). -/
def execSel (e : Fin 8) (s : State) : Res := (s.runPick e 0x11 1 pickSel).done

/-- CMP (R170). -/
def execCmp (e : Fin 8) (s : State) : Res := (s.runPick e 0x12 1 pickCmp).done

/-- LUT (R172). -/
def execLut (e : Fin 8) (s : State) : Res := (s.runPick e 0x13 2 pickLut).done

/-- CLK (R174). -/
def execClk (e : Fin 8) (s : State) : Res := (s.runPick e 0x14 2 pickClk).done

/-- ICLK (R174). -/
def execIclk (e : Fin 8) (s : State) : Res := (s.runPick e 0x15 2 pickIclk).done

/-- PRK (R175). -/
def execPrk (e : Fin 8) (s : State) : Res := (s.runPick e 0x16 2 pickPrk).done

/-- IPRK (R175). -/
def execIprk (e : Fin 8) (s : State) : Res := (s.runPick e 0x17 2 pickIprk).done

/-- CMAG (R176). -/
def execCmag (e : Fin 8) (s : State) : Res := (s.runPick e 0x18 4 pickCmag).done

/-- CANG (R176). -/
def execCang (e : Fin 8) (s : State) : Res := (s.runPick e 0x19 4 pickCang).done

/-- CSIN (R176). -/
def execCsin (e : Fin 8) (s : State) : Res := (s.runPick e 0x1A 2 pickCsin).done

/-- INJ (R177). -/
def execInj (e : Fin 8) (s : State) : Res := (s.runPick e 0x1C 2 pickInj).done

/-- RLY (R180): with MEAS it feeds its unit; of two in a pass the later stands. -/
def execRly (e : Fin 8) (s : State) : Res :=
  (s.atPick e 0x1D (fun s =>
    let c := s.pickIn e
    let s1 := s.pickDone e 1 (pickRly c)
    if c.f 2 then s1.setRelay e (c.k.flg % 4) { s1.relay e (c.k.flg % 4) with feed := some (relayFeedOf c) } else s1)).done

/-- SRT (R181, R212): the operands are read and the request is queued; the engine waits for SORT_COMPLETE.
(DEDUCED: log entry 18) -/
def execSrt (e : Fin 8) (s : State) : Res :=
  (s.atPick e 0x1E (fun s => s.setEng e { s.eng e with sort := some (sortReqOf (s.pickIn e)) })).done

/-- SORT_COMPLETE (R212, R213): of the request at the front; a result that fails its check or misses its bound is withheld, and the
run is aborted (R147). (DEDUCED: log entry 18) -/
def execSortComplete (e : Fin 8) (checkFail late : Bool) (s : State) : Res :=
  (match (s.eng e).sort with
   | none => s
   | some q =>
     if s.sortFront != some e.val then s
     else if checkFail || late then
       ((((s.sortDone q).count SRT_CNT 31 16 1).orReg SRT_EVENTS (if checkFail then 2 else 1)).abortRun e).raise 0x0306 e
     else (s.sortDone q).sortReleased e q).done

/-- WEV (R182): the later binding of a channel stands. -/
def execWev (e : Fin 8) (s : State) : Res :=
  (s.atPick e 0x1F (fun s =>
    let k := s.curPick e
    let s1 := s.setEng e { s.eng e with binds := (k.p, k.a, k.b) :: (s.eng e).binds.filter (fun b => b.1 != k.p) }
    s1.pickDone e 1 { words := [], sts := [], sat := false })).done

end Sys2Proof.Machine
end

