-- ==== Sys2Proof/Machine/Weaver.lean ====
section
/-! DEFINITION. The Weaver (R184 to R207) and the cell redundancy (R216 to R223): the shadow of its settings and how it is applied
at t_out, marks and returns, bypass commands, headroom, and the sets it builds into the back Draft bank. -/

namespace Sys2Proof.Machine

/-! ## Channels -/

/-- KIND, OWNER and INDEX of channel `n` (R184). -/
def State.chKind (s : State) (n : Nat) : Nat := s.fld (WVR_CH_CFG n) 2 0
@[inherit_doc State.chKind] def State.chOwner (s : State) (n : Nat) : Nat := s.fld (WVR_CH_CFG n) 6 4
@[inherit_doc State.chKind] def State.chIndex (s : State) (n : Nat) : Nat := s.fld (WVR_CH_CFG n) 12 8

/-- The channels that are not disabled: a register that is not listed reads KIND 0. -/
def State.channels (s : State) : List Nat :=
  (s.regs.filter (fun p => decide (WVR_CH_CFG 0 ≤ p.1) && decide (p.1 ≤ WVR_CH_CFG 1023) && fld p.2 2 0 != 0)).map
    (fun p => (p.1 - WVR_CH_CFG 0) / 4)

/-- The channel of a kind and index. -/
def State.findChan (s : State) (kind idx : Nat) : Option Nat :=
  s.channels.find? (fun n => s.chKind n == kind && s.chIndex n == idx)

/-- Quad `q` has DAB legs, or LV legs, enabled. -/
def State.dabEn (s : State) (q : Nat) : Bool := s.bit (WVR_QUAD_CFG q) 0
@[inherit_doc State.dabEn] def State.lvEn (s : State) (q : Nat) : Bool := s.bit (WVR_QUAD_CFG q) 1

/-- Channel `n` feeds an enabled target (R188). -/
def State.feedsEnabled (s : State) (n : Nat) : Bool :=
  let i := s.chIndex n
  match s.chKind n with
  | 1 => decide ((s.reg (WVR_STR_EN i)).toNat ≠ 0)
  | 2 => decide ((s.reg (WVR_STR_EN i)).toNat ≠ 0) && s.fld (WVR_STR_CFG i) 1 0 != 0
  | 3 => s.dabEn i || s.lvEn i
  | _ => false

/-- The Weaver has an enabled target fed from engine `e` (R150). -/
def State.engineFeeds (s : State) (e : Nat) : Bool := s.channels.any (fun n => s.chOwner n == e && s.feedsEnabled n)

/-- Channel `n` is fresh at this t_out (R186): its owner has committed in this cycle and bound it, and no bound word is
poisoned (R310). -/
def State.freshNow (s : State) (n : Nat) : Bool :=
  let x := s.eng (s.chOwner n)
  x.did && x.bound.any (fun b => b.1 == n && !(upTo b.2.1 b.2.2).any (fun w => s.poisoned (sigAddr (s.chOwner n) w)))

/-- A channel of a kind and index exists and is fresh. -/
def State.chanFresh (s : State) (kind idx : Nat) : Bool :=
  match s.findChan kind idx with
  | some n => s.freshNow n
  | none => false

/-- Words of channel `n` in its last fresh cycle. -/
def State.chWords (s : State) (n : Nat) : List Word := Sparse.get (fun _ => []) s.wvr.words n

/-- Consecutive stale cycles of the channel of a kind and index; one that is absent counts as held. -/
def State.chanAge (s : State) (kind idx : Nat) : Nat :=
  match s.findChan kind idx with
  | some n => s.fld (WVR_CH_CFG n) 30 24
  | none => 3

/-- The Weaver finds the poisoned words that channel `n` binds (R310): an error for each. -/
def State.boundErrors (s : State) (n : Nat) : State :=
  let e := s.chOwner n
  let x := s.eng e
  let ws := if x.did then x.bound.flatMap (fun b => if b.1 = n then upTo b.2.1 b.2.2 else []) else []
  forEach (fun s w => if s.poisoned (sigAddr e w) then s.eccFound (sigAddr e w) 0x18 0 2 else s) ws s

/-- The channels take their words, or age (R186). -/
def State.ageChannels (s0 : State) : State :=
  let s := forEach State.boundErrors s0.channels s0
  forEach (fun s n =>
    if s.freshNow n then
      let x := s.eng (s.chOwner n)
      let ws := match x.bound.find? (fun b => b.1 == n) with
        | some b => (upTo b.2.1 b.2.2).map (sigRead x)
        | none => []
      let s1 : State := { s with wvr := { s.wvr with words := Sparse.set (fun _ => []) s.wvr.words n ws } }
      (s1.setFld (WVR_CH_CFG n) 30 24 0).setBit (WVR_CH_CFG n) 31 true
    else (s.count (WVR_CH_CFG n) 30 24 1).setBit (WVR_CH_CFG n) 31 false) s.channels s

/-- A standby weaves nothing: no channel is fresh at its t_out (R186, R210). (DEDUCED: log entry 25) -/
def State.restChannels (s : State) : State := forEach (fun s n => s.setBit (WVR_CH_CFG n) 31 false) s.channels s

/-- Fault 0x0406 while a channel that feeds an enabled target is held (R186); its event is that of the raise. -/
def State.staleHolds (s : State) : State :=
  forEach (fun s e =>
    let on := s.channels.any (fun n => s.chOwner n == e && decide (3 ≤ s.fld (WVR_CH_CFG n) 30 24) && s.feedsEnabled n)
    let held := s.flt.causes.any (fun c => c.1 == 0x0406 && c.2 == e)
    (if on && !held then s.orReg WVR_EVENTS 0x10 else s).holdTag 0x0406 e e on) (upTo 0 8) s

/-! ## Slots and references -/

/-- S_(k+j) in 2^-16 ns (R84). -/
def State.slotStart (s : State) (j : Nat) : Nat := (s.tim.nextB + (j - 1) * ns s.tcyc) % 2 ^ 64

/-- The carrier reference R_s, and the DAB reference R_q. -/
def State.strRef (s : State) (i : Nat) : Option Nat := Sparse.get (fun _ => none) s.wvr.strRef i
@[inherit_doc State.strRef] def State.quadRef (s : State) (q : Nat) : Option Nat := Sparse.get (fun _ => none) s.wvr.quadRef q

/-- The state with a reference set. -/
def State.setStrRef (s : State) (i : Nat) (v : Option Nat) : State :=
  { s with wvr := { s.wvr with strRef := Sparse.set (fun _ => none) s.wvr.strRef i v } }
@[inherit_doc State.setStrRef] def State.setQuadRef (s : State) (q : Nat) (v : Option Nat) : State :=
  { s with wvr := { s.wvr with quadRef := Sparse.set (fun _ => none) s.wvr.quadRef q v } }

/-- A reference after a change of period that keeps the phase at S (R204), in nanoseconds; the reference is a 48.16 time, so
the exact value is rounded. -/
def rephase (sl ref old new : Nat) : Nat :=
  toU 64 ((sl : Int) - roundDiv ((tdiff sl ref % (ns old : Nat)) * (new : Int)) old)

/-- The reference advanced by whole periods to the last one at or before S. (DEDUCED: log entry 25) -/
def advanceRef (sl ref per : Nat) : Nat := if per = 0 then ref else toU 64 ((sl : Int) - tdiff sl ref % (ns per : Nat))

/-! ## The registers of R187 -/

/-- The registers that the shadow governs. -/
inductive WvrReg where
  | ctrl
  | phMax
  | bypAddr
  | bypWord
  | bypTmo
  | strCfg (i : Nat)
  | carPer (i : Nat)
  | strEn (i : Nat)
  | oosSet (i : Nat)
  | oosClr (i : Nat)
  | rwv (i : Nat)
  | demand (i : Nat)
  | carPh (i p : Nat)
  | quadPer (q : Nat)
  | quadCfg (q : Nat)
  | channel (n : Nat)
  | none
  deriving DecidableEq, Repr

/-- The register at an address. -/
def wvrReg (a : Nat) : WvrReg :=
  let o := a - 0x24000000
  if o = 0 then .ctrl else if o = 0x18 then .phMax else if o = 0x40 then .bypAddr
  else if o = 0x44 || o = 0x48 then .bypWord else if o = 0x4C then .bypTmo
  else if 0x100 ≤ o ∧ o < 0x160 then
    let i := (o - 0x100) / 0x20
    (match (o - 0x100) % 0x20 with
     | 0x00 => .strCfg i
     | 0x04 => .carPer i
     | 0x08 => .strEn i
     | 0x14 => .oosSet i
     | 0x18 => .oosClr i
     | 0x1C => .rwv i
     | _ => .none)
  else if 0x180 ≤ o ∧ o < 0x1B0 then (if o % 0x10 = 0 then .demand ((o - 0x180) / 0x10) else .none)
  else if 0x400 ≤ o ∧ o < 0x580 then .carPh ((o - 0x400) / 0x80) ((o - 0x400) % 0x80 / 4)
  else if 0x800 ≤ o ∧ o < 0x980 then
    (match o % 0x10 with
     | 0 => .quadPer ((o - 0x800) / 0x10)
     | 4 => .quadCfg ((o - 0x800) / 0x10)
     | _ => .none)
  else if 0x1000 ≤ o ∧ o < 0x2000 then .channel ((o - 0x1000) / 4)
  else .none

/-- The unit of fault 0x0405 (R303): the string or quad of the register. -/
def wvrUnit (r : WvrReg) : Nat :=
  match r with
  | .strCfg i => i
  | .carPer i => i
  | .strEn i => i
  | .oosSet i => i
  | .oosClr i => i
  | .rwv i => i
  | .demand i => i
  | .carPh i _ => i
  | .quadPer q => q
  | .quadCfg q => q
  | _ => 31

/-- The bits of a register that enable targets. -/
def enMask (r : WvrReg) : Nat :=
  match r with
  | .strEn _ => 0xFFFFFFFF
  | .quadCfg _ => 3
  | _ => 0

/-- A write newly enables a target (R187). -/
def State.enables (s : State) (w : WvrWrite) : Bool :=
  let m := enMask (wvrReg w.addr)
  andNot (Nat.land w.val.toNat m) (s.reg w.addr).toNat != 0

/-- A write only disables targets (R187). -/
def State.onlyDisables (s : State) (w : WvrWrite) : Bool :=
  let m := enMask (wvrReg w.addr)
  let old := (s.reg w.addr).toNat
  !s.enables w && andNot (Nat.land old m) w.val.toNat != 0 && andNot w.val.toNat m == andNot old m

/-- A write belongs to the third step (R187). -/
def State.lastStep (s : State) (w : WvrWrite) : Bool :=
  s.enables w || (match wvrReg w.addr with
    | .oosSet _ => true
    | .oosClr _ => true
    | _ => false)

/-- The address of cell `c` of the machine on its ring (R17). -/
def State.cellAddr (s : State) (c : Nat) : Option Nat := mapAddr (s.ring (c / 32)) 0 (c % 32)

/-- The node of cell `c` is admitted. -/
def State.cellAdmitted (s : State) (c : Nat) : Bool :=
  match s.cellAddr c with
  | some a => (s.rnode (c / 32) a).admitted
  | none => false

/-- The LV bridge node of quad `q` is admitted. -/
def State.lvAdmitted (s : State) (q : Nat) : Bool :=
  match mapAddr (s.ring 3) 1 q with
  | some a => (s.rnode 3 a).admitted
  | none => false

/-- The conditions of R188 for newly enabled legs of string `i`. -/
def State.strEnOk (s : State) (i v : Nat) : Bool :=
  let mode := s.fld (WVR_STR_CFG i) 1 0
  (setBits (andNot v (s.reg (WVR_STR_EN i)).toNat) 32).all (fun p => s.cellAdmitted (32 * i + p)) && !s.armBlock i
    && s.chanFresh 1 i && (mode == 0 || s.chanFresh 2 i) && (s.reg (WVR_STR_CAR_PER i)).toNat != 0 && mode != 3

/-- The conditions of R188 for newly enabled legs of quad `q`. -/
def State.quadEnOk (s : State) (q : Nat) (v : Word) : Bool :=
  let dab := bit v 0 && !s.dabEn q
  let lv := bit v 1 && !s.lvEn q
  (!dab || ((upTo (4 * q) 4).all s.cellAdmitted && !s.armBlock (q / 8))) && (!lv || (s.lvAdmitted q && !s.armBlock 3))
    && s.chanFresh 3 q && (s.reg (WVR_QUAD_PER q)).toNat != 0

/-- Populated positions of string `i` that a mask marks. -/
def State.outCount (s : State) (i m : Nat) : Nat :=
  ((upTo 0 32).filter (fun p => nbit m p && (s.cellAddr (32 * i + p)).isSome)).length

/-- The node of cell `c` is admitted, present and SYNC_OK (R220). -/
def State.cellSound (s : State) (c : Nat) : Bool :=
  match s.cellAddr c with
  | some a => (s.rnode (c / 32) a).admitted && nbit (s.ring (c / 32)).last a && recState (s.rnode (c / 32) a) 6
  | none => false

/-- INDEX is a string or a quad, by KIND (R185, R210). -/
def chRange (kind i : Nat) : Bool := if kind = 0 then true else if kind = 3 then decide (i ≤ 23) else decide (i ≤ 2)

/-- Channel `n` may take a configuration (R184, R185, R210). -/
def State.chOk (s : State) (n : Nat) (v : Word) : Bool :=
  let kind := fld v 2 0
  let i := fld v 12 8
  (kind == 0 || !(s.channels.any (fun x => x != n && s.chKind x == kind && s.chIndex x == i)))
    && (kind == s.chKind n || !s.feedsEnabled n)

/-- A period in range: a multiple of 8 (R204), or 0 for none. -/
def periodOk (v lo hi : Nat) : Bool := v == 0 || (decide (v % 8 = 0) && decide (lo ≤ v) && decide (v ≤ hi))

/-- The value written is one that its register refuses in no state (R204, R209, R210, R226). (DEDUCED: log entry 24) -/
def wvrShape (w : WvrWrite) : Bool :=
  let v := w.val.toNat
  match wvrReg w.addr with
  | .phMax => decide (v ≤ 0x8000)
  | .bypAddr => v == 0 || decide (0xFFFF < v)
  | .bypTmo => decide (1 ≤ v) && decide (v ≤ 1000)
  | .strCfg _ => decide (v % 4 ≠ 3)
  | .carPer _ => periodOk v 8000 2097144
  | .rwv _ => decide (1 ≤ fld w.val 5 0) && decide (fld w.val 5 0 ≤ 32) && decide (fld w.val 14 12 ≤ 4)
  | .quadPer _ => periodOk v 50000 200000
  | .channel _ => decide (fld w.val 2 0 ≤ 3) && chRange (fld w.val 2 0) (fld w.val 12 8)
  | .none => false
  | _ => true

/-- A write is accepted (R187), judged against the state as it stands. (DEDUCED: log entry 24) -/
def State.wvrOk (s : State) (w : WvrWrite) : Bool :=
  let v := w.val.toNat
  wvrShape w &&
  match wvrReg w.addr with
  | .carPer i => v != 0 || (s.reg (WVR_STR_EN i)).toNat == 0
  | .strEn i => !s.enables w || s.strEnOk i v
  | .oosSet i =>
    let old := s.outCount i (s.reg (WVR_STR_OOS i)).toNat
    let new := s.outCount i (Nat.lor (s.reg (WVR_STR_OOS i)).toNat v)
    decide (new ≤ old) || decide (new ≤ s.fld (WVR_STR_RWV i) 14 12)
  | .oosClr i => (setBits v 32).all (fun p => s.cellSound (32 * i + p))
  | .rwv i => decide (s.outCount i (s.reg (WVR_STR_OOS i)).toNat ≤ fld w.val 14 12)
  | .quadPer q => v != 0 || !(s.dabEn q || s.lvEn q)
  | .quadCfg q => !s.enables w || s.quadEnOk q w.val
  | .channel n => s.chOk n w.val
  | _ => true

/-! ## Marks and returns -/

/-- BYPASS_CLOSED in the last valid record of cell `c`. -/
def State.bypClosed (s : State) (c : Nat) : Bool :=
  match s.cellAddr c with
  | some a => recState (s.rnode (c / 32) a) 4
  | none => false

/-- The node of cell `c` is admitted and present. -/
def State.cellPresent (s : State) (c : Nat) : Bool :=
  match s.cellAddr c with
  | some a => (s.rnode (c / 32) a).admitted && nbit (s.ring (c / 32)).last a
  | none => false

/-- A valid record of cell `c` has come in this cycle (R216), its node admitted or not. -/
def State.cellReports (s : State) (c : Nat) : Bool :=
  match s.cellAddr c with
  | some a => nbit (s.ring (c / 32)).last a
  | none => false

/-- The bypass procedure of a marked or returning cell (R219, R220): a command is due, or, for a return, only its time limit
runs. (DEDUCED: log entry 26) -/
def State.bypStart (s : State) (c : Nat) (isOpen : Bool) : State :=
  if s.cellPresent c && (s.reg WVR_BYP_ADDR).toNat != 0 && s.bypClosed c == isOpen then
    s.setBypTask c (some { isOpen := isOpen, npad := 4, tries := 0, taken := false })
  else if isOpen then s.setBypTask c (some { isOpen := true, npad := 4, tries := 0, taken := true })
  else s.setBypTask c none

/-- The cells of a mask of string `i` are marked (R216, R217): a return under way is cancelled. (DEDUCED: log entry 15) -/
def State.markCells (s : State) (i mask : Nat) : State :=
  let fresh := Nat.lor (andNot mask (s.reg (WVR_STR_OOS i)).toNat) (Nat.land mask (s.reg (WVR_STR_RET i)).toNat)
  let s1 := (s.orReg (WVR_STR_OOS i) mask).clrReg (WVR_STR_RET i) mask
  forEach (fun s p => s.bypStart (32 * i + p) false) (setBits fresh 32) s1

/-- The cells of a mask of string `i` become returning (R220), but for those `set` marks at the same t_out. -/
def State.returnCells (s : State) (i mask set : Nat) : State :=
  let m := andNot (Nat.land mask (s.reg (WVR_STR_OOS i)).toNat) (Nat.lor set (s.reg (WVR_STR_RET i)).toNat)
  forEach (fun s p => s.bypStart (32 * i + p) true) (setBits m 32) (s.orReg (WVR_STR_RET i) m)

/-- The mask of the positions of string `i` that meet a condition. -/
def cellMask (f : Nat → Bool) : Nat := (upTo 0 32).foldl (fun a p => a + b2n (f p) * 2 ^ p) 0

/-- Address `a` of ring `r` is lost. -/
def State.lostAt (s : State) (r : Nat) (a : Option Nat) : Bool :=
  match a with
  | some x => (s.rnode r x).lost
  | none => false

/-- The condition of an automatic mark of position `p` of string `i` (R216). -/
def State.autoCond (s : State) (i p : Nat) : Bool :=
  let c := 32 * i + p
  let inServ := !s.bit (WVR_STR_OOS i) p
  (s.cellAddr c).isSome
    && ((s.bit (WVR_STR_RWV i) 10 && (inServ || s.bit (WVR_STR_RET i) p)
          && (s.lostAt i (s.cellAddr c) || s.lostAt 3 (mapAddr (s.ring 3) 1 (c / 4))))
        || (s.bit (WVR_STR_RWV i) 11 && inServ && s.cellReports c && s.bypClosed c))

/-- Automatic marks of string `i` (R216, R218), journaled, and fault 0x040A where they exceed MAX_OUT.
(DEDUCED: log entry 15) -/
def State.autoMark (s : State) (i : Nat) : State :=
  let m := cellMask (s.autoCond i)
  if m = 0 then s else
  let old := s.reg (WVR_STR_OOS i)
  let s1 := s.markCells i m
  let s2 := s1.journal (originBlk 0x04 i) 0x01 false (WVR_STR_OOS i) old (s1.reg (WVR_STR_OOS i))
  if s2.fld (WVR_STR_RWV i) 14 12 < s2.outCount i (s2.reg (WVR_STR_OOS i)).toNat then
    (s2.orReg WVR_RWV_EVENTS (2 ^ (8 + i))).raise 0x040A i
  else s2

/-- Cells that were returning before this t_out, still are, and show their bypass open return to service (R220). -/
def State.finishReturns (s : State) (i before : Nat) : State :=
  let m := cellMask (fun p => nbit before p && s.bit (WVR_STR_RET i) p && !s.bypClosed (32 * i + p))
  if m = 0 then s else
  let old := s.reg (WVR_STR_OOS i)
  let s1 := (s.clrReg (WVR_STR_OOS i) m).clrReg (WVR_STR_RET i) m
  (forEach (fun s p => s.setBypTask (32 * i + p) none) (setBits m 32) s1).journal (originBlk 0x04 i) 0x01 false
    (WVR_STR_OOS i) old (s1.reg (WVR_STR_OOS i))

/-- A bypass that a command has closed is reported closed (R219). (DEDUCED: log entry 26) -/
def State.finishBypasses (s : State) : State :=
  forEach (fun s p => match p.2 with
    | some t => if !t.isOpen && s.bypClosed p.1 then s.setBypTask p.1 none else s
    | none => s) s.wvr.tasks s

/-! ## Applying the shadow -/

/-- ANY_EN (R209). -/
def State.showEn (s : State) : State :=
  s.setBit WVR_STATUS 1 ((upTo 0 3).any (fun i => (s.reg (WVR_STR_EN i)).toNat != 0)
    || (upTo 0 24).any (fun q => s.dabEn q || s.lvEn q))

/-- A newly enabled target arms TB0, but not by a mirrored write on a standby (R52). -/
def State.armIf (s : State) (on : Bool) : State := if on && !s.standby then s.arm else s

/-- The effect of an accepted write beside the register (R198, R202, R204, R216, R220). -/
def State.wvrEffect (s : State) (w : WvrWrite) (set : Nat) (old : State) : State :=
  let v := w.val.toNat
  match wvrReg w.addr with
  | .carPer i =>
    let p := (old.reg w.addr).toNat
    (match s.strRef i with
     | some r => if p ≠ 0 ∧ v ≠ 0 then s.setStrRef i (some (rephase (s.slotStart 2) r p v)) else s
     | none => s)
  | .quadPer q =>
    let p := (old.reg w.addr).toNat
    (match s.quadRef q with
     | some r => if p ≠ 0 ∧ v ≠ 0 then s.setQuadRef q (some (rephase (s.slotStart 2) r p v)) else s
     | none => s)
  | .strEn i =>
    let s1 := if v ≠ 0 ∧ (s.strRef i).isNone then s.setStrRef i (some (s.slotStart 2)) else s
    s1.showEn.armIf (old.enables w)
  | .quadCfg q =>
    let s1 := if v % 4 ≠ 0 ∧ (s.quadRef q).isNone then s.setQuadRef q (some (s.slotStart 2)) else s
    s1.showEn.armIf (old.enables w)
  | .oosSet i => s.markCells i v
  | .oosClr i => s.returnCells i v set
  | .channel n =>
    if s.chKind n = fld (old.reg w.addr) 2 0 then s
    else { s with wvr := { s.wvr with words := Sparse.set (fun _ => []) s.wvr.words n [] } }
  | _ => s

/-- The strobes store nothing. -/
def wvrStrobe (r : WvrReg) : Bool :=
  match r with
  | .oosSet _ => true
  | .oosClr _ => true
  | _ => false

/-- What a register holds after a write: FRESH and STALE of a channel stay, but for one that is disabled (R210). -/
def State.wvrValue (s : State) (w : WvrWrite) : Word :=
  match wvrReg w.addr with
  | .channel _ => putFld w.val 31 24 (if fld w.val 2 0 = 0 then 0 else s.fld w.addr 31 24)
  | _ => w.val

/-- A write that is judged and applied, or refused (R187); a mirrored write has been accepted by the active module (R260); `sets` are the marks accepted at this t_out, per string.
(DEDUCED: log entry 24) -/
def State.wvrTake (p : State × List Nat) (w : WvrWrite) : State × List Nat :=
  let s := p.1
  let r := wvrReg w.addr
  if w.m == .mirror || s.wvrOk w then
    let s1 := if wvrStrobe r then s.strobeJ w.m w.addr w.val else s.writeJ w.m w.addr (s.wvrValue w)
    let s2 := s1.wvrEffect w (nth p.2 (wvrUnit r) 0) s
    let sets := match r with
      | .oosSet i => setNth p.2 i (Nat.lor (nth p.2 i 0) w.val.toNat)
      | _ => p.2
    (s2.mirror w.m w.addr w.val, sets)
  else ((s.orReg WVR_EVENTS 8).refuse 0x0405 (wvrUnit r) w.addr w.m, p.2)

/-- One step of R187: the writes that meet `now` are taken in order, the others are left. -/
def wvrStep (now : State → WvrWrite → Bool) : List WvrWrite → State × List Nat → (State × List Nat) × List WvrWrite
  | [], p => (p, [])
  | w :: ws, p =>
    if now p.1 w then wvrStep now ws (State.wvrTake p w)
    else
      let r := wvrStep now ws p
      (r.1, w :: r.2)

/-- RUN leaves stopping once no target is enabled (R424). -/
def State.stopComplete (s : State) : State :=
  if s.run = 3 && !s.anyEn then s.setRun (if s.flt.order.any (fun r => 4 ≤ s.recClass r) then 0 else 1) else s

/-- The shadow is applied at t_out in three steps (R187). (DEDUCED: log entry 24) -/
def State.wvrConfig (s : State) : State :=
  let ws := s.wvr.shadow
  let s0 : State := { s with wvr := { s.wvr with shadow := [] } }
  let (p1, l1) := wvrStep State.onlyDisables ws (s0, [0, 0, 0])
  let (p2, l2) := wvrStep (fun s w => !s.lastStep w) l1 p1
  let (p3, _) := wvrStep (fun _ _ => true) l2 p2
  p3.1.stopComplete

/-- A write joins the shadow (R187). A standby refuses it from firmware and the host (R260); a value that no state accepts is
refused at once; what the seed loader writes, before any t_out, is applied as it is written (R420).
(DEDUCED: log entry 24) -/
def State.wvrWrite (s : State) (m : Master) (a : Nat) (v : Word) : State :=
  let w : WvrWrite := { addr := a, val := v, m := m }
  if s.mirrorBars m then s.mirrorRefuse a m
  else if m != .mirror && !wvrShape w then (s.orReg WVR_EVENTS 8).refuse 0x0405 (wvrUnit (wvrReg a)) a m
  else match m with
  | .loader _ => (State.wvrTake (s, [0, 0, 0]) w).1
  | _ => { s with wvr := { s.wvr with shadow := s.wvr.shadow ++ [{ addr := a, val := v, m := m }] } }

/-! ## Headroom (R223) -/

/-- Enabled cells in service of string `i`, as a mask. -/
def State.inService (s : State) (i : Nat) : Nat := andNot (s.reg (WVR_STR_EN i)).toNat (s.reg (WVR_STR_OOS i)).toNat

/-- N of string `i`. -/
def State.strN (s : State) (i : Nat) : Nat := popcount 32 (s.inService i)

/-- The set of enabled cells in service, as the Weaver uses it at this t_out (R221). -/
def State.reweave (s : State) (i : Nat) : State :=
  let now := s.inService i
  let s1 := s.setReg (WVR_STR_NIN i) (w32 (s.strN i))
  if Sparse.get (fun _ => 0) s.wvr.inUse i = now then s1
  else ({ s1 with wvr := { s1.wvr with inUse := Sparse.set (fun _ => 0) s1.wvr.inUse i now } } : State).orReg WVR_RWV_EVENTS
    (2 ^ i)

/-- WVR_STRs_HEAD and the derated state change, journaled at entry and exit. -/
def State.setDerated (s : State) (i : Nat) (on : Bool) (head : Word) : State :=
  let was := s.wvr.derated.getLsbD i
  let old := s.reg (WVR_STR_HEAD i)
  let s1 := s.setReg (WVR_STR_HEAD i) head
  if was = on then s1 else
  let s2 : State := { s1 with wvr := { s1.wvr with derated := bvPut s1.wvr.derated i on } }
  let s3 := s2.journal (originBlk 0x04 i) 0x01 false (WVR_STR_HEAD i) old head
  (if on then s3.orReg WVR_RWV_EVENTS (2 ^ (4 + i)) else s3).holdTag 0x0409 i i on

/-- The headroom of string `i`, and whether it is derated. -/
def State.derate (s : State) (i : Nat) : State :=
  let n : Int := s.strN i
  let ref : Int := max 1 (s.fld (WVR_STR_RWV i) 5 0)
  let dem : Int := s.fld (WVR_STR_DEMAND i) 15 0
  let lim : Int := s.fld (WVR_STR_DEMAND i) 31 16
  let h := clampI (-32768) 32767 ((n * 65536 - dem * ref) / ref)
  let word := fun (dr : Int) => w32 (dr.toNat * 65536 + toU 16 h)
  if dem = 0 then s.setDerated i false (word 0x8000)
  else if n = 0 then s
  else if n * 65536 - dem * ref < lim * ref then
    s.setDerated i true (word (clampI 0 0x8000 (32768 * (n * 65536 - lim * ref) / (ref * dem))))
  else s.setDerated i false (word 0x8000)

/-! ## Times and entries -/

/-- A time in 1/den of 2^-16 ns rounded to 125 ps, ties to the later (R196). -/
def onGrid (num den : Int) : Int := (2 * num + den * 8192) / (2 * den * 8192) * 8192

/-- What a leg does in a slot (R189 to R202): HOLD, a level, or a pattern of period `per` nanoseconds, with its rising edge at
the phase num/den turn of the reference `ref`. -/
inductive LegCmd where
  | hold
  | edge (level : Bool)
  | periodic (per ref duty : Nat) (num den : Int)
  deriving DecidableEq, Repr

/-- T of a command in the slot that starts at `sl` (R189, R196, R199 to R202). (DEDUCED: log entry 25) -/
def cmdTime (sl : Nat) (c : LegCmd) : Int :=
  match c with
  | .periodic per ref _ num den =>
    let p : Int := (ns per : Nat)
    onGrid ((sl : Int) * den - (tdiff sl ref * den - num * p) % (p * den)) den
  | _ => onGrid sl 1

/-- The entry of a command (R191). -/
def entryOf (r a tgt seq mand : Nat) (firm : Bool) (sl : Nat) (eps : Int) (c : LegCmd) : Entry :=
  let t := toU 64 (cmdTime sl c + eps)
  let (type, param, duty) : Nat × Nat × Nat := match c with
    | .hold => (0, 0, 0)
    | .edge l => (1, b2n l, 0)
    | .periodic per _ d _ _ => (2, per / 8, d)
  { time := BitVec.ofNat 64 (t + duty)
    ctrl := BitVec.ofNat 64 (a + r * 2 ^ 6 + tgt * 2 ^ 8 + type * 2 ^ 11 + b2n firm * 2 ^ 13 + param * 2 ^ 14 + seq * 2 ^ 32
      + mand * 2 ^ 48) }

/-- A pattern, or a level where the duty has rounded to the whole period (R199, R201). -/
def patternOr (per ref : Nat) (duty num den : Int) : LegCmd :=
  if 8192 ≤ duty then .edge true else .periodic per ref duty.toNat num den

/-! ## Strings (R198 to R201, R222) -/

/-- What the Weaver forms of a string: mode, N, the cells counted in it, m_eff in 1/(2^28·N), the cells inserted, the PWM
cell and its fraction in 2^-28, and the clamps. -/
structure StrPlan where
  mode     : Nat
  n        : Nat
  cells    : List Nat
  meff     : Int
  inserted : List Nat
  pwm      : Option Nat
  frac     : Int
  clamps   : Nat
  deriving DecidableEq, Repr

/-- The walk of R200: the cells that the ORDER words name, each once, of those counted in N. -/
def orderWalk (cells : List Nat) : List Word → List Nat → List Nat
  | [], acc => acc.reverse
  | w :: ws, acc =>
    let p := w.toNat
    orderWalk cells ws (if p < 32 && cells.contains p && !acc.contains p then p :: acc else acc)

/-- Words of the channel of a kind and index. -/
def State.kindWords (s : State) (kind idx : Nat) : List Word :=
  match s.findChan kind idx with
  | some n => s.chWords n
  | none => []

/-- m_p of a cell before its clamp, in 1/(2^28·N) (R199). -/
def cellMod (p : StrPlan) (ws : List Word) (c : Nat) : Int := p.meff + (nth ws (c + 1) 0).toInt * (p.n : Int)

/-- The 32 ORDER words of string `i`: those beyond the bound count read 0 (R185). -/
def State.orderWords (s : State) (i : Nat) : List Word := let ws := s.kindWords 2 i; (upTo 0 32).map (fun k => nth ws k 0)

/-- The plan of string `i` at t_out. -/
def State.strPlan (s : State) (i : Nat) : StrPlan :=
  let mode := s.fld (WVR_STR_CFG i) 1 0
  let n := s.strN i
  let cells := setBits (s.inService i) 32
  let ws := s.kindWords 1 i
  let m0 := (nth ws 0 0).toInt
  let one28 : Int := 2 ^ 28
  let m := clampI (-one28) one28 m0
  let full := one28 * (n : Int)
  let scale := s.bit (WVR_STR_RWV i) 8
  let me0 := if scale then m * (s.fld (WVR_STR_RWV i) 5 0 : Int) else m * (n : Int)
  let me := if scale then clampI (-full) full me0 else me0
  let mag := me.natAbs
  let lvl := if mode = 2 then mag / 2 ^ 28 else min ((mag + 2 ^ 27) / 2 ^ 28) n
  let walk := orderWalk cells (if mode = 0 then [] else s.orderWords i) []
  let pwm := if mode = 2 && lvl < n then walk[lvl]? else none
  let short := mode != 0 && (walk.length < lvl || (mode == 2 && lvl < n && walk.length ≤ lvl))
  let base : StrPlan := { mode := mode, n := n, cells := cells, meff := me, inserted := walk.take lvl, pwm := pwm
                          frac := ((mag % 2 ^ 28 : Nat) : Int), clamps := b2n (m != m0) + b2n (me != me0) + b2n short }
  let more := if mode = 0 then (cells.filter (fun c => decide (full < (cellMod base ws c).natAbs))).length else 0
  { base with clamps := base.clamps + more }

/-- The carrier phase of cell `c` of string `i` in 2^-32 turn (R198, R222). -/
def State.cellPhase (s : State) (i : Nat) (p : StrPlan) (c : Nat) : Nat :=
  if s.bit (WVR_STR_RWV i) 9 then
    (roundDiv (2 ^ 31 * ((p.cells.filter (fun x => decide (x < c))).length : Int)) p.n).toNat % 2 ^ 32
  else (s.reg (WVR_CARPH i c)).toNat

/-- A leg of an enabled cell in service: 0 leg A, 1 leg B. -/
def State.strLeg (s : State) (i : Nat) (p : StrPlan) (c leg : Nat) : LegCmd :=
  let per := (s.reg (WVR_STR_CAR_PER i)).toNat
  let ref := (s.strRef i).getD (s.slotStart 2)
  let pos := decide (0 ≤ p.meff)
  let mine := if pos then leg == 0 else leg == 1
  if p.mode = 0 then
    let full : Int := 2 ^ 28 * (p.n : Int)
    let mp := clampI (-full) full (cellMod p (s.kindWords 1 i) c)
    let x := if leg = 0 then mp else -mp
    patternOr per ref (rneDiv ((full + x) * 8192) (2 * full)) ((3 * full - x) * 2 ^ 32 - (s.cellPhase i p c : Int) * (4 * full))
      (4 * full * 2 ^ 32)
  else if p.inserted.contains c then .edge mine
  else if p.pwm = some c then
    if mine then patternOr per ref (rneDiv (p.frac * 8192) (2 ^ 28)) (2 ^ 29 - p.frac) (2 ^ 29) else .edge false
  else .edge false

/-! ## Quads (R202, R203) -/

/-- The requested ψ of cell `c` in 2^-32 turn, and whether it was clamped. -/
def State.psiReq (s : State) (c : Nat) : Int × Bool :=
  let ws := s.kindWords 3 (c / 4)
  let ang := fun (i : Nat) => sext 28 ((nth ws i 0).toNat % 2 ^ 28) * 16
  let lim : Int := (s.fld WVR_PH_MAX 15 0 : Int) * 65536
  let x := ang 0 + ang (1 + c % 4)
  (clampI (-lim) lim x, decide (lim < x.natAbs))

/-- One slot of the slew limit: the value, and whether it was limited. -/
def slewStep (slew : Nat) (prev req : Int) : Int × Bool :=
  let d : Int := (slew : Int) * 65536
  if slew = 0 then (req, false) else (clampI (prev - d) (prev + d) req, decide (d < (req - prev).natAbs))

/-- ψ of cell `c` for slots k+2 to k+5, and the clamps. (DEDUCED: log entry 25) -/
def State.psiPlan (s : State) (c : Nat) : List Int × Nat :=
  let (req, cl) := s.psiReq c
  let slew := s.fld (WVR_QUAD_CFG (c / 4)) 31 16
  let a := slewStep slew (Sparse.get (fun _ => 0) s.wvr.psi c) req
  let b := slewStep slew a.1 req
  let d := slewStep slew b.1 req
  let e := slewStep slew d.1 req
  ([a.1, b.1, d.1, e.1], b2n cl + b2n a.2 + b2n b.2 + b2n d.2 + b2n e.2)

/-- A leg of a quad whose rising edge lies `psi`, in 2^-32 turn, before R_q; leg B half a period later. -/
def State.quadLeg (s : State) (q leg : Nat) (psi : Int) : LegCmd :=
  .periodic (s.reg (WVR_QUAD_PER q)).toNat ((s.quadRef q).getD (s.slotStart 2)) 4096 (-psi + (leg : Int) * 2 ^ 31) (2 ^ 32)

/-! ## Sets (R189) -/

/-- A node whose targets are held: lost, not admitted, or without SYNC_OK. -/
def State.nodeHeld (s : State) (r a : Nat) : Bool :=
  let n := s.rnode r a
  n.lost || !n.admitted || !recState n 6

/-- All four cells of quad `q` are out of service. -/
def State.quadOut (s : State) (q : Nat) : Bool := (upTo (4 * q) 4).all (fun c => s.bit (WVR_STR_OOS (c / 32)) (c % 32))

/-- A set of a target for slot k+j by its condition: held, the age of its channels, and what it does. -/
def setOf (held : Bool) (age j : Nat) (c : LegCmd) : Option LegCmd :=
  if held || 3 ≤ age then some .hold else if 0 < age && j == 2 then none else some c

/-- The set of target `tgt` of the node at address `a` for slot k+j. -/
def State.targetSet (s : State) (plans : List StrPlan) (r : Nat) (e : MapNode) (tgt j : Nat) : Option LegCmd :=
  let held := s.nodeHeld r e.addr
  if e.role = 0 then
    let c := 32 * r + e.index
    let q := c / 4
    let out := s.bit (WVR_STR_OOS r) e.index
    if tgt < 2 then
      match plans[r]? with
      | some p =>
        let age := if p.mode = 0 then s.chanAge 1 r else max (s.chanAge 1 r) (s.chanAge 2 r)
        setOf (held || out || !s.bit (WVR_STR_EN r) e.index) age j (s.strLeg r p e.index tgt)
      | none => some .hold
    else setOf (held || out || !s.dabEn q) (s.chanAge 3 q) j (s.quadLeg q (tgt - 2) (nth (s.psiPlan c).1 (j - 2) 0))
  else setOf (held || s.quadOut e.index || !s.lvEn e.index) (s.chanAge 3 e.index) j (s.quadLeg e.index tgt 0)

/-- The entries of one section. -/
def State.sectionEntries (s : State) (plans : List StrPlan) (r : Nat) (e : MapNode) (j : Nat) : List Entry :=
  let eps : Int := if s.bit WVR_CTRL 0 then (s.reg (WVR_RING_EPS r e.addr)).toInt else 0
  (upTo 0 (targetsOf e.role)).filterMap (fun t => (s.targetSet plans r e t j).map
    (entryOf r e.addr t (s.k % 65536) (s.mandate r) (j == 2) (s.slotStart j) eps))

/-- The sections of ring `r` with the slots given: node, offset and entries, by ascending node and slot (R205). -/
def State.ringSections (s : State) (plans : List StrPlan) (r : Nat) (slots : List Nat) : List (Nat × Nat × List Entry) :=
  (upTo 1 40).flatMap (fun a => match mapEntry (s.ring r) a with
    | some e => (slots.map (fun j => (a, j, s.sectionEntries plans r e j))).filter (fun x => !x.2.2.isEmpty)
    | none => [])

/-- Length of a cycle frame (R206): 64 bytes, 8 for a section and 16 for an entry. -/
def frameBytes (l : List (Nat × Nat × List Entry)) : Nat := l.foldl (fun n x => n + 8 + 16 * x.2.2.length) 64

/-- The cycle frame limit (R28, R30). -/
def State.frameLimit (s : State) : Nat := nth [4728, 9464, 18936, 37872] (s.fld TIM_CYCLE_CFG 1 0) 9464

/-- The sections that fit the frame limit (R30): slot k+5 is left out first, then k+4, then the firm sets. -/
def State.fitSections (s : State) (plans : List StrPlan) (r : Nat) : List Nat × List (Nat × Nat × List Entry) :=
  let full := s.ringSections plans r [2, 3, 4, 5]
  let fits := fun (l : List (Nat × Nat × List Entry)) => decide (frameBytes l ≤ s.frameLimit)
  let sub := fun (slots : List Nat) => full.filter (fun x => slots.contains x.2.1)
  if fits full then ([2, 3, 4, 5], full)
  else if fits (sub [2, 3, 4]) then ([2, 3, 4], sub [2, 3, 4])
  else if fits (sub [2, 3]) then ([2, 3], sub [2, 3])
  else ([3], sub [3])

/-- What leaving out slots of ring `r` counts and raises (R30, R206). -/
def State.omitted (s : State) (r : Nat) (slots : List Nat) : State :=
  let out := ([3, 4, 5].filter (fun j => !slots.contains j)).length
  let noFirm := !slots.contains 2
  let s1 := if 0 < out then ((s.count WVR_CNT 15 0 out).orReg WVR_EVENTS 1).raise 0x0401 r else s
  let s2 := if noFirm then (s1.orReg WVR_EVENTS 2).raise 0x0402 r else s1
  let s3 := if noFirm && s2.wvr.noFirm.getLsbD r then s2.raise 0x0403 r else s2
  { s3 with wvr := { s3.wvr with noFirm := bvPut s3.wvr.noFirm r noFirm } }

/-- The slots that have entries, k+2 in bit 0 (R205, R209). -/
def slotsOf (l : List (Nat × Nat × List Entry)) : Nat := l.foldl (fun a x => nput a (x.2.1 - 2) (x.2.1 - 2) 1) 0

/-- The parts of the four rings, in order: head and entries (R205). -/
def bankParts : Nat → List (List Nat × List (Nat × Nat × List Entry)) → List (BankHead × List Entry)
  | _, [] => []
  | first, (slots, l) :: rest =>
    let es := l.flatMap (fun x => x.2.2)
    ({ first := first, count := es.length, slots := slotsOf l, bytes := frameBytes l
       flags := b2n (!slots.contains 2) + 2 * b2n (slots.length < 4)
       runs := l.map (fun x => (x.1, x.2.1, x.2.2.length)) }, es) :: bankParts (first + es.length) rest

/-- The bank that the Weaver writes. -/
def State.backBank (s : State) : Nat := if s.bit WVR_STATUS 0 then 0 else 1

/-- The listed form of a bank's entries. -/
def bankList (base : Nat) (es : List Entry) : Sparse Entry :=
  ((upTo base es.length).zip es).filter (fun p => p.2 != Entry.zero)

/-- The back bank takes new entries. -/
def putBank (banks : Sparse Entry) (bank : Nat) (es : List Entry) : Sparse Entry :=
  if bank = 0 then bankList 0 es ++ banks.filter (fun p => decide (8192 ≤ p.1))
  else banks.filter (fun p => decide (p.1 < 8192)) ++ bankList 8192 es

/-- The clamps of this t_out (R185), and ψ as built for the first slot. -/
def State.clampsAndPsi (s : State) (plans : List StrPlan) : State :=
  let strs := (upTo 0 3).foldl (fun n i => if s.chanAge 1 i < 3 then n + (match plans[i]? with
    | some p => if p.n = 0 then 0 else p.clamps
    | none => 0) else n) 0
  let s1 := s.count WVR_CNT 31 16 strs
  forEach (fun s c =>
    if s.dabEn (c / 4) && s.chanAge 3 (c / 4) < 3 && !s.bit (WVR_STR_OOS (c / 32)) (c % 32) && (s.cellAddr c).isSome then
      let (l, n) := s.psiPlan c
      ({ s with wvr := { s.wvr with psi := Sparse.set (fun _ => 0) s.wvr.psi c (nth l 0 0) } } : State).count WVR_CNT 31 16 n
    else s) (upTo 0 96) s1

/-- The references are advanced to the coming slot (R198, R202). -/
def State.advanceRefs (s : State) : State :=
  let sl := s.slotStart 2
  let s1 := forEach (fun s i => match s.strRef i with
    | some r => s.setStrRef i (some (advanceRef sl r (s.reg (WVR_STR_CAR_PER i)).toNat))
    | none => s) (upTo 0 3) s
  forEach (fun s q => match s.quadRef q with
    | some r => s.setQuadRef q (some (advanceRef sl r (s.reg (WVR_QUAD_PER q)).toNat))
    | none => s) (upTo 0 24) s1

/-- The address of entry `e` of a Draft bank (R207). -/
def draftAddr (bank e : Nat) : Nat := 0x24100000 + bank * 0x20000 + 16 * e

/-- The sets are built into the back bank (R189, R205). (DEDUCED: log entry 25) -/
def State.buildBank (s : State) : State :=
  let plans := (upTo 0 3).map s.strPlan
  let rings := (upTo 0 4).map (s.fitSections plans)
  let parts := bankParts 0 rings
  let s1 := s.clampsAndPsi plans
  let s2 : State := { s1 with wvr := { s1.wvr with
    banks := putBank s1.wvr.banks s1.backBank (parts.flatMap (fun p => p.2))
    back := parts.map (fun p => p.1)
    built := true } }
  forEach (fun s p => s.omitted p.1 p.2.1) ((upTo 0 4).zip rings)
    (s2.cleared (draftAddr s1.backBank 0) (draftAddr s1.backBank 8191 + 15))

/-- The Weaver at t_out (R186 to R223). In a duplex pair only the active module weaves; the shadow is applied on both.
(DEDUCED: log entry 25) -/
def State.weave (s : State) : State :=
  let ret := (upTo 0 3).map (fun i => (s.reg (WVR_STR_RET i)).toNat)
  let s1 := s.wvrConfig
  if s1.duplex && s1.role != 4 then s1.restChannels else
  let s2 := forEach State.autoMark (upTo 0 3) s1.ageChannels
  let s3 := (forEach (fun s i => s.finishReturns i (nth ret i 0)) (upTo 0 3) s2).finishBypasses
  (forEach (fun s i => (s.reweave i).derate i) (upTo 0 3) s3).advanceRefs.buildBank.staleHolds

/-! ## The commands -/

/-- OOS_SET (R216, R218): collected in the shadow. -/
def execOosSet (i : Fin 3) (m : Master) (v : Word) (s : State) : Res := (s.wvrWrite m (WVR_STR_OOS_SET i) v).done

/-- OOS_CLR (R220): collected in the shadow. -/
def execOosClr (i : Fin 3) (m : Master) (v : Word) (s : State) : Res := (s.wvrWrite m (WVR_STR_OOS_CLR i) v).done

/-- BYPASS_COMMAND (R219): while a command is due, up to eight attempts, none to a lost node. (DEDUCED: log entry 26) -/
def execBypassCommand (i : Fin 3) (p : Fin 32) (s : State) : Res :=
  let c := 32 * i.val + p.val
  (match s.bypTask c, s.cellAddr c with
   | some t, some a =>
     let r := i.val
     let g := s.ring r
     if t.taken || 8 ≤ t.tries || (s.rnode r a).lost || !(s.controls && !s.silent && ringUp g) then s
     else
       let tx : MgmtTx := { mgmtTx .bypass a 2 0 [s.reg WVR_BYP_ADDR, s.reg (if t.isOpen then WVR_BYP_OPEN else WVR_BYP_CLOSE)] with
         seq := some g.mseq, npad := t.npad }
       let q := (g.txq.filter (fun (x : MgmtTx) => !(x.purpose == MgmtUse.bypass && x.dst == a))) ++ [tx]
       ((s.launch r (s.mgmtFrame r g.mseq tx)).setRing r { g with mseq := (g.mseq + 1) % 65536, txq := q }).setBypTask c
         (some { t with tries := t.tries + 1 })
   | _, _ => s).done

/-- BYPASS_TIMEOUT (R219, R220): a command not confirmed, or a return not completed, raises 0x040B. -/
def execBypassTimeout (i : Fin 3) (p : Fin 32) (s : State) : Res :=
  let c := 32 * i.val + p.val
  (match s.bypTask c with
   | some t =>
     let s1 := s.setBypTask c none
     if t.isOpen then
       ((s1.setBit (WVR_STR_RET i) p false).orReg WVR_RWV_EVENTS (2 ^ (12 + i.val))).raise 0x040B i
     else if 0 < t.tries && !s.bypClosed c then (s1.orReg WVR_RWV_EVENTS (2 ^ (12 + i.val))).raise 0x040B i
     else s1
   | none => s).done

/-- DRAFT_WRITE (R207): refused. -/
def execDraftWrite (m : Master) (addr : Word) (_v : Word) (s : State) : Res :=
  ((s.orReg WVR_EVENTS 0x20).refuse 0x0408 31 addr.toNat m).done

end Sys2Proof.Machine
end

