-- ==== Sys2Proof/Machine/Heddle.lean ====
section
/-! DEFINITION. The commands of a Heddle engine but for its picks: running and stopping, the pattern check (R138), the writes of
its memories (R126), coefficient swaps (R140, R141), segments, lock groups, image count and input map. -/

namespace Sys2Proof.Machine

/-! ## The pattern check -/

/-- TRK names a BIQ pick between 0 and E (R168). -/
def trkOk (x : Engine) (last : Nat) (k : Pick) : Bool :=
  k.opc != 0x0D || (decide (k.p ≤ last) && (pickOf (patGet x k.p)).opc == 0x0C)

/-- The word `w` was written by an earlier pick outside every segment, or in segment `g` (R138 condition 3). -/
def wasWritten (ws : List (Option Nat × Nat)) (g : Option Nat) (w : Nat) : Bool :=
  ws.any (fun p => p.2 == w && (p.1 == none || p.1 == g))

/-- Conditions 1, 5, 2 and 3 of R138 on one pick: the reason of the first that fails, 0 for none. -/
def pickReason (x : Engine) (last : Nat) (ws : List (Option Nat × Nat)) (g : Option Nat) (k : Pick) : Nat :=
  let u := pickUse k
  if u.bad then 1
  else if u.raw || !trkOk x last k || u.rd.any (fun w => decide (8191 < w)) || u.wr.any (fun w => decide (8191 < w))
      || u.co.any (fun c => decide (2047 < c)) || u.st.any (fun i => decide (1023 < i)) then 6
  else if u.wr.any (fun w => decide (w < 1024)) then 2
  else if u.rd.any (fun w => decide (1024 ≤ w) && !wasWritten ws g w) then 3
  else 0

/-- Stage 4 of R138 over `n` picks from `i` on: reason and index of the first failure. -/
def State.checkPicks (s : State) (e last : Nat) : Nat → Nat → List (Option Nat × Nat) → Option (Nat × Nat)
  | 0, _, _ => none
  | n + 1, i, ws =>
    let k := pickOf (patGet (s.eng e) i)
    let g := s.segOf e i
    match pickReason (s.eng e) last ws g k with
    | 0 => State.checkPicks s e last n (i + 1) (((pickUse k).wr.map (fun w => (g, w))) ++ ws)
    | r => some (r, i)

/-- The first END of the pattern among `n` picks from `i` on. -/
def findEnd (x : Engine) : Nat → Nat → Option Nat
  | 0, _ => none
  | n + 1, i => if (pickOf (patGet x i)).opc = 2 then some i else findEnd x n (i + 1)

/-- Stage 2 of R138: FIRST of the first valid range at fault among segments `n` on. -/
def State.badRange (s : State) (e : Nat) : List Nat → Option Nat
  | [] => none
  | n :: ns =>
    let f := s.segFirst e n
    let l := s.segLast e n
    if s.segValid e n && (decide (l < f) || (upTo 0 n).any (fun m => s.segValid e m && decide (s.segFirst e m ≤ l)
        && decide (f ≤ s.segLast e m))) then some f
    else s.badRange e ns

/-- The static worst case of picks 0 to `last` (R138 condition 7). -/
def wcetOf (x : Engine) (last : Nat) : Nat :=
  (upTo 0 (last + 1)).foldl (fun a i => a + costOf (pickOf (patGet x i)).opc) 0

/-- The check of R138: none for a pass with its worst case, else the reason and INDEX; unloaded pattern memory has the one that R158
states for it. (DEDUCED: log entry 19) -/
def State.checkPattern (s : State) (e : Nat) : Nat × Option (Nat × Nat) :=
  let x := s.eng e
  match findEnd x 2048 0 with
  | none => (0, some (if x.pat.isEmpty then (1, 0) else (4, 2047)))
  | some last =>
    match s.badRange e (upTo 0 16) with
    | some f => (0, some (7, f))
    | none =>
      if (upTo 0 16).any (fun n => s.segValid e n && decide (last ≤ s.segLast e n)) then (0, some (4, last))
      else match s.checkPicks e last (last + 1) 0 [] with
        | some r => (0, some r)
        | none =>
          let w := wcetOf x last
          if s.window s.cut < w then (0, some (5, last)) else (w, none)

/-- A pattern check starts (R138). -/
def State.startCheck (s : State) (e : Nat) : State :=
  (s.setEng e { s.eng e with check := some false }).setReg (HDL_PAT_STATUS e) (w32 (2 ^ 30))

/-- The pattern or a range has been written: PAT_OK clears, and a check in progress will fail (R139). A mirrored write starts the
check (R260). -/
def State.patWritten (s : State) (e : Nat) (m : Master) : State :=
  let x := s.eng e
  let s1 := s.setBit (HDL_STATUS e) 3 false
  match m with
  | .mirror => s1.startCheck e
  | _ => s1.setEng e { x with check := x.check.map (fun _ => true) }

/-- PATTERN_CHECK (R138). -/
def execPatternCheck (e : Fin 8) (m : Master) (s : State) : Res := ((s.strobeJ m (HDL_PAT_CMD e) 1).startCheck e).done

/-- PATTERN_CHECK_DONE (R138). -/
def execPatternCheckDone (e : Fin 8) (s : State) : Res :=
  (match (s.eng e).check with
   | none => s
   | some written =>
     let s1 := (s.setEng e { s.eng e with check := none }).orReg (HDL_EVENTS e) 0x100
     let (wcet, bad) := s1.checkPattern e
     match (if written then some (8, 0) else bad) with
     | some (reason, i) =>
       ((s1.setReg (HDL_PAT_STATUS e) (w32 (3 * 2 ^ 30 + reason * 2 ^ 16 + i))).setBit (HDL_STATUS e) 3 false).raise 0x0303 e
     | none =>
       ((s1.setReg (HDL_PAT_STATUS e) (w32 (2 * 2 ^ 30))).setBit (HDL_STATUS e) 3 true).setReg (HDL_WCET e) (w32 wcet)).done

/-! ## Running and stopping (R149, R150) -/

/-- STATE of an engine. -/
def State.hdlState (s : State) (e : Nat) : Nat := s.fld (HDL_STATUS e) 1 0

/-- RUN of engine `e` is set: a stopped engine is armed. -/
def State.engineArm (s : State) (e : Nat) : State :=
  let s1 := (s.setBit (HDL_CTRL e) 0 true).setEng e { s.eng e with stopReq := false }
  if s1.hdlState e = 0 then (s1.setEng e { s1.eng e with ready := false }).setFld (HDL_STATUS e) 1 0 1 else s1

/-- RUN of engine `e` is cleared: the engine stops at the next boundary. -/
def State.engineHalt (s : State) (e : Nat) : State :=
  let s1 := s.setBit (HDL_CTRL e) 0 false
  if s1.hdlState e = 0 then s1 else s1.setEng e { s1.eng e with stopReq := true }

/-- The other members of the group follow, journaled under the same writer. -/
def State.groupRunJ (s : State) (e : Nat) (m : Master) (f : State → Nat → State) : State :=
  forEach (fun s x => if x = e then s else
    let s1 := f s x
    s1.journal (s.originOf m) 0x01 false (HDL_CTRL x) (s.reg (HDL_CTRL x)) (s1.reg (HDL_CTRL x))) (s.group e) s

/-- HDL_RUN_SET (R139, R149, R150): every member of the lock group needs PAT_OK. (DEDUCED: log entry 22) -/
def execHdlRunSet (e : Fin 8) (m : Master) (s : State) : Res :=
  (if (s.group e).all (fun x => s.bit (HDL_STATUS x) 3) then
    let s1 := s.writeJ m (HDL_CTRL e) (putBit (s.reg (HDL_CTRL e)) 0 true)
    (s1.engineArm e).groupRunJ e m State.engineArm
  else s.hdlRefuse e (HDL_CTRL e) m).done

/-- HDL_RUN_CLEAR (R149, R150): refused while the Weaver has an enabled target fed from an engine that it would stop. -/
def execHdlRunClear (e : Fin 8) (m : Master) (s : State) : Res :=
  (if (s.group e).any s.engineFeeds then s.hdlRefuse e (HDL_CTRL e) m
  else
    let s1 := s.writeJ m (HDL_CTRL e) (putBit (s.reg (HDL_CTRL e)) 0 false)
    (s1.engineHalt e).groupRunJ e m State.engineHalt).done

/-- CLR_STATES (R145): while stopped. -/
def execClrStates (e : Fin 8) (m : Master) (s : State) : Res :=
  (if s.engRuns e then s.hdlRefuse e (HDL_CTRL e) m
   else ((s.strobeJ m (HDL_CTRL e) 2).setEng e { s.eng e with st := [] }).cleared (stAddr e 0) (stAddr e 1023 + 4)).done

/-! ## Coefficients (R140, R141) -/

/-- A swap request of every member of the group; none withdraws it. (DEDUCED: log entry 22) -/
def State.requestSwap (s : State) (e : Nat) (req : Option (Option Nat)) : State :=
  forEach (fun s x => (s.setEng x { s.eng x with swap := req }).setBit (HDL_COEF_CTRL x) 8 req.isSome) (s.group e) s

/-- A write of HDL_COEF_CTRL that requests or withdraws a swap; `v` is what is written. -/
def State.swapWrite (s : State) (e : Nat) (m : Master) (v : Nat) (req : Option (Option Nat)) : State :=
  let w := w32 (v + Nat.land (s.reg (HDL_COEF_CTRL e)).toNat 8)
  if s.mirrorBars m then s.mirrorRefuse (HDL_COEF_CTRL e) m
  else ((s.strobeJ m (HDL_COEF_CTRL e) w).requestSwap e req).mirror m (HDL_COEF_CTRL e) w

/-- SWAP (R140): at the next boundary. -/
def execSwap (e : Fin 8) (m : Master) (s : State) : Res := (s.swapWrite e m 1 (some none)).done

/-- SWAP_AT (R140): the cycle must come after the current one, within 2^30. -/
def execSwapAt (e : Fin 8) (m : Master) (s : State) : Res :=
  let k := (s.reg (HDL_COEF_SWAP_CYC e)).toNat
  let d := sext 32 (k + 2 ^ 32 - s.k)
  (if 0 < d ∧ d ≤ 2 ^ 30 then s.swapWrite e m 2 (some (some k))
   else if s.mirrorBars m then s.mirrorRefuse (HDL_COEF_CTRL e) m
   else s.hdlRefuse e (HDL_COEF_CTRL e) m).done

/-- CANCEL (R140). -/
def execCancel (e : Fin 8) (m : Master) (s : State) : Res := (s.swapWrite e m 4 none).done

/-- The coefficients of a bank, and a copy of them into the other bank: the listed words of the two banks, in order. -/
def copyBank (coef : Sparse Word) (fromBank : Nat) : Sparse Word :=
  let b0 := coef.filter (fun p => decide (p.1 < 2048))
  let b1 := coef.filter (fun p => decide (2048 ≤ p.1))
  if fromBank = 0 then b0 ++ b0.map (fun p => (p.1 + 2048, p.2)) else b1.map (fun p => (p.1 - 2048, p.2)) ++ b1

/-- A requested swap takes place at the boundary of cycle `k` (R140), journaled (R35); with COPY the new shadow bank takes the
active one (R141) and is dirty (R311). -/
def State.coefSwap (s : State) (k e : Nat) : State :=
  let due : Bool := match (s.eng e).swap with
    | some none => true
    | some (some x) => x == k
    | none => false
  if !due then s else
  let act := 1 - s.activeBank e
  let s1 := s.setEng e { s.eng e with swap := none }
  let s2 := (s1.setBit (HDL_COEF_CTRL e) 8 false).putFldJ (originBlk 0x03 e) (HDL_COEF_CTRL e) 12 12 act
  let s3 := s2.orReg (HDL_EVENTS e) 0x80
  if s3.bit (HDL_COEF_CTRL e) 3 then
    let s4 := (s3.setEng e { s3.eng e with coef := copyBank (s3.eng e).coef act }).setBit (HDL_COEF_CTRL e) 9 true
    ({ s4 with dirty := Sparse.set (fun _ => false) s4.dirty (coefAddr e (1 - act) 0 + 1) true } : State).cleared
      (coefAddr e (1 - act) 0) (coefAddr e (1 - act) 2047)
  else s3

/-- COEF_COPY_DONE (R141). -/
def execCoefCopyDone (e : Fin 8) (s : State) : Res := (s.setBit (HDL_COEF_CTRL e) 9 false).done

/-- A coefficient is written (R126): the active bank only while the engine is stopped. -/
def State.coefWrite (s : State) (e : Nat) (m : Master) (bank c : Nat) (v : Word) : State :=
  let a := coefAddr e bank c
  if s.mirrorBars m then s.mirrorRefuse a m
  else if s.engRuns e && bank == s.activeBank e then s.hdlRefuse e a m
  else
    let x := s.eng e
    let s1 := s.setEng e { x with coef := Sparse.set (fun _ => 0) x.coef (bank * 2048 + c) v }
    (((s1.journal (s.originOf m) 0x01 false a (coefBank x bank c) v).rewritten a).dirtied m a).mirror m a v

/-- COEF_WRITE (R126). -/
def execCoefWrite (e : Fin 8) (m : Master) (bank : Fin 2) (c : Fin 2048) (v : Word) (s : State) : Res :=
  (s.coefWrite e m bank c v).done

/-! ## Pattern, signal and state memory -/

/-- Segment `g` is disabled in both HDL_SEG_EN and HDL_SEG_ACT. -/
def State.segOff (s : State) (e g : Nat) : Bool := !s.bit (HDL_SEG_EN e) g && !s.bit (HDL_SEG_ACT e) g

/-- Pick `i` lies in a disabled segment. -/
def State.pickIdle (s : State) (e i : Nat) : Bool :=
  match s.segOf e i with
  | some g => s.segOff e g
  | none => false

/-- The low word of pick `i` is written, and with it the whole pick (R124, R126, R242). (DEDUCED: log entry 19) -/
def State.patternWrite (s : State) (e : Nat) (m : Master) (i : Nat) (lo : Word) : State :=
  let a := pickAddr e i
  if s.mirrorBars m then s.mirrorRefuse a m
  else if m != .mirror && ((s.engRuns e && !s.pickIdle e i) || s.hovPhase e != 0) then s.hdlRefuse e a m
  else
    let x := s.eng e
    let old := patGet x i
    let hi := s.heldHi a (hi32 old)
    let s1 := s.setEng e { x with pat := Sparse.set (fun _ => 0) x.pat i (BitVec.ofNat 64 (join64 lo hi)) }
    let s2 := (s1.journal (s.originOf m) 0x01 false (a + 4) (hi32 old) hi).journal (s.originOf m) 0x01 false a (lo32 old) lo
    let s3 := ((s2.setHeld a none).patWritten e m).rewritten a
    ((((s3.rewritten (a + 4)).dirtied m a).dirtied m (a + 4)).mirror m (a + 4) hi).mirror m a lo

/-- PATTERN_WRITE (R124, R126). -/
def execPatternWrite (e : Fin 8) (m : Master) (i : Fin 2048) (lo : Word) (s : State) : Res := (s.patternWrite e m i lo).done

/-- A mailbox word goes to the staging copy (R132), which is not journaled (R314); one that the router assigns is refused
(R336). -/
def State.mailboxWrite (s : State) (e : Nat) (m : Master) (w : Nat) (v : Word) : State :=
  let a := sigAddr e (992 + w)
  if s.mirrorBars m then s.mirrorRefuse a m
  else if s.bit (EVR_HDL e) 31 && s.fld (EVR_HDL e) 4 0 == w then s.hdlRefuse e a m
  else
    let x := s.eng e
    let s1 := s.setEng e { x with box := Sparse.set (fun _ => 0) x.box w v }
    (s1.rewritten a).mirror m a v

/-- A signal word is written (R126): output words to both copies. -/
def State.signalWrite (s : State) (e : Nat) (m : Master) (w : Nat) (v : Word) : State :=
  let a := sigAddr e w
  if 992 ≤ w ∧ w < 1024 then s.mailboxWrite e m (w - 992) v
  else if s.engRuns e then s.hdlRefuse e a m
  else
    let x := s.eng e
    let y := sigPut x w v
    let z := if w < 7168 then y else { y with pub := Sparse.set (fun _ => 0) y.pub w v }
    ((s.setEng e z).journal (s.originOf m) 0x01 false a (sigRead x w) v).rewritten a

/-- SIGNAL_WRITE (R126). -/
def execSignalWrite (e : Fin 8) (m : Master) (w : Fin 8192) (v : Word) (s : State) : Res := (s.signalWrite e m w v).done

/-- MAILBOX_WRITE (R132). -/
def execMailboxWrite (e : Fin 8) (m : Master) (w : Fin 32) (v : Word) (s : State) : Res := (s.mailboxWrite e m w v).done

/-- The address of state `i`. -/
def stateAddr (e i : Nat) : Nat := hdlBase e + 0x28000 + 8 * i

/-- The low word of state `i` is written (R124, R126, R145): the committed value while stopped, else a preset. -/
def State.stateWrite (s : State) (e : Nat) (m : Master) (i : Nat) (lo : Word) : State :=
  let a := stateAddr e i
  let x := s.eng e
  let old := (stGet x i).toNat
  let hi := s.heldHi a (w32 (old / 2 ^ 32)) &&& 0xFFFF
  if s.engRuns e then
    if 64 ≤ x.presets.length then
      (s.orReg (HDL_EVENTS e) 0x40).refuse 0x0305 e a m
    else
      let ps := x.presets ++ [{ idx := i, hi := hi, lo := lo, origin := s.originOf m }]
      ((s.setEng e { x with presets := ps }).setHeld a none).setReg (HDL_PRESET e) (w32 ps.length)
  else
    let s1 := s.setEng e (stCommit x i (BitVec.ofNat 48 (lo.toNat + hi.toNat * 2 ^ 32)))
    let s2 := s1.journal (s.originOf m) 0x01 false (a + 4) (wordOfInt (sext 16 (old / 2 ^ 32)))
      (wordOfInt (sext 16 hi.toNat))
    (((s2.journal (s.originOf m) 0x01 false a (lo32 old) lo).setHeld a none).rewritten a).rewritten (a + 4)

/-- STATE_WRITE (R145). -/
def execStateWrite (e : Fin 8) (m : Master) (i : Fin 1024) (lo : Word) (s : State) : Res := (s.stateWrite e m i lo).done

/-! ## Settings -/

/-- The segments of the hand-over unit, as bits of HDL_SEG_EN. -/
def State.hovMask (s : State) (e : Nat) : Nat := (upTo 0 4).foldl (fun a i => Nat.lor a (2 ^ s.hovSeg e i)) 0

/-- HDL_SEG_EN is written (R137, R242). The mirror's writes are those the active module has accepted. -/
def State.segEnWrite (s : State) (e : Nat) (m : Master) (v : Nat) : State :=
  let a := HDL_SEG_EN e
  let old := s.fld a 15 0
  if s.mirrorBars m then s.mirrorRefuse a m
  else if m != .mirror && ((!s.bit (HDL_STATUS e) 3 && andNot v old != 0)
      || (s.hovPhase e != 0 && Nat.land (Nat.xor v old) (s.hovMask e) != 0)) then s.hdlRefuse e a m
  else (s.writeJ m a (w32 v)).mirror m a (w32 v)

/-- SEG_EN_WRITE (R137). -/
def execSegEnWrite (e : Fin 8) (m : Master) (v : BitVec 16) (s : State) : Res := (s.segEnWrite e m v.toNat).done

/-- No enabled segment and no always-running pick occupies pick `i` (R139): it lies in a disabled segment, or after END (R138). -/
def State.pickFree (s : State) (e i : Nat) : Bool :=
  match s.segOf e i with
  | some g => s.segOff e g
  | none => match findEnd (s.eng e) 2048 0 with
    | some last => decide (last < i)
    | none => false

/-- No running pick lies in a range (R139). -/
def State.rangeIdle (s : State) (e : Nat) (v : Word) : Bool :=
  !bit v 15 || (upTo (fld v 10 0) (fld v 26 16 + 1 - fld v 10 0)).all (s.pickFree e)

/-- HDL_SEGn_RANGE is written (R139, R242). -/
def State.segRangeWrite (s : State) (e : Nat) (m : Master) (n : Nat) (v : Word) : State :=
  let a := HDL_SEG_RANGE e n
  let w := v &&& 0x07FF87FF
  if s.mirrorBars m then s.mirrorRefuse a m
  else if m != .mirror && (s.hovPhase e != 0 || (s.engRuns e && !(s.segOff e n && s.rangeIdle e (s.reg a) && s.rangeIdle e w))) then
    s.hdlRefuse e a m
  else ((s.writeJ m a w).patWritten e m).mirror m a w

/-- SEG_RANGE_WRITE (R139). -/
def execSegRangeWrite (e : Fin 8) (m : Master) (n : Fin 16) (v : Word) (s : State) : Res := (s.segRangeWrite e m n v).done

/-- LOCK_GRP is written (R149): while stopped, codes 0 to 4. -/
def State.lockGrpWrite (s : State) (e : Nat) (m : Master) (g : Nat) : State :=
  if s.engRuns e || decide (4 < g) then s.hdlRefuse e (HDL_CTRL e) m
  else s.writeJ m (HDL_CTRL e) (putFld (s.reg (HDL_CTRL e)) 10 8 g)

/-- LOCK_GRP_WRITE (R149). -/
def execLockGrpWrite (e : Fin 8) (m : Master) (g : BitVec 3) (s : State) : Res := (s.lockGrpWrite e m g.toNat).done

/-- The image limit L of R258 with two lanes, for T_cyc in nanoseconds. -/
def imageLimit (tcyc : Nat) : Nat := min 32768 (24576 * tcyc / 25000)

/-- Body of a state image with counts `n` (R258). -/
def imageBytes (n : Nat) : Nat := 992 + 8 * n

/-- ΣCOUNT with engine `e` at count `n`. -/
def State.sumCount (s : State) (e n : Nat) : Nat :=
  (upTo 0 8).foldl (fun a x => a + (if x = e then n else s.fld (HDL_IMG x) 10 0)) 0

/-- HDL_IMG.COUNT is written (R258). -/
def State.imgCountWrite (s : State) (e : Nat) (m : Master) (n : Nat) : State :=
  if 1024 < n ∨ imageLimit s.tcyc < imageBytes (s.sumCount e n) then s.hdlRefuse e (HDL_IMG e) m
  else s.writeJ m (HDL_IMG e) (w32 n)

/-- IMG_COUNT_WRITE (R258). (DEDUCED: log entry 22) -/
def execImgCountWrite (e : Fin 8) (m : Master) (n : BitVec 11) (s : State) : Res := (s.imgCountWrite e m n.toNat).done

/-- An input map entry as stored (R133): one whose address is not 1 to 40 is disabled. -/
def mapStored (h : Nat) : Nat :=
  let a := nfld h 12 7
  let x := h / 8 * 8
  if 1 ≤ a ∧ a ≤ 40 then x else nput x 15 15 0

/-- HDL_IN_MAPj is written (R133): from the next cut. -/
def State.inMapWrite (s : State) (e : Nat) (m : Master) (j : Nat) (v : Word) : State :=
  let a := HDL_IN_MAP e j
  let w := w32 (mapStored (fld v 15 0) + mapStored (fld v 31 16) * 2 ^ 16)
  if s.mirrorBars m then s.mirrorRefuse a m else (s.writeJ m a w).mirror m a w

/-- IN_MAP_WRITE (R133). -/
def execInMapWrite (e : Fin 8) (m : Master) (j : Fin 464) (v : Word) (s : State) : Res := (s.inMapWrite e m j v).done

end Sys2Proof.Machine
end

