-- ==== Sys2Proof/Machine/Tuning.lean ====
section
/-! DEFINITION. The commands of the tuning chapter: mode hand-over (R238, R241), relay units (R229) and capture (R231 to R235),
and what the capture unit does at each t_out. -/

namespace Sys2Proof.Machine

/-! ## Mode hand-over -/

/-- Segment `n` is off in both registers, as R238 asks of IN, TRK and FADE. -/
def State.hovSegsOk (s : State) (e : Nat) : Bool :=
  let segs := (upTo 0 4).map (fun i => s.hovSeg e i)
  let distinct := (upTo 0 4).all (fun i => (upTo 0 4).all (fun j => i == j || nth segs i 0 != nth segs j 0))
  let out := s.hovSeg e 0
  distinct && segs.all (fun n => s.segValid e n) && s.bit (HDL_SEG_EN e) out && s.bit (HDL_SEG_ACT e) out
    && (segs.drop 1).all (fun n => s.segOff e n)

/-- The conditions of R238 on one engine. -/
def State.hovReady (s : State) (e : Nat) : Bool :=
  let n := s.fld (HDL_HOV_GAP e) 19 16
  let base := s.fld (HDL_HOV_GAP e) 12 0
  s.hovPhase e == 0 && s.fld (HDL_STATUS e) 1 0 == 2 && s.bit (HDL_STATUS e) 3 && s.bit (HDL_HOV_SEGS e) 31
    && s.hovSegsOk e && decide (1 ≤ n) && decide (n ≤ 8) && decide (7168 ≤ base) && decide (base + n ≤ 8192)
    && decide (s.xs e ≤ 1022) && (!s.duplex || decide (s.xs e + 1 < s.fld (HDL_IMG e) 10 0))

/-- The units that a START on engine `e` starts: those of its lock group with VALID set (R242). -/
def State.hovMembers (s : State) (e : Nat) : List Nat :=
  (s.group e).filter (fun x => x == e || s.bit (HDL_HOV_SEGS x) 31)

/-- An accepted START on one engine (R238). -/
def State.hovBegin (s : State) (e : Nat) : State :=
  let s1 := (s.hovEn e 0 false).hovEn e 2 true
  let s2 := ((s1.setFld (HDL_HOV_STATUS e) 2 0 1).setFld (HDL_HOV_STATUS e) 5 4 0).setFld (HDL_HOV_STATUS e) 15 8 0
  (s2.setEng e { s2.eng e with hovRes := 0, hovAbt := false }).hovJournal e

/-- HOV_START (R238, R242). (DEDUCED: log entry 22) -/
def execHovStart (e : Fin 8) (m : Master) (s : State) : Res :=
  let ms := s.hovMembers e
  let len := s.fld (HDL_HOV_CFG e) 31 16
  (if ms.all (fun x => s.hovReady x && s.fld (HDL_HOV_CFG x) 31 16 == len) then
    forEach State.hovBegin ms (s.strobeJ m (HDL_HOV_CTRL e) 1)
  else (s.orReg (HDL_TUNE_EVENTS e) 8).hdlRefuse e (HDL_HOV_CTRL e) m).done

/-- HOV_ABORT (R241): acts at the next commit, on every unit of the group that is not idle (R242).
(DEDUCED: log entry 22) -/
def execHovAbort (e : Fin 8) (m : Master) (s : State) : Res :=
  (forEach (fun s x => s.setEng x { s.eng x with hovAbt := true }) ((s.group e).filter (fun x => s.hovPhase x != 0))
    (s.strobeJ m (HDL_HOV_CTRL e) 2)).done

/-! ## Relay units -/

/-- A measurement starts (R229): the unit is cleared, its results too. -/
def State.relayStart (s : State) (e u : Nat) : State :=
  let n := s.fld (HDL_RLY_CTRL e u) 7 4
  let s1 := s.setRelay e u { Relay.reset with skip := n }
  let s2 := forEach (fun s i => s.setReg (relayReg e u i) 0) (upTo 0 5) s1
  s2.putJ (originBlk 0x03 e) (HDL_RLY_STAT e u) (if n = 0 then 2 else 1)

/-- RLY_START (R229). (DEDUCED: log entry 21) -/
def execRlyStart (e : Fin 8) (u : Fin 4) (m : Master) (s : State) : Res :=
  ((s.strobeJ m (HDL_RLY_CTRL e u) (s.reg (HDL_RLY_CTRL e u) + 1)).relayStart e u).done

/-- A running measurement ends with STOPPED (R229). -/
def State.relayStop (s : State) (e u : Nat) : State :=
  let st := s.fld (HDL_RLY_STAT e u) 2 0
  if st = 1 ∨ st = 2 then s.relayState e u 6 else s

/-- RLY_STOP (R229). -/
def execRlyStop (e : Fin 8) (u : Fin 4) (m : Master) (s : State) : Res :=
  ((s.strobeJ m (HDL_RLY_CTRL e u) (s.reg (HDL_RLY_CTRL e u) + 2)).relayStop e u).done

/-! ## Capture -/

/-- The state of the capture unit: 0 idle, 1 armed, 2 running, 3 done, 4 stopped. -/
def State.capState (s : State) : Nat := s.fld CAP_STATUS 2 0

/-- ARMED or RUNNING (R235). -/
def State.capBusy (s : State) : Bool := s.capState == 1 || s.capState == 2

/-- The recording mode. -/
def State.capMode (s : State) : Nat := s.fld CAP_CTRL 5 4

/-- The row length W (R231). -/
def State.capWidth (s : State) : Nat := s.fld CAP_CFG 4 0 + b2n (s.bit CAP_CTRL 3)

/-- ROWS (R233). -/
def State.capRows (s : State) : Nat := (if s.capMode = 2 then 131072 else 262144) / s.capWidth

/-- CAP_ROWS shows ROWS for the present settings. -/
def State.capShow (s : State) : State := s.setReg CAP_ROWS (w32 s.capRows)

/-- Rows from the trigger: POST, where 0 stands for ROWS (R233). (DEDUCED: log entry 17) -/
def State.capPost (s : State) : Nat :=
  let p := s.fld CAP_POST 18 0
  if p = 0 then s.capRows else min p s.capRows

/-- A refusal of R235: fault 0x030B. -/
def State.capRefuse (s : State) (addr : Nat) (m : Master) : State := (s.orReg CAP_EVENTS 0x20).refuse 0x030B 31 addr m

/-- The unit changes its state, journaled (R243). (DEDUCED: log entry 17) -/
def State.capSet (s : State) (v : Nat) : State := s.putFldJ (originBlk 0x03 15) CAP_STATUS 2 0 v

/-- An accepted ARM (R233): `t` is a trigger time still to come, `due` says that it is past. The next row is due at the first
t_out. -/
def State.capArmed (s : State) (t : Option Nat) (due : Bool) : State :=
  let s1 : State := { s with cap := { s.cap with trig := t, due := due, taken := false, left := 0
                                                 since := s.fld CAP_CFG 31 16, rows := 0, missed := false, stop := false } }
  ((s1.setFld CAP_STATUS 6 6 0).setReg CAP_WPTR 0).capSet 1

/-- The trigger time lies too far away (R41, R233). -/
def State.capFar (s : State) : Bool :=
  s.fld CAP_CTRL 9 8 == 0 && decide (maxTime < ((tdiff (s.pair CAP_TRIG_LO) (s.now 0)).natAbs : Int))

/-- The unit is armed by its trigger source (R233): a time, which may already be due, an event, or at once. -/
def State.capStart (s : State) : State :=
  let t := s.pair CAP_TRIG_LO
  let src := s.fld CAP_CTRL 9 8
  if src = 0 then (if tdiff t (s.now 0) ≤ 0 then s.capArmed none true else s.capArmed (some t) false)
  else s.capArmed none (src == 2)

/-- CAP_ARM (R233, R235): a trigger time out of range refuses it with 0x0107. (DEDUCED: log entry 23) -/
def execCapArm (m : Master) (s : State) : Res :=
  (if s.capBusy then s.capRefuse CAP_CTRL m
   else if s.capFar then s.rangeFault
   else (s.strobeJ m CAP_CTRL (putBit (s.reg CAP_CTRL) 0 true)).capStart).done

/-- A running or armed unit stops at the next row (R235). -/
def State.capHalt (s : State) : State := if s.capBusy then { s with cap := { s.cap with stop := true } } else s

/-- CAP_STOP (R235). -/
def execCapStop (m : Master) (s : State) : Res :=
  ((s.strobeJ m CAP_CTRL (putBit (s.reg CAP_CTRL) 2 true)).capHalt).done

/-- CAP_RELEASE (R234). -/
def execCapRelease (m : Master) (halves : BitVec 2) (s : State) : Res :=
  ((s.strobeJ m CAP_RELEASE (w32 halves.toNat)).setFld CAP_STATUS 5 4 (andNot (s.fld CAP_STATUS 5 4) halves.toNat)).done

/-- The header word of a row (R231). -/
def State.capHeader (s : State) : Word :=
  w32 (s.k % 2 ^ 24 * 256 + (upTo 0 8).foldl (fun a e => a + b2n (s.eng e).did * 2 ^ e) 0)

/-- The words of a row (R231, R232). -/
def State.capRow (s : State) : List Word :=
  (if s.bit CAP_CTRL 3 then [s.capHeader] else []) ++ (upTo 0 (s.fld CAP_CFG 4 0)).map (fun n =>
    sigRead (s.eng (s.fld (CAP_CH n) 15 13)) (s.fld (CAP_CH n) 12 0))

/-- The row of this cycle is written from word `w` on. -/
def State.capStore (s : State) (w : Nat) : State :=
  let row := s.capRow
  forEach (fun s i => s.rewritten (0x26100000 + 4 * (w + i))) (upTo 0 row.length)
    { s with cap := { s.cap with buf := Sparse.setList (fun _ => 0) s.cap.buf w row, since := 1, rows := s.cap.rows + 1
                                 missed := false } }

/-- A row of modes 0 and 1 (R233, R246): the ring of ROWS rows. -/
def State.capRing (s : State) : State :=
  let p := s.fld CAP_WPTR 17 0
  let next := if p + 1 < s.capRows then p + 1 else 0
  let s1 := (s.capStore (p * s.capWidth)).setReg CAP_WPTR (w32 next)
  if s1.capState == 1 && next == 0 then s1.setBit CAP_STATUS 6 true else s1

/-- A row of mode 2 (R234): into the half being written, where it has been released. (DEDUCED: log entry 23) -/
def State.capHalf (s : State) : State :=
  let h := s.fld CAP_WPTR 17 17
  if s.bit CAP_STATUS (4 + h) then
    let s1 := ({ s with cap := { s.cap with since := 1, missed := true } } : State).count CAP_LOST 31 0 1
    if s.cap.missed then s1 else (s1.orReg CAP_EVENTS 0x10).raise 0x030A 31
  else
    let p := s.fld CAP_WPTR 16 0
    let s1 := s.capStore (131072 * h + p * s.capWidth)
    if p + 1 < s.capRows then s1.setFld CAP_WPTR 16 0 (p + 1)
    else ((((s1.setBit CAP_STATUS (4 + h) true).orReg CAP_EVENTS (4 * 2 ^ h)).post (185 + h)).setFld CAP_WPTR 17 17
      (1 - h)).setFld CAP_WPTR 16 0 0

/-- The trigger is taken at this t_out (R233). (DEDUCED: log entry 23) -/
def State.capTrigger (s : State) : State :=
  let s1 := (s.setReg CAP_TRIG_ROW (w32 (if s.capMode = 2 then s.fld CAP_WPTR 16 0 else s.fld CAP_WPTR 17 0))).setReg
    CAP_TRIG_CYC (s.reg TIM_CYCLE_NUM)
  let s2 : State := { s1 with cap := { s1.cap with trig := none, due := false, taken := true, left := s1.capPost
                                                   since := s1.fld CAP_CFG 31 16 } }
  ((s2.capSet 2).orReg CAP_EVENTS 1).post 184

/-- The trigger of an armed unit is there (R40, R233). -/
def State.capFires (s : State) : Bool :=
  s.capState == 1 && (s.cap.due || (match s.cap.trig with
    | some t => decide (tdiff t (s.now 0) ≤ 0)
    | none => false))

/-- The capture unit at a t_out (R232 to R235). (DEDUCED: log entry 23) -/
def State.capOut (s : State) : State :=
  if !s.capBusy then s
  else if s.cap.stop then ({ s with cap := { s.cap with stop := false, trig := none, due := false } } : State).capSet 4
  else
    let s1 := if s.capFires then s.capTrigger else s
    if s1.cap.since < max 1 (s1.fld CAP_CFG 31 16) then { s1 with cap := { s1.cap with since := s1.cap.since + 1 } }
    else match s1.capMode with
      | 2 => if s1.cap.taken then s1.capHalf else s1
      | mode =>
        if s1.cap.taken then
          let s2 := s1.capRing
          if s2.cap.left ≤ 1 then ((s2.capSet 3).orReg CAP_EVENTS 2).post 187
          else { s2 with cap := { s2.cap with left := s2.cap.left - 1 } }
        else if mode = 1 then s1.capRing else s1

end Sys2Proof.Machine
end

