-- ==== Sys2Proof/Machine/Graft.lean ====
section
/-! DEFINITION. Duplex operation and the Graft link (R247 to R272): roles, state images, mirrored writes and resync, takeover and
hand-off, and the commands of the family but for the mirror's receiver, which writes registers. -/

namespace Sys2Proof.Machine

/-! ## Roles -/

/-- Origin of the Graft block (R315). -/
def originGft : Nat := originBlk 0x05 15

/-- GFT_STATUS.ROLE changes, journaled (R314). -/
def State.setRole (s : State) (v : Nat) : State := s.putFldJ originGft GFT_STATUS 2 0 v

/-- The source of TB0 changes, journaled (R255). -/
def State.setSrc0 (s : State) (v : Nat) : State := (s.putFldJ originGft (TIM_TB_CTRL 0) 2 0 v).showF 0

/-- The module's own source of TB0. -/
def State.actSrc (s : State) : Nat := s.fld GFT_CFG 2 2

/-- A Bough or Trunk fault is active (R249). -/
def State.faulted (s : State) : Bool := s.bit FLT_STATUS 1

/-- The peer's STATUS shows this module's own position (R256). -/
def State.samePos (s : State) : Bool :=
  match s.gft.peer with
  | some p => p.pos == s.bit GFT_CFG 0
  | none => false

/-- The module is a standby. -/
def State.isStandby (s : State) : Bool := decide (1 ≤ s.role) && decide (s.role ≤ 3)

/-- Every engine stops (R249: stopped in every role but Active). -/
def State.haltEngines (s : State) : State :=
  forEach (fun s e =>
    if s.engRuns e || s.bit (HDL_CTRL e) 0 then
      ((s.putFldJ (originBlk 0x03 e) (HDL_CTRL e) 0 0 0).setFld (HDL_STATUS e) 1 0 0).setEng e
        { s.eng e with inRun := false, atEnd := false, stopReq := false, ready := false, did := false }
    else s) (upTo 0 8) s

/-- A standby asks for a resync (R261): the next mirror frame sets its sequence. -/
def State.wantResync (s : State) : State :=
  { s with gft := { s.gft with wantRs := true, copied := false, gapQ := true } }

/-- The module becomes an unqualified standby (R249, R255, R261); after a hand-off of its own it needs no resync (R262). -/
def State.enterStandby (s : State) (resync : Bool) : State :=
  let s1 := ((s.haltEngines.setRole 1).setSrc0 2).setFld GFT_STATUS 31 24 0
  let s2 : State := { s1 with gft := { s1.gft with applied := 0, follows := false, mirrorQ := [], copyQ := [], askedRs := false
                                                   doneAt := none, revert := false, revAt := none, takeNext := false } }
  if resync then s2.wantResync else s2

/-- The rings enter pass mode (R97, R98). -/
def State.passRings (s : State) : State := forEach State.passMode s.ringsEn s

/-- The sources that demand only while the module controls the rings follow a change of control (R276, R289). -/
def State.ctrlChanged (s : State) : State := s.safEval.showRings

/-- Synchronization is lost (R262): fault 0x0507. A takeover that was decided is off, and the revert hold-off ends (R268). -/
def State.syncLost (s : State) : State :=
  let s1 := (s.setRole 1).orReg GFT_EVENTS 2
  ({ s1 with gft := { s1.gft with applied := 0, revert := false, revAt := none, takeNext := false } } : State).raise 0x0507 31

/-- A synchronized standby whose TB0 has left LOCKED loses synchronization (R262). (DEDUCED: log entry 34) -/
def State.lockSync (s : State) : State := if s.duplex && s.role == 3 && !s.bit (TIM_TB_STATUS 0) 1 then s.syncLost else s

/-! ## Lanes and image size -/

/-- Lane `i` is in block lock. -/
def State.lane (s : State) (i : Nat) : Bool := s.bit GFT_STATUS (4 + i)

/-- A frame can be sent: one lane at least is up. -/
def State.linkUp (s : State) : Bool := s.lane 0 || s.lane 1

/-- The image limit L for the lanes that are up (R258). (DEDUCED: log entry 22) -/
def State.imgLimit (s : State) : Nat :=
  let l := imageLimit s.tcyc
  if s.lane 0 != s.lane 1 then l / 2 else l

/-- The body of the image with the counts in force (R258). -/
def State.imgSize (s : State) : Nat := imageBytes ((upTo 0 8).foldl (fun a e => a + (s.eng e).img) 0)

/-- LIMIT, and on the active module the suspension of images (R258). -/
def State.imgShow (s : State) : State :=
  let s1 := s.setFld GFT_IMG 31 16 s.imgLimit
  if s1.role ≠ 4 then s1 else
    let susp := (s1.lane 0 != s1.lane 1) && decide (s1.imgLimit < s1.imgSize)
    let s2 := s1.setBit GFT_STATUS 11 susp
    (if susp && !s1.bit GFT_STATUS 11 then s2.orReg GFT_EVENTS 2 else s2).holdCause 0x0509 31 susp

/-- Fault 0x0501 holds while a lane is out of block lock (R251); a module that runs alone ignores the link (R269). -/
def State.laneFault (s : State) : State :=
  let out := !(s.lane 0 && s.lane 1)
  if !s.duplex then s
  else (if out && !s.flt.causes.any (fun c => c.1 == 0x0501) then s.orReg GFT_EVENTS 1 else s).holdCause 0x0501 31 out

/-- GRAFT_LANE_LOSS (R251, R269). -/
def execGraftLaneLoss (lane : Fin 2) (s : State) : Res := ((s.setBit GFT_STATUS (4 + lane) false).laneFault.imgShow).done

/-- GRAFT_LANE_LOCK (R251, R269): the fault stands while the other lane is out. -/
def execGraftLaneLock (lane : Fin 2) (s : State) : Res := ((s.setBit GFT_STATUS (4 + lane) true).laneFault.imgShow).done

/-! ## The state image (R257) -/

/-- The engine block of engine `e`. -/
def State.imageEngine (s : State) (e : Nat) : ImageEngine :=
  let x := s.eng e
  let swapAt := match x.swap with
    | some (some _) => true
    | _ => false
  { flags := BitVec.ofNat 8 (b2n (s.fld (HDL_STATUS e) 1 0 == 2) + 2 * b2n x.did + 4 * s.activeBank e
      + 8 * b2n x.swap.isSome + 16 * b2n swapAt)
    hov := BitVec.ofNat 8 (s.hovPhase e + 16 * s.fld (HDL_HOV_STATUS e) 5 4)
    segAct := BitVec.ofNat 16 (s.fld (HDL_SEG_ACT e) 15 0)
    segEn := BitVec.ofNat 16 (s.fld (HDL_SEG_EN e) 15 0)
    swapCyc := s.reg (HDL_COEF_SWAP_CYC e)
    tracked := BitVec.ofNat 8 (s.fld (HDL_HOV_STATUS e) 15 8)
    consec := BitVec.ofNat 8 (s.fld (HDL_STATUS e) 31 24)
    states := (upTo 0 x.img).map (stGet x) }

/-- The section of string `i`. -/
def State.imageString (s : State) (i : Nat) : ImageString :=
  { ref := BitVec.ofNat 64 ((s.strRef i).getD 0), en := s.reg (WVR_STR_EN i), oos := s.reg (WVR_STR_OOS i)
    ret := s.reg (WVR_STR_RET i), mode := BitVec.ofNat 2 (s.fld (WVR_STR_CFG i) 1 0), n := s.fld (WVR_STR_NIN i) 5 0
    derated := nbit s.wvr.derated.toNat i, head := s.reg (WVR_STR_HEAD i) }

/-- The section of quad `q`. -/
def State.imageQuad (s : State) (q : Nat) : ImageQuad :=
  { ref := BitVec.ofNat 64 ((s.quadRef q).getD 0)
    psi := (upTo (4 * q) 4).map (fun c => wordOfInt (Sparse.get (fun _ => 0) s.wvr.psi c)) }

/-- The section of ring `r`. -/
def State.imageRing (s : State) (r : Nat) : ImageRing :=
  { mandate := BitVec.ofNat 16 (s.mandate r), state := s.fld (WRP_RING_STATE r) 2 0, wrapUp := s.fld (WRP_RING_WRAP r) 5 0
    wrapDn := s.fld (WRP_RING_WRAP r) 13 8, presentLo := s.reg (WRP_RING_PRESENT_LO r)
    presentHi := BitVec.ofNat 8 (s.fld (WRP_RING_PRESENT_HI r) 7 0), cut := w32 s.cut }

/-- The Draft section of ring `r`. -/
def State.imageDraft (s : State) (r : Nat) : ImageDraft :=
  { first := s.fld (WVR_RING_HEAD r) 12 0, count := s.fld (WVR_RING_HEAD r) 29 16, slots := s.fld (WVR_RING_SLOTS r) 19 16 }

/-- The line of a frame that this module sends (R252). -/
def State.graftLine (s : State) (body : List Byte) : GraftLine :=
  graftFormed (s.lane 0 && s.lane 1) (s.bit GFT_CFG 0) s.role (s.reg TIM_CYCLE_NUM) body

/-- The image of cycle k, whose line is not formed yet. -/
def State.imageOf (s : State) (handoff : Bool) : Image :=
  { line := s.graftLine [], k := s.reg TIM_CYCLE_NUM, bk := BitVec.ofNat 64 s.bk, tcyc := w32 s.tcyc, configId := s.reg GFT_CONFIG_ID
    size := s.imgSize, handoff := handoff, mirrorSeq := s.gft.mseqAt, run := s.run, cls := s.fld FLT_STATUS 10 8
    epoch := s.reg JNL_EPOCH, supv := (upTo 0 6).map (fun n => s.reg (GFT_SUPV n)), rings := (upTo 0 4).map s.imageRing
    front := s.bit WVR_STATUS 0, draft := (upTo 0 4).map s.imageDraft, strings := (upTo 0 3).map s.imageString
    quads := (upTo 0 24).map s.imageQuad, engines := (upTo 0 8).map s.imageEngine }

/-- The image of cycle k as it is sent. -/
def State.image (s : State) (handoff : Bool) : Image :=
  let x := s.imageOf handoff
  { x with line := s.graftLine (imageBody x) }

/-- The image leaves at the Draft handover (R257, R258, R267): image h carries HANDOFF, image h+1 is the last.
(DEDUCED: log entry 34) -/
def State.sendImage (s : State) : State :=
  if !(s.duplex && s.role == 4) || s.gft.hoPhase == 3 then s else
  let s1 := s.imgShow
  if s1.bit GFT_STATUS 11 || !s1.linkUp then s1 else
    let starts := s1.gft.hoPhase == 1 || (s1.gft.hoPhase == 0 && s1.gft.hoReq == 2)
    let s2 := (s1.emit (.graftImage (s1.image starts))).setFld GFT_IMG 15 0 s1.imgSize
    if starts then
      { s2 with gft := { s2.gft with hoPhase := 2, hoReq := 0, hoEnd := some ((s2.k + 4) % 2 ^ 32) } }
    else if s2.gft.hoPhase == 2 then { s2 with gft := { s2.gft with hoPhase := 3 } }
    else s2

/-- A Graft frame of a module without a pair: ignored, and counted until the network configuration is applied (R421). -/
def State.graftEarly (s : State) : State := if s.seed.netUp then s else s.count GFT_CNT0 31 16 1

/-- An image of cycle j is in time (R259): received by the t_out of cycle j + 1. -/
def State.imageInTime (s : State) (img : Image) : Bool :=
  img.k.toNat == s.k || ((img.k.toNat + 1) % 2 ^ 32 == s.k && !s.cyc.outDone)

/-- GRAFT_IMAGE_RECEIVE (R259): a standby, and a module whose hand-off runs, takes images; one that comes too late is missing. -/
def execGraftImageReceive (img : Image) (s : State) : Res :=
  (if !s.duplex then s.graftEarly
  else if !(s.isStandby || s.gft.hoPhase == 3) then s
  else if !imageOk img then s.count GFT_CNT0 31 16 1
  else
    let next : Bool := match s.gft.lastK with
      | some k => img.k.toNat == (k + 1) % 2 ^ 32
      | none => true
    let mirrored := decide (sext 32 (img.mirrorSeq.toNat + 2 ^ 32 - (s.reg GFT_MSEQ).toNat) ≤ 0)
    let s1 : State := { s with gft := { s.gft with lastK := some img.k.toNat } }
    if next && img.configId == s.reg GFT_CONFIG_ID && decide (img.size ≤ imageLimit s.tcyc) && mirrored then
      (if s1.imageInTime img then { s1 with gft := { s1.gft with images := s1.gft.images ++ [img] } } else s1)
    else s1.count GFT_CNT0 31 16 1).done

/-- An image that the standby misses at its t_out of cycle k: the one of cycle k−1 (R259). Two in a row let a synchronized standby
take control at the next boundary (R263). Images are expected once the grid follows the active's. (DEDUCED: log entry 34) -/
def State.imageDue (s0 : State) : State :=
  let s := s0.lockSync
  if !(s.duplex && s.isStandby && s.gft.follows) || s.bit GFT_STATUS 11 then s
  else if s.gft.images.any (fun i => i.k.toNat == (s.k + 2 ^ 32 - 1) % 2 ^ 32) then s.setFld GFT_STATUS 31 24 0
  else
    let s1 := (({ s with gft := { s.gft with applied := 0 } } : State).count GFT_STATUS 31 24 1).count GFT_CNT0 15 0 1
    let s2 := s1.raise 0x0503 31
    if s2.role == 3 && s2.bit GFT_CTRL 1 && decide (2 ≤ s2.fld GFT_STATUS 31 24) && !s2.samePos && !s2.faulted
        && s2.gft.last.isSome then
      { s2 with gft := { s2.gft with takeNext := true } }
    else s2

/-! ## Applying an image -/

/-- A pending swap of the image of cycle k−2 falls at boundary k−1 or k. -/
def swapPast (k : Nat) (x : ImageEngine) : Bool :=
  nbit x.flags.toNat 3 && (!nbit x.flags.toNat 4 || x.swapCyc.toNat == k || (x.swapCyc.toNat + 1) % 2 ^ 32 == k)

/-- The active bank at boundary k by the image of cycle k−2: its bank, exchanged by a swap that falls by then. -/
def swapExpect (k : Nat) (x : ImageEngine) : Nat :=
  let a := nfld x.flags.toNat 2 2
  if swapPast k x then 1 - a else a

/-- The engine block of an image is written into the stopped engine `e` at boundary k (R259). (DEDUCED: log entry 34) -/
def State.applyEngine (s : State) (k e : Nat) (x : ImageEngine) : State :=
  let y := s.eng e
  let s0 := if s.role = 3 then s else s.putFldJ originGft (HDL_COEF_CTRL e) 12 12 (swapExpect k x)
  let req : Option (Option Nat) :=
    if !nbit x.flags.toNat 3 then none
    else if !swapPast k x then some (some x.swapCyc.toNat)
    else if s0.activeBank e = swapExpect k x then none
    else some none
  let s1 := s0.setEng e { y with st := Sparse.setList (fun _ => 0) y.st 0 x.states, swap := req }
  let s2 := (s1.putFldJ originGft (HDL_SEG_EN e) 15 0 x.segEn.toNat).putFldJ originGft (HDL_SEG_ACT e) 15 0 x.segAct.toNat
  let s3 := ((s2.setBit (HDL_COEF_CTRL e) 8 req.isSome).setReg (HDL_COEF_SWAP_CYC e) x.swapCyc).setFld (HDL_STATUS e) 31 24
    x.consec.toNat
  s3.putJ originGft (HDL_HOV_STATUS e) (putFld (putFld (putFld (s3.reg (HDL_HOV_STATUS e)) 2 0 (x.hov.toNat % 8)) 5 4
    (x.hov.toNat / 16 % 4)) 15 8 x.tracked.toNat)

/-- A reference of an image: 0 where it has none. -/
def imageRef (t : Time) : Option Nat := if t = 0 then none else some t.toNat

/-- A string section of an image is written into the Weaver's state. -/
def State.applyString (s : State) (i : Nat) (x : ImageString) : State :=
  let s1 := ((s.putJ originGft (WVR_STR_EN i) x.en).putJ originGft (WVR_STR_OOS i) x.oos).putJ originGft (WVR_STR_RET i) x.ret
  let s2 := ((s1.putFldJ originGft (WVR_STR_CFG i) 1 0 x.mode.toNat).setReg (WVR_STR_NIN i) (w32 x.n)).putJ originGft
    (WVR_STR_HEAD i) x.head
  ({ s2 with wvr := { s2.wvr with derated := bvPut s2.wvr.derated i x.derated } } : State).setStrRef i (imageRef x.ref)

/-- A quad section of an image is written into the Weaver's state. -/
def State.applyQuad (s : State) (q : Nat) (x : ImageQuad) : State :=
  ({ s with wvr := { s.wvr with psi := Sparse.setList (fun _ => 0) s.wvr.psi (4 * q) (x.psi.map (fun w => w.toInt)) } } :
    State).setQuadRef q (imageRef x.ref)

/-- Number the elements of a list. -/
def numbered {α : Type} (l : List α) : List (Nat × α) := (upTo 0 l.length).zip l

/-- An image is applied at boundary k, in one step (R259). (DEDUCED: log entry 34) -/
def State.applyImage (s : State) (k : Nat) (img : Image) : State :=
  let s1 := forEach (fun s p => s.applyEngine k p.1 p.2) (numbered (img.engines.take 8)) s
  let s2 := forEach (fun s p => s.applyQuad p.1 p.2) (numbered (img.quads.take 24))
    (forEach (fun s p => s.applyString p.1 p.2) (numbered (img.strings.take 3)) s1)
  let s3 := forEach (fun s p => s.setReg (GFT_SUPV p.1) p.2) (numbered (img.supv.take 6)) s2.showEn
  let s4 : State := { s3 with gft := { s3.gft with applied := s3.gft.applied + 1, last := some img
                                                   mands := img.rings.map (fun x => x.mandate.toNat) } }
  s4.setFld GFT_IMG 15 0 img.size

/-- A synchronized standby whose active bank is not the image's loses synchronization and asks for a resync (R259).
(DEDUCED: log entry 34) -/
def State.bankCheck (s : State) (k : Nat) (img : Image) : State :=
  let bad := (numbered (img.engines.take 8)).any (fun p => s.activeBank p.1 != swapExpect k p.2)
  if bad && s.role == 3 then s.syncLost.wantResync else s

/-! ## Taking control -/

/-- A ring leaves pass mode (R263 step 1): the image's mandate plus one, and its state and nodes as the image gives them. A ring
that was not past its bring-up is brought up again. -/
def State.takeRing (s : State) (r : Nat) (x : ImageRing) : State :=
  let s1 := s.putFldJ originGft (WRP_RING_MANDATE r) 15 0 (nextMandate x.mandate.toNat)
  if x.state = 3 ∨ x.state = 4 ∨ x.state = 5 then
    let present := x.presentLo.toNat + x.presentHi.toNat * 2 ^ 32
    let g := s1.ring r
    let wrapped := x.state == 5
    let s2 := s1.setRing r { g with step := if x.state = 3 then 6 else 7, conv := x.state != 3, wrapped := wrapped
                                    cutOk := wrapped && decide (s1.fld TIM_T_IN 16 0 < x.cut.toNat), txq := [], miss0 := 0, miss1 := 0 }
    let s3 := forEach (fun s e =>
        let n := s.rnode r e.addr
        s.setRNode r e.addr { n with admitted := n.admitted || nbit present (e.addr - 1) }) g.map.nodes s2
    let s4 := if wrapped then
        (s3.setReg (WRP_RING_WRAP r) (w32 (x.wrapDn * 256 + x.wrapUp))).setReg (WRP_RING_WRAP_BOUND r) (w32 (x.cut.toNat - tSh))
      else s3
    s4.showRing r
  else s1.bringUp r

/-- The engines marked RUNNING in the image run from the cut of this cycle, with PREV = 0 (R263 step 2). -/
def State.takeEngines (s : State) (img : Image) : State :=
  forEach (fun s p =>
    if nbit p.2.flags.toNat 0 then
      let s1 := (s.putFldJ originGft (HDL_CTRL p.1) 0 0 1).engineArm p.1
      s1.setEng p.1 { s1.eng p.1 with ready := true, did := false }
    else s) (numbered (img.engines.take 8)) s

/-- The module becomes Active (R52, R255): TB0 takes its source, and is armed where a target is enabled. Its relay units are idle
(R242). (DEDUCED: log entry 35) -/
def State.becomeActive (s : State) : State :=
  let s1 := ((s.setRole 4).setSrc0 s.actSrc).relaysIdle
  let s2 : State := { s1 with gft := { s1.gft with takeNext := false, images := [], lastK := none, hoPhase := 0, hoReq := 0, hoEnd := none, wantRs := false
                                                   revert := false, revAt := none, hoRev := false, handed := false, yielding := false } }
  s2.setFld GFT_STATUS 31 24 0

/-- Taking control starts a new recovery epoch (R263, R317), above the module's own and that of the last image.
(DEDUCED: log entry 35) -/
def State.takeEpoch (s : State) : State :=
  let other := match s.gft.last with
    | some img => img.epoch.toNat
    | none => 0
  s.setEpoch 3 (max (s.fld JNL_EPOCH 15 0) other + 1)

/-- Control is taken at a boundary from an image (R263 steps 1, 2 and 4; R267). (DEDUCED: log entry 35) -/
def State.takeControl (s : State) (img : Image) : State :=
  let s1 := s.becomeActive
  let s2 := forEach (fun s p => if s.ringEn p.1 then s.takeRing p.1 p.2 else s) (numbered (img.rings.take 4)) s1
  let s3 := s2.takeEngines img
  let s4 := if s3.anyEn then s3.arm else s3
  ((s4.orReg GFT_EVENTS 4).raise 0x0504 31).takeEpoch.ctrlChanged

/-- A takeover or hand-off is counted, with its event. -/
def State.countTake (s : State) (handoff : Bool) : State :=
  if handoff then (s.count GFT_CNT1 31 16 1).orReg GFT_EVENTS 0x100 else s.count GFT_CNT1 15 0 1

/-- A revert is reported beside the hand-off (R268). -/
def State.revertDone (s : State) (was : Bool) : State := if was then s.orReg GFT_EVENTS 0x200 else s

/-! ## Mirror and resync -/

/-- A word of the copy. -/
def State.copyReg (s : State) (a : Nat) : Word × Word := (w32 a, s.reg a)

/-- The mirrored stores of engine `e`, address and word (R260). -/
def State.copyEngine (s : State) (e : Nat) : List (Word × Word) :=
  let x := s.eng e
  (upTo 0 2048).flatMap (fun i => [(w32 (pickAddr e i + 4), hi32 (patGet x i)), (w32 (pickAddr e i), lo32 (patGet x i))])
  ++ (upTo 0 2).flatMap (fun b => (upTo 0 2048).map (fun c => (w32 (coefAddr e b c), coefBank x b c)))
  ++ (upTo 0 32).map (fun w => (w32 (sigAddr e (992 + w)), Sparse.get (fun _ => 0) x.box w))
  ++ (upTo 0 16).map (fun n => s.copyReg (HDL_SEG_RANGE e n))
  ++ [s.copyReg (HDL_SEG_EN e), (w32 (HDL_COEF_CTRL e), s.reg (HDL_COEF_CTRL e) &&& 8), s.copyReg (HDL_COEF_SWAP_CYC e)]
  ++ (upTo 0 464).map (fun j => s.copyReg (HDL_IN_MAP e j))
  ++ [HDL_HOV_SEGS e, HDL_HOV_CFG e, HDL_HOV_LIM e, HDL_HOV_GAP e, HDL_HOV_XFD e].map s.copyReg

/-- The mirrored registers of the Weaver (R187, R260), the enables last. -/
def State.copyWeaver (s : State) : List (Word × Word) :=
  ([WVR_CTRL, WVR_PH_MAX, WVR_BYP_TMO] ++ (upTo 0 1024).map WVR_CH_CFG
    ++ (upTo 0 3).flatMap (fun i => [WVR_STR_CFG i, WVR_STR_CAR_PER i, WVR_STR_RWV i, WVR_STR_DEMAND i]
      ++ (upTo 0 32).map (WVR_CARPH i))
    ++ (upTo 0 24).map WVR_QUAD_PER ++ (upTo 0 24).map WVR_QUAD_CFG ++ (upTo 0 3).map WVR_STR_EN).map s.copyReg

/-- The copy of every mirrored store (R261). -/
def State.mirrorCopy (s : State) : List (Word × Word) :=
  (upTo 0 8).flatMap s.copyEngine ++ s.copyWeaver ++ [s.copyReg TIM_T_IN, s.copyReg TIM_T_OUT]

/-- The active module takes the copy at its boundary (R261). -/
def State.resyncCopy (s : State) : State :=
  if s.duplex && s.role == 4 && s.gft.askedRs then
    { s with gft := { s.gft with askedRs := false, copyQ := s.mirrorCopy, mirrorQ := [], doneAt := none } }
  else s

/-- GRAFT_MIRROR_SEND (R260, R261): up to 64 writes, the copy ahead of what was mirrored after it. -/
def execGraftMirrorSend (s : State) : Res :=
  (if !(s.duplex && s.role == 4 && s.linkUp) then s else
  let copying := !s.gft.copyQ.isEmpty
  let q := if copying then s.gft.copyQ else s.gft.mirrorQ
  let ws := q.take 64
  if ws.isEmpty then s else
    let first := s.reg GFT_MSEQ + 1
    let last := s.reg GFT_MSEQ + w32 ws.length
    let rest := q.drop 64
    let s1 : State := if copying then
        { s with gft := { s.gft with copyQ := rest, doneAt := if rest.isEmpty then some last.toNat else none } }
      else { s with gft := { s.gft with mirrorQ := rest } }
    let f : MirrorFrame := { line := s.graftLine [], mseq := first, writes := ws }
    (s1.setReg GFT_MSEQ last).emit (.graftMirror { f with line := s.graftLine (mirrorBody f) })).done

/-- GFT_RESYNC (R261): on a standby. -/
def execGftResync (m : Master) (s : State) : Res :=
  let s1 := s.strobeJ m GFT_CMD 2
  (if s.standby then s1.wantResync else s1).done

/-! ## STATUS frames -/

/-- FLAGS of a STATUS frame (R254). (DEDUCED: log entry 34) -/
def State.statusFlags (s : State) : Nat :=
  b2n s.gft.revert + 2 * b2n (s.bit GFT_CFG 1) + 4 * b2n (s.role == 4 && s.bit GFT_STATUS 11) + 8 * b2n s.gft.wantRs
    + 16 * b2n s.gft.doneAt.isSome + 32 * b2n s.faulted

/-- GRAFT_STATUS_SEND (R254): a module with DUPLEX_EN clear ignores the link (R269). -/
def execGraftStatusSend (s : State) : Res :=
  (if !(s.duplex && s.linkUp) then s else
  let (rxK, rxT) := match s.gft.rxSt with
    | (k, t, _) :: _ => (k, t)
    | [] => (0, 0)
  let f : GraftStatus :=
    { line := s.graftLine [], origin := BitVec.ofNat 64 (s.stamp 0)
      rxPeer := BitVec.ofNat 64 rxT, rxK := w32 rxK, flags := w32 s.statusFlags, configId := s.reg GFT_CONFIG_ID
      tcyc := w32 s.tcyc, bk := BitVec.ofNat 64 s.bk }
  let s1 := s.emit (.graftStatus { f with line := s.graftLine (statusBody f) })
  { s1 with gft := { s1.gft with sentSt := ((s1.k, s1.stamp 0) :: s1.gft.sentSt).take 16 } }).done

/-- The entry of a list of STATUS stamps for cycle `k`. -/
def stampOf (k : Nat) : List (Nat × Nat) → Option Nat
  | [] => none
  | (k', t) :: l => if k' = k then some t else stampOf k l

/-- The receive stamp and the ORIGIN of the peer's STATUS of cycle `k`. -/
def rxOf (k : Nat) : List (Nat × Nat × Nat) → Option (Nat × Nat)
  | [] => none
  | (k', p) :: l => if k' = k then some p else rxOf k l

/-- The delay and the offset of R255, from the stamps of one K; the standby takes e as a sample of TB0 where the Graft link is its
source and the peer is the active module (R49). -/
def State.graftSample (s : State) (f : GraftStatus) : State :=
  match rxOf f.rxK.toNat s.gft.rxSt, stampOf f.rxK.toNat s.gft.sentSt with
  | some (t2, t1), some t3 =>
    let asym := (s.reg GFT_ASYM).toInt
    let d := (tdiff t2 t1 + tdiff f.rxPeer.toNat t3 - asym) / 2
    let s1 := s.setPair GFT_DELAY_LO (toU 64 d)
    if s1.isStandby && f.role == 4 && s1.src 0 == 2 then s1.servo 0 (tdiff (toU 64 ((t1 : Int) + d + asym)) t2) else s1
  | _, _ => s

/-- The grid follows the active's (R256): where they differ, the next boundary is the active's BK + T_cyc and cycle K + 1. -/
def State.gridFollow (s : State) (f : GraftStatus) : State :=
  if !(s.isStandby && f.role == 4 && s.bit (TIM_TB_STATUS 0) 1) then s else
  let dk := sext 32 (s.tim.nextK + 2 ^ 32 - f.k.toNat)
  let same := decide (tdiff s.tim.nextB f.bk.toNat = dk * ((ns s.tcyc : Nat) : Int))
  let s1 : State := { s with gft := { s.gft with follows := true } }
  if same then s1 else
    { s1 with tim := { s1.tim with nextB := (f.bk.toNat + ns s.tcyc) % 2 ^ 64, nextK := (f.k.toNat + 1) % 2 ^ 32 } }

/-- The pair's configuration (R256, R268): equal positions, differing T_cyc or CONFIG_ID on a standby, both preferred. -/
def State.pairCheck (s : State) (f : GraftStatus) : State :=
  let same := f.pos == s.bit GFT_CFG 0
  let differ := s.isStandby && f.role == 4 && (f.tcyc.toNat != s.tcyc || f.configId != s.reg GFT_CONFIG_ID)
  let both := nbit f.flags.toNat 1 && s.bit GFT_CFG 1
  let s1 := if same || differ || both then s.orReg GFT_EVENTS 0x40 else s
  let s2 := ((s1.holdTag 0x0508 31 0 same).holdTag 0x0508 31 1 differ).holdCause 0x050C 31 both
  if differ && s2.isStandby then
    (if s2.role = 3 then s2.syncLost else s2.setRole 1)
  else s2

/-- The module takes control under R100 (R269): every ring is brought up, in a new epoch (R317). -/
def State.takeStart (s : State) : State :=
  let s1 := s.becomeActive
  (forEach State.bringUp s1.ringsEn s1).takeEpoch.ctrlChanged

/-- A Starting module that has seen its peer (R269). -/
def State.startSeen (s : State) (f : GraftStatus) : State :=
  if s.role ≠ 0 then s
  else if f.role = 4 then s.enterStandby true
  else if s.samePos || s.faulted then s
  else
    let mine := s.bit GFT_CFG 1
    let theirs := nbit f.flags.toNat 1
    if (mine && !theirs) || (mine == theirs && s.bit GFT_CFG 0) then s.takeStart else s

/-- A hand-off request that the active module accepts or defers (R267). -/
def State.requestHandoff (s : State) : State :=
  if s.gft.hoPhase ≠ 0 ∨ s.gft.hoReq ≠ 0 then s
  else if (upTo 0 8).all (fun e => s.hovPhase e == 0) then { s with gft := { s.gft with hoPhase := 1 } }
  else { s with gft := { s.gft with hoReq := 1 } }

/-- A revert request of the peer (R267, R268): refused with 0x050A unless the peer is synchronized. -/
def State.revertAsked (s : State) (f : GraftStatus) : State :=
  if s.gft.hoPhase ≠ 0 ∨ s.gft.hoReq ≠ 0 then s
  else if f.role ≠ 3 then s.raise 0x050A 31
  else
    let t := s.requestHandoff
    { t with gft := { t.gft with hoRev := true } }

/-- What the peer's flags ask of this module (R254, R258, R261, R268). -/
def State.peerFlags (s : State) (f : GraftStatus) : State :=
  let n := f.flags.toNat
  if s.role = 4 then
    let s1 := if nbit n 0 then s.revertAsked f else s
    if nbit n 3 then
      if s1.gft.doneAt.isSome || !s1.gft.copyQ.isEmpty then s1 else { s1 with gft := { s1.gft with askedRs := true } }
    else { s1 with gft := { s1.gft with doneAt := none } }
  else if s.isStandby then
    let s1 := s.setBit GFT_STATUS 11 (nbit n 2)
    let s2 := if nbit n 2 then (if s1.role = 3 then s1.syncLost else s1.setRole 1) else s1
    let s3 : State := if nbit n 4 && s2.gft.wantRs then
        ({ s2 with gft := { s2.gft with wantRs := false, copied := true } } : State).count GFT_CNT2 15 0 1
      else s2
    if s3.role = 1 ∧ f.role = 4 ∧ s3.gft.wantRs ∧ ¬ nbit n 2 ∧ f.configId = s3.reg GFT_CONFIG_ID ∧ f.tcyc.toNat = s3.tcyc then
      s3.setRole 2
    else s3
  else s

/-- GRAFT_STATUS_RECEIVE (R254 to R256, R261, R267 to R269). -/
def execGraftStatusReceive (f : GraftStatus) (s : State) : Res :=
  (if !s.duplex then s.graftEarly else if !statusOk f then s else
  let t2 := s.stamp 0
  let s1 : State := { s with gft := { s.gft with
    peer := some f, peerAt := t2, rxSt := ((f.k.toNat, t2, f.origin.toNat) :: s.gft.rxSt).take 16 } }
  let s2 := (((s1.setFld GFT_STATUS 10 8 f.role).setBit GFT_STATUS 6 true).setReg GFT_PEER_ID f.configId).holdCause 0x0502 31
    false
  (((((s2.graftSample f).lockSync.pairCheck f).startSeen f).peerFlags f).gridFollow f)).done

/-- PEER_STATUS_TIMEOUT (R254). -/
def execPeerStatusTimeout (s : State) : Res :=
  (if s.duplex then ((s.setBit GFT_STATUS 6 false).orReg GFT_EVENTS 1).holdCause 0x0502 31 true else s).done

/-! ## Takeover, hand-off, yield -/

/-- COLD_TAKEOVER (R264): an unqualified standby. Its targets get HOLD sets until they are enabled again: every enable is
cleared. (DEDUCED: log entry 35) -/
def execColdTakeover (s : State) : Res :=
  (if s.duplex && s.role == 1 && s.bit GFT_CTRL 2 && !s.samePos && !s.faulted then
    let s1 := ((s.orReg GFT_EVENTS 8).count GFT_CNT1 15 0 1).raise 0x0505 31
    let s2 := forEach (fun s i => s.putJ originGft (WVR_STR_EN i) 0) (upTo 0 3) s1
    let s3 := (forEach (fun s q => s.putFldJ originGft (WVR_QUAD_CFG q) 1 0 0) (upTo 0 24) s2).showEn
    s3.takeStart
  else s).done

/-- START_WAIT_EXPIRE (R256, R269): a module whose peer has shown its own position takes no control. -/
def execStartWaitExpire (s : State) : Res :=
  (if s.duplex && s.role == 0 && !s.bit GFT_STATUS 6 then
    if s.gft.passed || s.faulted then s.enterStandby true else if s.samePos then s else s.takeStart
  else s).done

/-- The master may ask for a hand-off (R267, R422): firmware, or a session of the Engineer role. -/
def mayHandoff : Master → Bool
  | .host _ r _ => decide (2 ≤ r.val)
  | .crown _ => true
  | _ => false

/-- GFT_HANDOFF (R267): refused with 0x050A unless the module is active and its peer synchronized, and to a lower role.
(DEDUCED: log entry 35) -/
def execGftHandoff (m : Master) (s : State) : Res :=
  (if mayHandoff m && s.duplex && s.role == 4 && s.fld GFT_STATUS 10 8 == 3 then (s.strobeJ m GFT_CMD 1).requestHandoff
   else s.refuse 0x050A 31 GFT_CMD m).done

/-- REVERT_HOLDOFF_EXPIRE (R268): with both modules preferred only position B reverts. -/
def execRevertHoldoffExpire (s : State) : Res :=
  let theirs : Bool := match s.gft.peer with
    | some p => nbit p.flags.toNat 1
    | none => false
  (if s.duplex && s.role == 3 && s.bit GFT_CFG 1 && s.fld GFT_REVERT 15 0 != 0 && (!theirs || s.bit GFT_CFG 0) then
    { s with gft := { s.gft with revert := true, revAt := none } }
  else s).done

/-- YIELD (R265): a module in control that sees a higher mandate releases nothing more; its rings enter pass mode at the next
boundary. A hand-off of its own goes on as R267 says. -/
def execYield (r : Fin 4) (mandate : BitVec 16) (s : State) : Res :=
  (if s.controls && ringUp (s.ring r) && newer mandate.toNat (s.mandate r) && !s.gft.yielding && decide (s.gft.hoPhase < 2) then
    (({ s with gft := { s.gft with yielding := true } } : State).orReg GFT_EVENTS 0x10).raise 0x0506 31
  else s).done

/-! ## The boundary -/

/-- A yield takes effect at the boundary (R265). (DEDUCED: log entry 35) -/
def State.yieldEnds (s : State) : State :=
  if s.gft.yielding then
    let s1 := s.passRings.enterStandby true
    let s2 : State := { s1 with gft := { s1.gft with yielding := s1.gft.yielding && !s1.duplex, hoPhase := 0, hoReq := 0, hoEnd := none } }
    s2.ctrlChanged
  else s

/-- The outgoing module of a hand-off gives the rings up at boundary c+2 (R267); after a Bough or Trunk fault it is Locked. -/
def State.handoffEnds (s : State) (k : Nat) : State :=
  if s.gft.hoEnd = some k then
    let s1 := s.passRings.enterStandby false
    let s2 := if s1.faulted then (s1.setRole 5).setSrc0 s1.actSrc else s1
    let s3 : State := { s2 with gft := { s2.gft with hoPhase := 0, hoReq := 0, hoEnd := none, hoRev := false, handed := true, follows := true } }
    ((s3.countTake true).revertDone s.gft.hoRev).ctrlChanged
  else s

/-- A module that does not control the rings is Locked by a Bough or Trunk fault, and starts again once it has none (R249).
(DEDUCED: log entry 35) -/
def State.lockRole (s : State) : State :=
  if !s.duplex || s.role == 4 then s
  else if s.faulted then (if s.role = 5 then s else (s.haltEngines.setRole 5).setSrc0 s.actSrc)
  else if s.role = 5 then ({ s with gft := { s.gft with passed := false } } : State).setRole 0 else s

/-- The active module's STATUS differs in T_cyc or CONFIG_ID (R256). -/
def State.peerDiffers (s : State) : Bool :=
  match s.gft.peer with
  | some p => p.role == 4 && (p.tcyc.toNat != s.tcyc || p.configId != s.reg GFT_CONFIG_ID)
  | none => false

/-- A synchronized standby whose TB0 has left LOCKED loses synchronization; a standby that meets R256 and R262 becomes synchronized, and
the revert hold-off begins (R268). -/
def State.syncCheck (s : State) : State :=
  let locked := s.bit (TIM_TB_STATUS 0) 1
  if s.role = 3 then (if locked then s else s.syncLost)
  else if s.role = 1 ∨ s.role = 2 then
    match s.gft.last with
    | none => s
    | some img =>
      let pats := (numbered (img.engines.take 8)).all (fun p => !nbit p.2.flags.toNat 0 || s.bit (HDL_STATUS p.1) 3)
      let full := s.gft.copied && decide (16 ≤ s.gft.applied) && pats
      let again := s.gft.handed && decide (1 ≤ s.gft.applied)
      if locked && s.gft.follows && !s.samePos && !s.peerDiffers && !s.bit GFT_STATUS 11 && (full || again) then
        let s1 := (s.setRole 3).orReg GFT_EVENTS 0x80
        { s1 with gft := { s1.gft with handed := false, revAt := some (s1.now 1) } }
      else s
  else s

/-- The image of cycle k−2 that waits for boundary k. -/
def State.dueImage (s : State) (k : Nat) : Option Image :=
  s.gft.images.find? (fun i => i.k.toNat == (k + 2 ^ 32 - 2) % 2 ^ 32)

/-- Images that wait for a later boundary. -/
def State.dropImages (s : State) (k : Nat) : State :=
  { s with gft := { s.gft with images := s.gft.images.filter (fun i => decide (0 < sext 32 (i.k.toNat + 2 ^ 32 + 2 - k))) } }

/-- The Graft block at boundary k: a yield or hand-off ends; a hot takeover that was decided; the image of cycle k−2, with the
control that its HANDOFF hands over; the swaps of all engines; synchronization; the copy of a resync. -/
def State.graftBoundary (s : State) (k : Nat) : State :=
  let swaps := fun (s : State) => forEach (fun s e => s.coefSwap k e) (upTo 0 8) s
  if !s.duplex then swaps s.yieldEnds else
  let s1 := ((s.yieldEnds).handoffEnds k).lockRole.lockSync
  let s2 : State := { s1 with gft := { s1.gft with mseqAt := s1.reg GFT_MSEQ } }
  match s2.gft.takeNext && s2.role == 3, s2.gft.last with
  | true, some img => ((swaps s2).takeControl img).countTake false
  | _, _ =>
    match s2.isStandby, s2.dueImage k with
    | true, some img =>
      let s3 := ((swaps (s2.applyImage k img)).bankCheck k img).dropImages k
      if img.handoff && s3.role == 3 && !s3.samePos then
        ((s3.takeControl img).countTake true).revertDone s3.gft.revert
      else s3.syncCheck
    | _, _ => ((swaps s2).syncCheck.dropImages k).resyncCopy

end Sys2Proof.Machine
end

