-- ==== Sys2Proof/Machine/Cycle.lean ====
section
/-! DEFINITION. The cycle timeline (R20 to R35): boundary, input cut, t_out, Draft handover, and the settings of the cycle. -/

namespace Sys2Proof.Machine

/-! ## Settings (R27 to R29) -/

/-- The defaults of t_in and t_out for a code of T_cyc (R28), nanoseconds. -/
def tinDefault (code : Nat) : Nat := nth [5600, 10000, 10000, 10000] code 10000
@[inherit_doc tinDefault] def toutDefault (code : Nat) : Nat := nth [10800, 22000, 47000, 97000] code 22000

/-- The largest node count of ring `r` (R28). -/
def nodeLimit (code r : Nat) : Nat := if code = 0 then 20 else if r = 3 then 25 else 33

/-- The frame of a ring map at full size (R206): four slots of one section for each node with targets. -/
def mapFrame (m : RingMap) : Nat :=
  m.nodes.foldl (fun a n => let t := targetsOf n.role
                            if t = 0 then a else a + 4 * (8 + 16 * t)) 64

/-- The entries of a ring map in a Draft bank (R206). -/
def mapEntries (m : RingMap) : Nat := m.nodes.foldl (fun a n => a + 4 * targetsOf n.role) 0

/-- The ring maps lie within the limits of R28 and R206 for a code of T_cyc. -/
def mapsFit (code : Nat) (maps : List RingMap) : Bool :=
  (numbered maps).all (fun p => decide (p.2.nodes.length ≤ nodeLimit code p.1)
    && decide (mapFrame p.2 ≤ nth [4728, 9464, 18936, 37872] code 9464))
  && decide (maps.foldl (fun a m => a + mapEntries m) 0 ≤ 8192)

/-- The positions or quads that a map gives to a role. -/
def roleIdx (g : RingMap) (role : Nat) : List Nat := (g.nodes.filter (fun e => e.role == role)).map (fun e => e.index)

/-- No member of a list is repeated. -/
def noRepeat : List Nat → Bool
  | [] => true
  | x :: xs => !xs.contains x && noRepeat xs

/-- A string (R18): positions 0 to n - 1 without gaps or repeats, n a multiple of 4 up to 32. -/
def stringMapOk (g : RingMap) : Bool :=
  let l := roleIdx g 0
  noRepeat l && l.all (fun p => decide (p < l.length)) && l.length % 4 == 0 && decide (l.length ≤ 32)

/-- Four maps that R18, R28, R196 and R206 accept, for a code of T_cyc: cells on rings 0 to 2 and LV bridges on ring 3 only, and
only quads whose four cells are populated. (DEDUCED: log entry 55) -/
def ringMapsOk (code : Nat) (maps : List RingMap) : Bool :=
  let quads := roleIdx (nth maps 3 RingMap.none) 1
  maps.length == 4
    && (numbered maps).all (fun p =>
      (if p.1 < 3 then (roleIdx p.2 1).isEmpty && stringMapOk p.2 else (roleIdx p.2 0).isEmpty)
        && p.2.nodes.all (fun e => decide ((epsOf { Ring.reset with map := p.2 } e.addr).natAbs ≤ 16 * 65536)))
    && noRepeat quads
    && quads.all (fun q => decide (q < 24) && decide (q % 8 * 4 + 3 < (roleIdx (nth maps (q / 8) RingMap.none) 0).length))
    && mapsFit code maps

/-- The maps of the four rings. -/
def State.maps (s : State) : List RingMap := (upTo 0 4).map (fun r => (s.ring r).map)

/-- T_cyc of a code may be taken (R29). -/
def State.tcycFits (s : State) (code : Nat) : Bool :=
  mapsFit code s.maps && s.patternsFit ((toutDefault code - tinDefault code) * 2 / 5)
    && (!s.duplex || decide (imageBytes (s.sumCount 8 0) ≤ imageLimit (tcycOf code)))

/-- TCYC_WRITE (R29): refused and journaled outside the stopped state, with a cell enabled, or where a check fails.
(DEDUCED: log entry 37) -/
def execTcycWrite (m : Master) (v : BitVec 2) (s : State) : Res :=
  (if s.stopped && s.spb && !s.cellOn && s.tcycFits v.toNat then
    { s with tim := { s.tim with tcyc := some (v.toNat, s.originOf m) } }
  else s.refusedJ m TIM_CYCLE_CFG (w32 v.toNat)).done

/-- A setting in force, or the one that waits. -/
def State.pendingOr (s : State) (p : Option (Nat × Nat)) (a : Nat) : Nat :=
  match p with
  | some (v, _) => v
  | none => s.fld a 16 0

/-- t_in and t_out satisfy conditions 2 and 3 of R27, and leave every loaded pattern its clocks under the cut in force (R29).
(DEDUCED: log entry 37) -/
def State.timesFit (s : State) (tin tout : Nat) : Bool :=
  decide (tin + 1000 ≤ tout) && decide (tout + 1700 ≤ s.tcyc)
    && s.patternsFit ((tout - max tin (s.fld WRP_WRAP_CUT 16 0)) * 2 / 5)

/-- A write of TIM_T_IN or TIM_T_OUT (R27, R29). -/
def State.timeWrite (s : State) (m : Master) (isOut : Bool) (v : Nat) : State :=
  let a := if isOut then TIM_T_OUT else TIM_T_IN
  let tin := if isOut then s.pendingOr s.tim.tin TIM_T_IN else v
  let tout := if isOut then v else s.pendingOr s.tim.tout TIM_T_OUT
  if s.mirrorBars m then s.mirrorRefuse a m
  else if m == .mirror || s.timesFit tin tout then
    let s1 : State := if isOut then { s with tim := { s.tim with tout := some (v, s.originOf m) } }
      else { s with tim := { s.tim with tin := some (v, s.originOf m) } }
    s1.mirror m a (w32 v)
  else s.ended 3

/-- TIN_TOUT_WRITE (R27, R29). (DEDUCED: log entry 37) -/
def execTinToutWrite (m : Master) (isOut : Bool) (v : BitVec 17) (s : State) : Res := (s.timeWrite m isOut v.toNat).done

/-! ## The boundary -/

/-- A setting that waits takes effect, journaled with the origin of its writer (R29, R314). -/
def State.takeSetting (s : State) (p : Option (Nat × Nat)) (a : Nat) : State :=
  match p with
  | some (v, origin) => (s.setFld a 16 0 v).journal origin 0x01 false a (s.reg a) (w32 v)
  | none => s

/-- t_in and t_out that wait take effect; condition 1 of R27 is checked again for a new cut. (DEDUCED: log entry 37) -/
def State.takeTimes (s : State) : State :=
  let moved := s.tim.tin.isSome
  let s1 := (s.takeSetting s.tim.tin TIM_T_IN).takeSetting s.tim.tout TIM_T_OUT
  let s2 : State := { s1 with tim := { s1.tim with tin := none, tout := none } }
  if moved then forEach State.checkCond1 s2.ringsEn s2.judgeCut else s2

/-- A new T_cyc takes effect, with the defaults of R28 (R44), for which condition 1 of R27 is checked; settings of t_in and t_out that
waited for the same boundary give way to them. (DEDUCED: log entry 37) -/
def State.takeTcyc (s : State) : State :=
  match s.tim.tcyc with
  | some (v, origin) =>
    let s1 := (s.setFld TIM_CYCLE_CFG 1 0 v).journal origin 0x01 false TIM_CYCLE_CFG (s.reg TIM_CYCLE_CFG) (w32 v)
    let s2 := (s1.putFldJ (originBlk 0x01 15) TIM_T_IN 16 0 (tinDefault v)).putFldJ (originBlk 0x01 15) TIM_T_OUT 16 0
      (toutDefault v)
    let s3 : State := { s2 with tim := { s2.tim with tcyc := none, tin := none, tout := none } }
    forEach State.checkCond1 s3.ringsEn s3.imgShow.judgeCut
  | none => s

/-- The grid advances to its next boundary (R43, R44). -/
def State.nextCycle (s : State) : State :=
  let s1 := ((s.setPair TIM_BOUNDARY_LO s.tim.nextB).setReg TIM_CYCLE_NUM (w32 s.tim.nextK)).setBit TIM_STATUS 5 true
  let s2 := s1.takeTcyc.takeTimes
  { s2 with tim := { s2.tim with nextB := (s.tim.nextB + ns s2.tcyc) % 2 ^ 64, nextK := (s.tim.nextK + 1) % 2 ^ 32 } }

/-- An engine at a boundary (R137, R150, R238): SEG_ACT, the hand-over unit, a stop, and the boundary that lets an armed
engine run. -/
def State.engineBoundary (s : State) (e : Nat) : State :=
  let s1 := s.putFldJ (originBlk 0x03 e) (HDL_SEG_ACT e) 15 0 (s.fld (HDL_SEG_EN e) 15 0)
  let s2 := s1.hovBoundary e
  let x := s2.eng e
  let y : Engine := { x with img := s2.fld (HDL_IMG e) 10 0 }
  if x.stopReq then (s2.setEng e { y with stopReq := false, ready := false }).setFld (HDL_STATUS e) 1 0 0
  else s2.setEng e { y with ready := x.ready || s2.hdlState e == 1 }

/-- The effective cut of the cycle (R111), journaled when it changes (R314); condition 1 of R27 is checked for it, but for rings that
await an exchange (R113). -/
def State.takeCut (s : State) : State :=
  if s.fld WRP_WRAP_CUT 16 0 = s.raisedCut then s else
  let s1 := s.putFldJ (originBlk 0x02 15) WRP_WRAP_CUT 16 0 s.raisedCut
  forEach State.checkCond1 (s1.ringsEn.filter (fun r => !(s1.ring r).recheck)) s1

/-- The ring buffers are rewritten in every cycle (R310). -/
def State.buffersRewritten (s : State) : State :=
  if s.poison.isEmpty then s else s.cleared (bufBase 0) (bufBase 0 + bufBytes 0 - 1)

/-- CYCLE_BOUNDARY (R22, R23, R35). -/
def execCycleBoundary (s : State) : Res :=
  let s1 := forEach State.ringBoundary (upTo 0 4) s.buffersRewritten.nextCycle
  let s2 := forEach State.engineBoundary (upTo 0 8) s1
  let s3 := (s2.graftBoundary s2.k).takeCut
  let s4 := ({ s3 with cyc := CycleUnit.reset } : State).autoClear 1 none
  ((if s4.bit TIM_XSTAMP_CTRL 1 then s4.xstamp else s4).post 104).done

/-! ## The input cut -/

/-- The words 0 to 63 of the input region of engine `e` (R131). -/
def State.inputHead (s : State) (e : Nat) : List Word :=
  let rings := (upTo 0 4).map s.ring
  let sum := fun (f : Ring → Bool) => (numbered rings).foldl (fun a p => a + b2n (f p.2) * 2 ^ p.1) 0
  let valid := rings.flatMap (fun g => [w32 (nfld g.last 32 1), w32 (nfld g.last 40 33)])
  let age := fun (g : Ring) (a : Nat) => if (mapEntry g a).isSome then (Sparse.get (fun _ => RNode.none) g.nodes a).age else 255
  let ages := rings.flatMap (fun g => (upTo 0 10).map (fun j =>
    w32 (age g (4 * j + 1) + age g (4 * j + 2) * 256 + age g (4 * j + 3) * 65536 + age g (4 * j + 4) * 16777216)))
  [s.reg TIM_CYCLE_NUM, lo32 s.bk, hi32 s.bk, w32 s.cut,
    w32 (sum (fun g => g.step == 7) + 16 * sum (fun g => g.wrapped)), w32 (b2n (s.eng e).did)]
  ++ List.replicate 10 0 ++ valid ++ ages

/-- One entry of the input map, half `h` of HDL_IN_MAPj (R133): the signal word and its value where the node is valid. -/
def State.mapWord (s : State) (m h : Nat) : Option (Nat × Word) :=
  let g := s.ring (nfld h 14 13)
  let a := nfld h 12 7
  if nbit h 15 && nbit g.last a then some (64 + m, recWord (Sparse.get (fun _ => RNode.none) g.nodes a) (nfld h 6 3))
  else none

/-- The mapped words of engine `e` in this cycle. -/
def State.mapped (s : State) (e : Nat) : List (Nat × Word) :=
  (s.regs.filter (fun p => decide (HDL_IN_MAP e 0 ≤ p.1) && decide (p.1 ≤ HDL_IN_MAP e 463))).flatMap (fun p =>
    let j := (p.1 - HDL_IN_MAP e 0) / 4
    [s.mapWord (2 * j) (fld p.2 15 0), s.mapWord (2 * j + 1) (fld p.2 31 16)].filterMap id)

/-- The word of a Heddle trigger (R336): the events before the clock of this cut. -/
def State.trigWord (s : State) (n : Nat) : Word :=
  let t := Sparse.get (fun _ => Trig.none) s.evr.trigs n
  let c := t.count - (if t.clk = s.now 0 then t.inClk else 0)
  if c = 0 then 0 else
    w32 (toU 16 (clampI (-32767) 32767 (tdiff t.first s.bk / 262144)) * 65536 + min 65535 c)

/-- The router's word is placed in the mailbox staging copy of engine `e` (R336). -/
def State.trigPlace (s : State) (e : Nat) : State :=
  if s.bit (EVR_HDL e) 31 then
    let x := s.eng e
    s.setEng e { x with box := Sparse.set (fun _ => 0) x.box (s.fld (EVR_HDL e) 4 0) (s.trigWord e) }
  else s

/-- The input region of engine `e` is fixed (R130 to R133). -/
def State.inputFix (s : State) (e : Nat) : State :=
  let x := s.eng e
  let s1 := Sparse.setList (fun _ => 0) x.sig 0 (s.inputHead e)
  let s2 := (s.mapped e).foldl (fun m p => Sparse.set (fun _ => 0) m p.1 p.2) s1
  let s3 := Sparse.setList (fun _ => 0) s2 992 (Sparse.range (fun _ => 0) x.box 0 32)
  (s.setEng e { x with sig := s3, did := false }).cleared (sigAddr e 0) (sigAddr e 1023)

/-- An engine that runs starts its pass (R130, R135, R142, R150); in a duplex pair only on the active module. -/
def State.passStart (s : State) (e : Nat) : State :=
  let x := s.eng e
  let st := s.hdlState e
  if (st == 2 || (st == 1 && x.ready)) && (!s.duplex || s.role == 4) then
    let (i, c) := s.nextPick e 16 0 0
    (s.setEng e { x with inRun := true, idx := i, clocks := c, atEnd := false, satPass := false, satTrk := false
                         shadow := x.pub, stNew := [], binds := [], lanes := [], sort := none }).setFld (HDL_STATUS e) 1 0 2
  else s

/-- INPUT_CUT (R24, R130). -/
def execInputCut (s : State) : Res :=
  let s1 := forEach State.ringCut (upTo 0 4) { s with cyc := { s.cyc with cutDone := true } }
  let s2 := forEach State.inputFix (upTo 0 8) (forEach State.trigPlace (upTo 0 8) s1)
  let s3 : State := { s2 with evr := { s2.evr with trigs := [], cutAt := some (s2.now 0) } }
  ((forEach State.passStart (upTo 0 8) s3).post 105).done

/-! ## t_out -/

/-- T_OUT (R146): overruns, the Weaver, the standby's missing image, and the capture row. (DEDUCED: log entry 24) -/
def execTOut (s : State) : Res :=
  let late := (upTo 0 8).filter (fun e => (s.eng e).inRun)
  let s1 := forEach State.escalate late (forEach State.overrun late s)
  let s2 := forEach State.overPulse (upTo 0 8) s1.weave.imageDue.capOut
  (({ s2 with cyc := { s2.cyc with outDone := true } } : State).post 106).done

/-! ## Draft handover -/

/-- The SAFE word of safety core `c`, 0 SA, 1 SB (R85, R278): a permit while SPB is released and the core itself demands nothing, else
a demand. The clockwise copy of a CYCLE frame carries the word of SA, the other that of SB. -/
def State.safeWord (s : State) (c : Fin 2) : Nat :=
  let code := if s.spb || s.saf.coreOff.getLsbD c then 0 else 0xA55A
  code + (65535 - code) * 65536 + s.k % 65536 * 2 ^ 32

/-- Entry `i` of the Draft, under bank·8192 + e, has a poisoned word. -/
def State.entryBad (s : State) (i : Nat) : Bool :=
  (upTo 0 4).any (fun w => s.poisoned (draftAddr (i / 8192) (i % 8192) + 4 * w))

/-- The sections of a ring's part of the front bank (R205), without the entries that cannot be read (R310). -/
def State.sectionsOf (s : State) : List (Nat × Nat × Nat) → Nat → List Section
  | [], _ => []
  | (node, off, n) :: rest, i =>
    { node := BitVec.ofNat 6 node, offset := off
      entries := ((upTo i n).filter (fun e => !s.entryBad e)).map (fun e => Sparse.get (fun _ => Entry.zero) s.wvr.banks e) }
      :: State.sectionsOf s rest (i + n)

/-- The CYCLE frame of ring `r` in a direction (R74, R84). -/
def State.cycleFrame (s : State) (r : Nat) (h : BankHead) (d : Dir) : WarpFrame :=
  let base := if s.bit WVR_STATUS 0 then 8192 else 0
  .cycle { hdr := modHdr r d 63 true (s.k % 65536) (s.mandate r), b2 := BitVec.ofNat 64 (s.slotStart 2)
           safe := BitVec.ofNat 64 (s.safeWord (match d with | .cw => 0 | .ccw => 1)), tcyc := w32 s.tcyc, cflags := BitVec.ofNat 8 h.flags
           sections := s.sectionsOf h.runs (base + h.first) }

/-- The head of ring `r` shows what the front bank holds (R205). -/
def State.showHead (s : State) (r : Nat) (h : BankHead) : State :=
  (s.setReg (WVR_RING_HEAD r) (w32 (h.count * 65536 + h.first))).setReg (WVR_RING_SLOTS r) (w32 (h.slots * 65536 + h.bytes))

/-- The banks swap (R205). How long the Weaver has taken is not the model's to know: a free value within t_wv (R26). -/
def State.bankSwap (s : State) : State :=
  let total := s.wvr.back.foldl (fun a h => a + h.count) 0
  let dur := (Config.freeWord s.freeCtr).toNat % 601
  let s1 := s.tickFree.setBit WVR_STATUS 0 (!s.bit WVR_STATUS 0)
  let s2 := ((s1.setFld WVR_ENTRIES 13 0 total).peak WVR_ENTRIES 29 16 total)
  forEach (fun s p => s.showHead p.1 p.2) (numbered (s.wvr.back.take 4)) ((s2.setFld WVR_DUR 15 0 dur).peak WVR_DUR 31 16 dur)

/-- The Shuttle engines find the poisoned words of the entries they read (R310, R313): an error for each, by the engine of the ring. -/
def State.draftErrors (s : State) (p : Nat × BankHead) : State :=
  let base := (if s.bit WVR_STATUS 0 then 8192 else 0) + p.2.first
  let as := (upTo base p.2.count).flatMap (fun e => (upTo 0 4).map (fun w => draftAddr (e / 8192) (e % 8192) + 4 * w))
  if s.poison.isEmpty then s
  else forEach (fun s a => if s.poisoned a then s.eccFound a (0x20 + p.1 / 2) 0 2 else s) as s

/-- The CYCLE frames leave (R95): on the rings that are syncing or run, unless the module yields. -/
def State.releaseFrames (s : State) : State :=
  let rs := (numbered (s.wvr.back.take 4)).filter (fun p => s.ringsUp.contains p.1 && decide (6 ≤ (s.ring p.1).step))
  forEach State.draftErrors rs (forEach (fun s p => s.launch p.1 (s.cycleFrame p.1 p.2)) rs s)

/-- DRAFT_HANDOVER (R205, R257): a Weaver that has not finished keeps the banks and raises 0x0407. -/
def execDraftHandover (finished : Bool) (s : State) : Res :=
  let s1 :=
    if !s.wvr.built then s
    else if finished then s.bankSwap.releaseFrames
    else (s.orReg WVR_EVENTS 0x40).raise 0x0407 31
  (({ s1 with wvr := { s1.wvr with built := false } } : State).sendImage).done

end Sys2Proof.Machine
end

