-- ==== Sys2Proof/Machine/SafetyIo.lean ====
section
/-! DEFINITION. The safety functions (R273 to R302): safe inputs with their test pulses, safe outputs with their tests, remote
permits, the seal bank, the parameter block, and the block repetition. -/

namespace Sys2Proof.Machine

/-! ## The parameter block (R297) -/

/-- A byte of SIN_CFG. -/
def sinCfg (b : SafetyBlock) (n : Nat) : Nat := blkAt b (0x08 + n) 1

/-- Every field of a block lies in its range. -/
def blockRange (b : SafetyBlock) : Bool :=
  let inR := fun (off n lo hi : Nat) => decide (lo ≤ blkAt b off n) && decide (blkAt b off n ≤ hi)
  inR 0x02 2 1 1 && inR 0x04 2 1 65534 && inR 0x06 2 1 65534 && (upTo 0 8).all (fun n => decide (sinCfg b n < 32))
    && inR 0x10 1 0 15 && inR 0x11 1 1 8 && inR 0x12 2 1 1000 && inR 0x14 2 1 1000 && inR 0x16 1 1 8 && inR 0x17 1 0 1
    && inR 0x18 2 10 600 && inR 0x1A 2 5 600 && inR 0x1C 2 100 500 && inR 0x1E 1 0 3 && inR 0x1F 1 0 0
    && inR 0x20 2 1024 65535 && inR 0x22 2 2 100 && inR 0x24 2 5 500 && inR 0x26 2 0 0 && inR 0x28 4 0 86400 && inR 0x2C 16 0 0

/-- Pairs have one function, SPB or SMT, and different test-pulse sources (R283). -/
def blockPairs (b : SafetyBlock) : Bool :=
  (setBits (blkAt b 0x10 1) 4).all (fun i =>
    let x := sinCfg b (2 * i)
    let y := sinCfg b (2 * i + 1)
    x % 4 == y % 4 && (x % 4 == 1 || x % 4 == 2) && x / 4 % 4 != y / 4 % 4)

/-- The PCRC of a block. -/
def blockCrc (b : SafetyBlock) : Nat := blkAt b 0x3C 4

/-- SAF_SEAL.REASON of a block as it stands, without the code on S1; 0 for none. -/
def blockReason (b : SafetyBlock) : Nat :=
  if b.length ≠ 64 then 1
  else if crc32c (b.take 60) ≠ blockCrc b then 2
  else if !blockRange b then 3
  else if !blockPairs b then 4
  else if 5 * blkAt b 0x22 2 < blkAt b 0x24 2 then 5
  else 0

/-- SET_CODE of a block. -/
def setCode (b : SafetyBlock) : Nat := blkAt b 0 2

/-- The code read from S1. (DEDUCED: log entry 40) -/
def State.s1Code (s : State) : Nat := s.fld SAF_SEAL 15 0

/-- Both cores load a block and check it (R297): it is in force where it is valid, else SPB is held. -/
def State.loadBlock (s : State) (b : SafetyBlock) : State :=
  let r0 := blockReason b
  let reason := if r0 = 0 ∧ setCode b ≠ s.s1Code then 6 else r0
  let ok := reason == 0
  let s1 : State := { s with saf := { s.saf with block := if ok then b else [], valid := ok } }
  let s2 := ((s1.setFld SAF_SEAL 31 24 reason).setBit SAF_SEAL 18 (r0 == 0 && setCode b == s.s1Code)).setReg SAF_PARAM_ID
    (w32 (if ok then blockCrc b else 0))
  ((s2.holdCause 0x0611 31 (!ok)).safCond 14 (!ok)).safEval

/-- SAFETY_BLOCK_LOAD (R297): the block of the card's safety section. -/
def execSafetyBlockLoad (block : SafetyBlock) (s : State) : Res :=
  (({ s with saf := { s.saf with card := block } } : State).loadBlock block).done

/-- SELFTEST_DONE (R276, R300): a failure is a Trunk fault, and demands SMT too, until the power cycle. -/
def execSelftestDone (ok : Bool) (s : State) : Res :=
  let s0 := s.setReg SAF_FW_ID Config.safetyFwId
  (if ok && s.saf.testFail then s0
  else if ok then (s0.setBit SAF_STATUS 3 true).safCond 15 false
  else
    let s1 : State := { s0 with saf := { s0.saf with testFail := true } }
    ((s1.raiseHeld 0x0610 31).safCond 15 true).voterAssert true).done

/-! ## Safe inputs -/

/-- Safe input channel `n`. -/
def State.chan (s : State) (n : Nat) : SafeChan := Sparse.get (fun _ => SafeChan.reset) s.saf.chans n

/-- The state with a channel replaced. -/
def State.setChan (s : State) (n : Nat) (c : SafeChan) : State :=
  { s with saf := { s.saf with chans := Sparse.set (fun _ => SafeChan.reset) s.saf.chans n c } }

/-- Channel `n` is in PERMIT. -/
def State.permits (s : State) (n : Nat) : Bool := s.bit SAF_IN (8 + n)

/-- Pair `i` is latched (R283). -/
def State.pairLatched (s : State) (i : Nat) : Bool := s.bit SAF_IN (24 + i)

/-- Both channels of a latched pair have been in DEMAND together (R283). -/
def State.pairSeen (s : State) (n : Nat) : State :=
  let i := n / 2
  if s.pairLatched i && !s.permits (2 * i) && !s.permits (2 * i + 1) then
    { s with saf := { s.saf with pairBoth := bvPut s.saf.pairBoth i true } }
  else s

/-- Channel `n` enters DEMAND (R280). -/
def State.chanDemand (s : State) (n : Nat) : State :=
  ((s.setBit SAF_IN (8 + n) false).setChan n { s.chan n with returned := 0 }).pairSeen n

/-- The state with the event's stamp set back, and at the event itself again. -/
def State.stampBack (s : State) (d : Nat) : State := { s with saf := { s.saf with back := d } }

/-- t_F in 2^-16 ns; 1 µs where no block is in force. (DEDUCED: log entry 38) -/
def State.filterTime (s : State) : Nat := ns (1000 * (if s.saf.valid then blkAt s.saf.block 0x11 1 else 1))

/-- Channel `n` has test pulses (R297). -/
def State.tested (s : State) (n : Nat) : Bool := s.saf.valid && nbit (sinCfg s.saf.block n) 4

/-- The test window (R282): TP_WID and 1 µs, in 2^-16 ns. -/
def State.testWindow (s : State) : Nat := ns (500 * blkAt s.saf.block 0x16 1 + 1000)

/-- How far back the event that made channel `ch` demand began `run` samples of 10 ns ago (R280): the first change of a toggling input
lies within t_F; a low run lasts t_F, or up to its test window where it is resolved at that window's end. -/
def State.demandBack (s : State) (ch : Nat) (d : DemandRun) : Nat :=
  if d.toggling then min (ns (10 * d.run)) s.filterTime
  else max s.filterTime (min (ns (10 * d.run)) (if s.tested ch then s.testWindow else 0))

/-- SAFE_INPUT_DEMAND (R280): low for t_F, stamped at its first low sample; or toggling, stamped at the first change.
(DEDUCED: log entries 38 and 39) -/
def execSafeInputDemand (ch : Fin 8) (d : DemandRun) (s : State) : Res :=
  (if s.permits ch then
    let s0 := if d.toggling then s else s.setBit SAF_IN ch false
    let s1 := (((s0.stampBack (s.demandBack ch d)).chanDemand ch).safEval).stampBack 0
    if d.toggling then s1.raise 0x0606 ch else s1
  else s).done

/-- Fault 0x0605 of a channel has been cleared with its record (R282). (DEDUCED: log entry 39) -/
def State.missCleared (s : State) : Bool :=
  !(s.flt.order.any (fun r => s.recBlock r == 6 && s.bit (FLT_REC_CODES r) 5))

/-- The pair of channel `n` leaves its latch (R283) once both channels have demanded together and both permit. -/
def State.pairRelease (s : State) (n : Nat) : State :=
  let i := n / 2
  if s.pairLatched i && nbit s.saf.pairBoth.toNat i && s.permits (2 * i) && s.permits (2 * i + 1) then
    (({ s with saf := { s.saf with pairBoth := bvPut s.saf.pairBoth i false } } : State).setBit SAF_IN (24 + i) false).holdTag
      0x0603 i i false
  else s

/-- SAFE_INPUT_PERMIT (R280, R282): high for t_F; with test pulses, one has returned since the demand, two after 0x0605. -/
def execSafeInputPermit (ch : Fin 8) (s : State) : Res :=
  let c := s.chan ch
  let ok := if c.repeated then s.missCleared && decide (2 ≤ c.returned) else !s.tested ch || decide (1 ≤ c.returned)
  (if !s.permits ch && ok then
    let s1 := ((s.setBit SAF_IN (8 + ch) true).setBit SAF_IN ch true).setBit SAF_IN (16 + ch) false
    ((s1.setChan ch { c with repeated := false }).pairRelease ch).safEval
  else s).done

/-- The channels with test pulses fed from source `n` (R282). -/
def State.fedBy (s : State) (n : Nat) : List Nat :=
  (upTo 0 8).filter (fun c => s.tested c && sinCfg s.saf.block c / 4 % 4 == n)

/-- TEST_PULSE (R282): `levels` are the inputs as last sampled (R301); the round of each channel of the source begins anew.
(DEDUCED: log entry 39) -/
def execTestPulse (x : TestSample) (s : State) : Res :=
  let n := x.src
  let levels := x.levels
  let s0 := s.setFld SAF_IN 7 0 levels.toNat
  (if nbit s.saf.tpsOff.toNat n then s0 else
    forEach (fun s c => s.setChan c { s.chan c with missNow := false, high := nbit levels.toNat c }) (s.fedBy n)
      { s0 with saf := { s0.saf with tpsPulse := bvPut s0.saf.tpsPulse n true } }).done

/-- A channel is latched by repeated misses (R282): it stays in DEMAND until the record is cleared and two pulses return.
(DEDUCED: log entry 39) -/
def State.missLatch (s : State) (n : Nat) : State :=
  let s1 := (s.setChan n { s.chan n with good := none, repeated := true, returned := 0 }).setBit SAF_IN (16 + n) true
  if s.permits n then s1.chanDemand n else s1

/-- Channel `n` is diagnosed by fault 0x0605, and its partner with it where `both` says so; a channel latched already is not
diagnosed anew (R282). -/
def State.missAgain (s : State) (n : Nat) (partner : Option Nat) : State :=
  let s1 := s.missLatch n
  let s2 := match partner with
    | some p => s1.missLatch p
    | none => s1
  if (s.chan n).repeated then s2 else s2.raise 0x0605 n

/-- A missing return of channel `n` (R280, R282). -/
def State.missReturn (s : State) (n : Nat) : State :=
  let c := s.chan n
  let t := s.now 1
  let recent := (t :: c.missAt).filter (fun x => decide (tdiff t x ≤ ((ns 60000000000 : Nat) : Int)))
  let again := c.repeated || c.good == some 0 || decide (3 ≤ recent.length)
  let s1 := (s.setChan n { c with good := some 0, missAt := recent.take 3, missNow := true }).setBit SAF_IN (16 + n) true
  let s2 := s1.chanDemand n
  let p := if n % 2 = 0 then n + 1 else n - 1
  if s2.paired (n / 2) && (s2.chan p).missNow then s2.missAgain n (some p)
  else if again then s2.missAgain n none
  else s2

/-- A test pulse of channel `n` has returned (R282): a single miss is diagnosed with the second return after it.
(DEDUCED: log entry 39) -/
def State.pulseReturn (s : State) (n : Nat) : State :=
  let c := s.chan n
  let r := if c.repeated && !s.missCleared then 0 else c.returned + 1
  match c.good with
  | none => s.setChan n { c with returned := r }
  | some 0 => s.setChan n { c with returned := r, good := some 1 }
  | some _ => (s.setChan n { c with returned := r, good := none }).raise 0x0604 n

/-- The test window of channel `c` ends: one that was high before it has missed its pulse, or returned it, or is low still. -/
def State.windowEnd (s : State) (c : Nat) (sawLow lowAtEnd : Bool) : State :=
  let s1 := s.setBit SAF_IN c (!lowAtEnd)
  if !(s.chan c).high || lowAtEnd then s1
  else if sawLow then s1.pulseReturn c
  else s1.missReturn c

/-- TEST_WINDOW_END (R282): per channel of the source, whether a low sample was seen, and whether it is low still. -/
def execTestWindowEnd (n : Fin 4) (sawLow : BitVec 8) (lowAtEnd : BitVec 8) (s : State) : Res :=
  (if nbit s.saf.tpsPulse.toNat n then
    (forEach (fun s c => s.windowEnd c (nbit sawLow.toNat c) (nbit lowAtEnd.toNat c)) (s.fedBy n)
      { s with saf := { s.saf with tpsPulse := bvPut s.saf.tpsPulse n false } }).safEval
  else s).done

/-- PAIR_DISCREPANCY (R283). -/
def execPairDiscrepancy (i : Fin 4) (s : State) : Res :=
  (if s.paired i && !s.pairLatched i && s.permits (2 * i) != s.permits (2 * i + 1) then
    ((({ s with saf := { s.saf with pairBoth := bvPut s.saf.pairBoth i false } } : State).setBit SAF_IN (24 + i) true).holdTag
      0x0603 i i true).safEval
  else s).done

/-- Restart acknowledgements are given by hand (RESTART, R277). -/
def State.manual (s : State) : Bool := s.saf.valid && blkAt s.saf.block 0x17 1 == 0

/-- RESET_INPUT_ACK (R277, R281). -/
def execResetInputAck (ch : Fin 8) (s : State) : Res :=
  (if s.chanFn ch = 3 ∧ s.manual then (s.setBit SAF_IN ch false).safAck else s).done

/-- AR_DELAY_EXPIRE (R277): with RESTART auto, the acknowledgement of the functions that no source has demanded throughout. -/
def execArDelayExpire (s : State) : Res :=
  (if s.saf.arRunning && s.saf.valid && !s.manual then s.safAck else s).done

/-! ## Test-pulse sources -/

/-- TPS_OVERLOAD (R279): the source is off, and the channels fed from it see their input low. -/
def execTpsOverload (n : Fin 4) (s : State) : Res :=
  (({ s with saf := { s.saf with tpsOff := bvPut s.saf.tpsOff n true, tpsPulse := bvPut s.saf.tpsPulse n false } } : State).holdTag
    0x0613 n n true |> forEach (fun t c => t.setBit SAF_IN c false) (s.fedBy n)).done

/-- TPS_RESTART (R279). -/
def execTpsRestart (n : Fin 4) (s : State) : Res :=
  State.done { s with saf := { s.saf with tpsOff := bvPut s.saf.tpsOff n false } }

/-- TPS_RECOVERED (R279): a source that is on has run without overload. -/
def execTpsRecovered (n : Fin 4) (s : State) : Res :=
  (if nbit s.saf.tpsOff.toNat n then s else s.holdTag 0x0613 n n false).done

/-! ## Safe outputs -/

/-- OUT_OFF shows whether both outputs are off. -/
def State.outShow (s : State) : State := s.setBit SAF_STATUS 2 (s.fld SAF_OUT 1 0 == 0)

/-- Output `o` reads back on while both of its switches are closed (R284, R301). -/
def State.outRead (s : State) (o : Nat) : State := (s.setBit SAF_OUT o (s.fld SAF_OUT (5 + 2 * o) (4 + 2 * o) == 3)).outShow

/-- OUTPUT_TEST (R285): an output that is on opens the switch whose turn it is, and is off in its dark pulse (R284). -/
def execOutputTest (o : Fin 2) (s : State) : Res :=
  (if s.bit SAF_OUT o && s.saf.testOut.isNone then
    let sw := 4 + 2 * o.val + b2n (nbit s.saf.testSb.toNat o)
    let s1 : State := { s with saf := { s.saf with testOut := some o, hitInTest := false } }
    ((s1.setBit SAF_OUT sw false).outRead o).setBit SAF_OUT 8 true
  else s).done

/-- Fault 0x0608 of an output (R284, R285): it is turned off, and SPB and SMT are demanded once. -/
def State.outputFault (s : State) (o : Nat) : State :=
  let s1 := ((s.setFld SAF_OUT (5 + 2 * o) (4 + 2 * o) 0).outRead o).setBit SAF_OUT (2 + o) true
  (s1.holdTag 0x0608 o o true).safPulse 19

/-- OUTPUT_OVERLOAD (R284). -/
def execOutputOverload (o : Fin 2) (s : State) : Res := (s.outputFault o).done

/-- OUTPUT_RETURN_TIMEOUT (R285). -/
def execOutputReturnTimeout (o : Fin 2) (s : State) : Res := (s.outputFault o).done

/-- A test is evaluated (R285): an output that did not fall is a Trunk fault, and demands until the power cycle. -/
def State.testJudge (s : State) (o : Nat) (fell : Bool) : State :=
  if fell then s else (((s.setBit SAF_OUT (2 + o) true).holdTag 0x0607 o o true).safCond 19 true)

/-- OUTPUT_TEST_END (R285, R286): without a demand in the pulse the switch closes and the test is judged; with one the test is
discarded, and the switch closes only where the demand was not for SMT. -/
def execOutputTestEnd (o : Fin 2) (fell : Bool) (s : State) : Res :=
  (if s.saf.testOut = some o then
    let sb := nbit s.saf.testSb.toNat o
    let sw := 4 + 2 * o.val + b2n sb
    let hit := s.saf.hitInTest
    let ack := s.saf.ackPend
    let s1 : State := { s with saf := { s.saf with testOut := none, testSb := bvPut s.saf.testSb o (!sb), hitInTest := false } }
    let s2 := s1.setBit SAF_OUT 8 false
    let s3 := if s2.bit SAF_STATUS 1 then s2 else (s2.setBit SAF_OUT sw true).outRead o
    let s4 := if hit then s3.count SAF_CNT1 15 0 1 else s3.testJudge o fell
    if ack then s4.safAck else s4
  else s).done

/-- SV24_OUT_OF_RANGE (R276, R284). -/
def execSv24OutOfRange (s : State) : Res :=
  (((s.setBit SAF_OUT 9 false).holdCause 0x0609 31 true).safCond 20 true).done

/-- SV24_RESTORED (R276). -/
def execSv24Restored (s : State) : Res :=
  (((s.setBit SAF_OUT 9 true).holdCause 0x0609 31 false).safCond 20 false).done

/-- CORE_DISAGREE (R276, R300). Which of the cores demands alone is a free value. (DESIGN CHOICE: log entry 7) -/
def execCoreDisagree (s : State) : Res :=
  let core := (Config.freeWord s.freeCtr).toNat % 2
  (((s.tickFree.withSaf { s.saf with coreOff := bvPut s.saf.coreOff core true }).holdCause 0x060F 31 true).safCond 21 true).done

/-! ## The block on the rings -/

/-- BLK_REPEAT (R287): while SPB is latched. A local demand of a module that does not control the rings no longer reaches them
(R289). -/
def execBlkRepeat (s : State) : Res :=
  (if s.spb && (s.controls || s.machineDemand) then
    ({ s with saf := { s.saf with blkLeft := s.saf.blkLeft - 1 } } : State).injectBlk
  else s).done

/-! ## Remote permits (R293 to R296) -/

/-- REMOTE is enabled by a block in force. -/
def State.remote (s : State) : Bool := s.saf.valid && nbit (blkAt s.saf.block 0x1E 1) 0

/-- PSEQ of a PDU. -/
def pduSeq (p : SafetyPdu) : Nat := blkAt p.bytes 8 4

/-- CODE of a PDU: one that is none of the three is STOP (R294). -/
def pduCode (p : SafetyPdu) : Nat :=
  let c := blkAt p.bytes 12 2
  if c = 0xA55A ∨ c = 0x0FF0 then c else 0x3CC3

/-- A copy is well formed for this module (R294), but for its PSEQ. (DEDUCED: log entry 41) -/
def State.pduSound (s : State) (p : SafetyPdu) : Bool :=
  let b := p.bytes
  b.length == 32 && blkAt b 0 2 == 1 && blkAt b 2 2 == blkAt s.saf.block 0x06 2 && blkAt b 4 2 == blkAt s.saf.block 0x04 2
    && blkAt b 14 2 == 65535 - blkAt b 12 2 && crc32c (natLe 2 s.s1Code ++ b.take 28) == blkAt b 28 4

/-- A copy that is not valid (R294): counted, and 0x060E for the first in any second. (DEDUCED: log entry 41) -/
def State.pduInvalid (s : State) : State :=
  let s1 := s.count SAF_CNT0 31 16 1
  let quiet : Bool := match s.saf.invalidAt with
    | some t => decide (((ns 1000000000 : Nat) : Int) ≤ tdiff (s.now 1) t)
    | none => true
  if quiet then ({ s1 with saf := { s1.saf with invalidAt := some (s.now 1) } } : State).raise 0x060E 31 else s1

/-- A valid permit ends the remote demands (R276) and restarts the watchdog (R296). -/
def State.permit (s : State) : State :=
  ((({ s with saf := { s.saf with cond := nput s.saf.cond 10 8 0 } } : State).holdCause 0x060B 31 false).safEval)

/-- The degraded state begins or ends, journaled (R295, R302). -/
def State.setDegraded (s : State) (on : Bool) : State :=
  let old := s.reg SAF_STATUS
  let s1 := s.setBit SAF_STATUS 5 on
  let s2 : State := { s1 with saf := { s1.saf with degOver := false, pairRun := 0, degAt := if on then some (s1.now 1) else none } }
  (s2.jSafety SAF_STATUS old (s2.reg SAF_STATUS)).holdCause 0x060C 31 on

/-- PSEQ `n` is newer, by signed difference, than the last one acted on (R294). -/
def State.newerSeq (s : State) (n : Nat) : Bool := decide (0 < sext 32 (n + 2 ^ 32 - (s.reg SAF_REMOTE).toNat))

/-- PSEQ `n` is acted on (R294): its first copy waits no longer, nor a PERMIT copy that is no newer.
(DEDUCED: log entry 41) -/
def State.actOn (s : State) (n : Nat) : State :=
  let s1 := if s.newerSeq n then s.setReg SAF_REMOTE (w32 n) else s
  { s1 with saf := { s1.saf with
    pend := s1.saf.pend.filter (fun q => pduSeq q != n && (pduCode q != 0xA55A || s1.newerSeq (pduSeq q))) } }

/-- A matched pair (R294, R295): sixteen in a row end the degraded state. -/
def State.matchedPair (s : State) (p : SafetyPdu) : State :=
  let n := s.saf.pairRun + 1
  let s1 : State := { s with saf := { s.saf with pairRun := n, cond := nput s.saf.cond 11 11 0 } }
  let s2 := (s1.actOn (pduSeq p)).holdCause 0x060A 31 false
  let s3 := if 16 ≤ n ∧ s2.bit SAF_STATUS 5 then s2.setDegraded false else s2
  if pduCode p = 0xA55A then
    let s4 := s3.permit
    if nbit (blkAt p.bytes 16 1) 0 && s4.manual then s4.safAck else s4
  else s3.safEval

/-- The first valid copy of a PSEQ waits for the other (R294); STOP and TRIP demand at once. (DEDUCED: log entry 41) -/
def State.firstCopy (s : State) (p : SafetyPdu) : State :=
  let s1 := if pduCode p = 0xA55A then s else (s.actOn (pduSeq p)).safCond (if pduCode p = 0x0FF0 then 9 else 8) true
  { s1 with saf := { s1.saf with pend := s1.saf.pend ++ [p] } }

/-- Two copies of one PSEQ that differ (R294). -/
def State.copiesDiffer (s : State) (p : SafetyPdu) : State :=
  let s1 : State := { s with saf := { s.saf with pairRun := 0 } }
  ((s1.actOn (pduSeq p)).holdCause 0x060A 31 true).safCond 11 true

/-- The other copy of a single-copy permit is discarded as late (R294). -/
def State.lateCopy (s : State) (n : Nat) : State :=
  ({ s with saf := { s.saf with singles := s.saf.singles.erase n } } : State).count SAF_CNT0 15 0 1

/-- SAFETY_PDU_RECEIVE (R294; R421 without a valid block). A copy that repeats its PSEQ on the same LAN is no second copy, and not
valid. (DEDUCED: log entry 41) -/
def execSafetyPduReceive (p : SafetyPdu) (s : State) : Res :=
  let n := pduSeq p
  (if s.saf.valid && !s.remote then s
  else if !s.saf.valid || !s.pduSound p then s.pduInvalid
  else
    match s.saf.pend.find? (fun q => pduSeq q == n) with
    | some q =>
      if q.lanB = p.lanB then s.pduInvalid
      else if q.bytes.take 28 = p.bytes.take 28 then s.matchedPair p
      else s.copiesDiffer p
    | none =>
      if s.newerSeq n then s.firstCopy p
      else if s.saf.singles.contains n then s.lateCopy n
      else s.pduInvalid).done

/-- SAFETY_WIN_EXPIRE (R294, R295), of the copy that has waited longest: one PERMIT copy is a single-copy permit. -/
def execSafetyWinExpire (s : State) : Res :=
  (match s.saf.pend with
   | [] => s
   | p :: ps =>
     let s1 : State := { s with saf := { s.saf with pend := ps, pairRun := 0 } }
     if pduCode p ≠ 0xA55A then s1
     else
       let s0 := s1.actOn (pduSeq p)
       let s2 : State := { s0 with saf := { s0.saf with singles := pduSeq p :: s0.saf.singles } }
       if blkAt s.saf.block 0x28 4 = 0 ∨ s2.saf.degOver then s2
       else (if s2.bit SAF_STATUS 5 then s2 else s2.setDegraded true).permit).done

/-- REMOTE_WATCHDOG_EXPIRE (R296). -/
def execRemoteWatchdogExpire (s : State) : Res :=
  (if s.remote then (s.holdCause 0x060B 31 true).safCond 10 true else s).done

/-- DEGRADED_EXPIRE (R295). -/
def execDegradedExpire (s : State) : Res :=
  (if s.bit SAF_STATUS 5 && !s.saf.degOver then
    ({ s with saf := { s.saf with degOver := true } } : State).raise 0x060D 31
  else s).done

/-! ## The seal bank (R298, R299) -/

/-- The code on S1 changes, journaled as the local switch's (R298, R302, R315). (DEDUCED: log entry 15) -/
def State.readCode (s : State) (code : Nat) : State :=
  let old := s.reg SAF_SEAL
  let s1 := (s.setFld SAF_SEAL 15 0 code).setBit SAF_SEAL 18 (s.saf.valid && setCode s.saf.block == code)
  if s.s1Code = code then s1 else (s1.jAppend 0x7000 0x01 false SAF_SEAL old (s1.reg SAF_SEAL) true).jStamp 0x7000

/-- Safety Edit as it is taken (R298): `a` closes for ON, `b` for OFF. Poles that disagree at two readings in a row are ON.
(DEDUCED: log entry 40) -/
def State.editOn (s : State) (a b : Bool) : Bool :=
  if a != b then a else s.bit SAF_SEAL 16 || s.bit SAF_SEAL 17

/-- Safety Edit turns OFF (R299): a replacement that has been written is read back, checked and applied.
(DEDUCED: log entry 40) -/
def State.editOff (s : State) : State :=
  if s.saf.editWait then ({ s with saf := { s.saf with editWait := false } } : State).loadBlock s.saf.card else s

/-- SEAL_BANK_READ (R298, R299). (DEDUCED: log entry 40) -/
def execSealBankRead (code : BitVec 16) (poleA : Bool) (poleB : Bool) (s : State) : Res :=
  let was := s.bit SAF_SEAL 16
  let on := s.editOn poleA poleB
  let s1 := ((s.readCode code.toNat).setBit SAF_SEAL 17 (poleA == poleB)).setBit SAF_SEAL 16 on
  let s2 := s1.holdCause 0x0602 31 on
  let s3 := if was && !on then s2.editOff else s2
  let edit := on || (nbit s3.saf.cond 13 && !s3.saf.valid)
  let broken := s3.saf.valid && setCode s3.saf.block != code.toNat
  ((((s3.safCond 13 edit).holdCause 0x0601 31 broken).safCond 12 broken)).done

end Sys2Proof.Machine
end

