-- ==== Sys2Proof/Machine/FltJnl.lean ====
section
/-! DEFINITION. The fault collector's commands (R303 to R313), memory errors (R310, R311), and the journal's copier (R318 to
R321). -/

namespace Sys2Proof.Machine

/-! ## Raises -/

/-- FAULT_RAISE (R303 to R307): a code that the tables do not list is not raised (R15). -/
def execFaultRaise (code : BitVec 16) (unit_ : Fin 32) (stamp : Time) (persists : Bool) (cap : Option Capture) (s : State) : Res :=
  (if classOf code.toNat = 0 then s else s.raiseCore code.toNat unit_ unit_ stamp.toNat persists cap).done

/-- FAULT_CAUSE_END (R304). -/
def execFaultCauseEnd (code : BitVec 16) (s : State) : Res := (s.endCauseAll code.toNat).done

/-- A refused acknowledgement or clear is counted, and nothing else (R308). -/
def State.fltRefused (s : State) : State := (s.count FLT_CNT 15 0 1).ended 3

/-- Firmware or a session of at least role `r` makes the access. (DEDUCED: log entry 42) -/
def mayBy (fw : Bool) (r : Nat) : Master → Bool
  | .crown _ => fw
  | .host _ q _ => decide (r ≤ q.val)
  | _ => false

/-- Record `n` is acknowledged: entered as FAULT with the writer's origin, and freed where R307 allows it. -/
def State.ackRecord (s : State) (origin n : Nat) : State :=
  if s.recAcked n then s else
  let old := s.reg (FLT_REC_STAT n)
  (((s.setBit (FLT_REC_STAT n) 30 true).jFault origin (fld old 15 0) n old).tryFree n).fltRefresh

/-- FLT_ACK (R307): by firmware, or a session of the Operator role or higher. -/
def execFltAck (m : Master) (n : Fin 64) (s : State) : Res :=
  (if mayBy true 1 m && s.recUsed n then
    (s.strobeJ m FLT_ACK (w32 n)).ackRecord (s.originOf m) n
  else s.fltRefused).done

/-- RUN leaves stopped at the end of boot, or at the clear of the last Bough or Trunk record after it (R424). -/
def State.runReady (s : State) : State :=
  if s.booted && s.run == 0 && !s.flt.order.any (fun r => 4 ≤ s.recClass r) then s.setRun 1 else s

/-- FLT_CLEAR (R308): of a Bough record that is acknowledged and has no active cause, by a session of the Engineer role. -/
def execFltClear (m : Master) (n : Fin 64) (s : State) : Res :=
  (if mayBy false 2 m && s.recUsed n && s.recClass n == 4 && s.recAcked n && (s.reg (FLT_REC_ACTIVE n)).toNat == 0 then
    ((((s.strobeJ m FLT_CLEAR (w32 n)).freeRecord (s.originOf m) n).fltRefresh).safEval).runReady
  else s.fltRefused).done

/-! ## Memory errors -/

/-- Bytes of each partition, in the order of R37. -/
def partBytes : List Nat :=
  [0x400000, 0x80000, 0x40000, 0x100000, 0x80000, 0x40000, 0x80000, 0x40000, 0x20000, 0x40000, 0x10000, 0x50000]

/-- The Crown address of byte `b` of partition `p`; partitions that no window shows lie above the address space.
(DESIGN CHOICE: log entry 10) -/
def partAddr (p b : Nat) : Nat :=
  match p with
  | 0 => 0x10000000 + b
  | 1 =>
    let o := b % 0x10000
    hdlBase (b / 0x10000) + (if o < 0x4000 then o else if o < 0xC000 then 0x10000 + (o - 0x4000) else 0x20000 + (o - 0xC000))
  | 2 => 0x24100000 + b
  | 3 => 0x26100000 + b
  | 4 => bufBase 0 + b
  | 5 => 0x42010000 + b
  | 8 => bufBase 1 + b
  | 9 => bufBase 2 + b
  | 10 => if b < 0x8000 then 0x34000000 + b else 0x34010000 + (b - 0x8000)
  | _ => (p + 1) * 2 ^ 32 + b

/-- A word is poisoned (R310). -/
def State.poisonAt (s : State) (a : Nat) : State := { s with poison := Sparse.set (fun _ => false) s.poison a true }

/-- FLT_INJ outside factory test mode is an undefined offset (R10, R312): the mode needs a session that holds the Factory
role, and firmware is not subject to roles (R422). (DEDUCED: log entry 43) -/
def State.injAllowed (s : State) : Master → Bool
  | .host _ r _ => s.factoryMode && r.val == 4
  | .crown _ => s.factoryMode && s.eth.sessions.any (fun p => p.2.any (fun x => x.role == 4))
  | _ => false

/-- FLT_INJ (R312, R322): raises a listed code with unit 31, or poisons a word; journaled. (DEDUCED: log entry 43) -/
def execFltInj (m : Master) (v : Word) (s : State) : Res :=
  (if !s.injAllowed m then s.busErr FLT_INJ m 1 2
  else
    let part := fld v 31 28
    let b := fld v 27 16 * 1024
    let s1 := s.strobeJ m FLT_INJ v
    if part = 0 then (if classOf (fld v 15 0) = 0 then s1 else s1.raise (fld v 15 0) 31)
    else if b < nth partBytes (part - 1) 0 then s1.poisonAt (partAddr (part - 1) b)
    else s1).done

/-- ECC_UNCORRECTABLE (R310, R311): the word is poisoned, and the master that found it raises what R313 says; a fabric read of it
ends in a bus error. (DEDUCED: log entry 43) -/
def execEccUncorrectable (addr : Word) (finder : EccFinder) (s : State) : Res :=
  let a := addr.toNat / 4 * 4
  let f := finder.master.toNat
  let s1 := (s.poisonAt a).eccFound a f finder.access finder.width
  (if f = 0 ∨ f = 1 ∨ f = 0x30 then s1.busErrBy f addr.toNat finder.access finder.width else s1).done

/-- ECC_RELOAD_DONE (R311): a clean word is what the seed image loaded, so the reload gives it back as it stands; 0x0D02. A word that
has been written since has no need of it, and without the card the error stays (R427). (DEDUCED: log entry 43) -/
def execEccReloadDone (addr : Word) (s : State) : Res :=
  let a := addr.toNat / 4 * 4
  (match s.flt.reloads.find? (fun (c : Capture) => c.addr.toNat == a) with
   | none => s
   | some cap =>
     let s1 := s.withFlt { s.flt with reloads := s.flt.reloads.filter (fun (c : Capture) => c.addr.toNat != a) }
     if !s1.poisoned a || s1.isDirty a then s1
     else if !s1.seed.cardOk then s1.eccHold 0x0D05 a cap
     else
       let e := (a - 0x20000000) / 0x40000
       (s1.rewritten a).raiseCore 0x0D02 e e (s1.now 0) false (some cap)).done

/-- The single-bit errors corrected in an engine's memories (R125, R152). -/
def State.eccCorrected (s : State) (e n : Nat) : State :=
  if n = 0 then s else (s.count (HDL_ECC_CNT e) 15 0 n).orReg (HDL_EVENTS e) 8

/-- A word lies in the SRAM that the scrubber passes over (R34, R37): the states are register arrays. -/
def scrubbed (a : Nat) : Bool :=
  !(decide (0x20000000 ≤ a) && decide (a < 0x20200000) && decide (0x28000 ≤ a % 0x40000))

/-- SCRUB_PASS (R34, R313): every poisoned word is found; more than 64 corrected errors raise 0x0D01; the pass ends the cause of
0x0D0B. What has been corrected in the memories of each engine since the last pass, inline or by the scrubber, is counted there.
(DEDUCED: log entry 43) -/
def execScrubPass (x : ScrubCounts) (s : State) : Res :=
  let s1 := forEach (fun s e => s.eccCorrected e (nth x.heddle e 0)) (upTo 0 8) (s.holdCause 0x0D0B 31 false)
  let s2 := forEach (fun s p => s.eccFound p.1 0x40 0 2) (s.poison.filter (fun p => scrubbed p.1)) s1
  (if 64 < x.corrected then s2.raise 0x0D01 31 else s2).done

/-- SCRUB_PASS_OVERDUE (R313). -/
def execScrubPassOverdue (s : State) : Res := (s.holdCause 0x0D0B 31 true).done

/-- BUS_ERROR (R7): with first error capture, by any master of R309. -/
def execBusError (master : Byte) (addr : Word) (access width : BitVec 2) (s : State) : Res :=
  (s.busErrBy master.toNat addr.toNat access width).done

/-- CROWN_LOCKSTEP_MISMATCH (R313). -/
def execCrownLockstepMismatch (core : Fin 2) (s : State) : Res := (s.raise 0x0D08 core).done

/-- FABRIC_HANDSHAKE_TIMEOUT (R313). -/
def execFabricHandshakeTimeout (s : State) : Res := (s.raise 0x0D0A 31).done

/-! ## Journal -/

/-- JOURNAL_ENTRY (R315, R316): an entry of the safety cores carries CONT and is followed by its STAMP entry. -/
def execJournalEntry (origin : BitVec 16) (type : Byte) (refused : Bool) (target old new : Word) (s : State) : Res :=
  let safe := origin.toNat / 4096 == 3
  let s1 := s.jAppend origin.toNat type.toNat refused target.toNat old new safe
  (if safe then s1.jStamp origin.toNat else s1).done

/-- Block `i` of the card's journal region. -/
def State.jblk (s : State) (i : Nat) : JBlock := Sparse.get (fun _ => JBlock.fresh) s.jnl.blocks i

/-- The state with a block replaced. -/
def State.setJblk (s : State) (i : Nat) (b : JBlock) : State :=
  { s with jnl := { s.jnl with blocks := Sparse.set (fun _ => JBlock.fresh) s.jnl.blocks i b } }

/-- The usable blocks. -/
def State.jUsable (s : State) : List Nat := (upTo 0 s.jnl.nblocks).filter (fun i => !(s.jblk i).bad)

/-- The usable blocks that are erased and ahead of the writer. -/
def State.jErased (s : State) : List Nat := s.jUsable.filter (fun i => (s.jblk i).erased)

/-- JNL_STATUS and JNL_WEAR show the region. -/
def State.jShow (s : State) : State :=
  let s1 := (s.setFld JNL_STATUS 31 16 s.jUsable.length).setFld JNL_STATUS 15 8 (min 255 s.jErased.length)
  s1.setReg JNL_WEAR (w32 ((upTo 0 s.jnl.nblocks).foldl (fun a i => max a (s.jblk i).erases) 0))

/-- Fault 0x0B05 (R320): the copier stops until a retry. -/
def State.jFail (s : State) : State := ((s.setBit JNL_STATUS 0 false).orReg JNL_EVENTS 2).holdCause 0x0B05 31 true

/-- Fault 0x0B06 (R320). -/
def State.jWear (s : State) : State := (s.orReg JNL_EVENTS 4).raise 0x0B06 31

/-- A block is marked bad (R320): an eighth of them raises 0x0B06, fewer than two usable beyond the writer's 0x0B05.
(DEDUCED: log entry 44) -/
def State.jBad (s : State) (i : Nat) : State :=
  let before := s.jnl.nblocks - s.jUsable.length
  let s1 := (s.setJblk i { s.jblk i with bad := true }).jShow
  let after := s1.jnl.nblocks - s1.jUsable.length
  let s2 := if 8 * before < s1.jnl.nblocks ∧ s1.jnl.nblocks ≤ 8 * after then s1.jWear else s1
  if (s2.jUsable.filter (fun j => j != s2.jnl.cur)).length < 2 then s2.jFail else s2

/-- Entries that an erase block holds (R319): 255 pages of seven. -/
def blockCap : Nat := 1785

/-- The header mark of a block (R319). -/
def jMagic : Word := 0x4C4E4A46

/-- The writer goes on in an erased block, which holds `es` first (R319, R320). -/
def State.jNext (s : State) (es : List JSlot) : State :=
  match s.jErased with
  | [] => s
  | i :: _ =>
    let seq := (s.jblk s.jnl.cur).seq + 1
    let s1 := s.setJblk i { s.jblk i with magic := jMagic, seq := seq, erased := false, entries := es }
    ({ s1 with jnl := { s1.jnl with cur := i } } : State).jShow

/-- A LOSS entry (R315, R318): the SEQ of the first lost entry, and how many. (DEDUCED: log entry 44) -/
def State.lossEntry (s : State) (first n : Nat) : JEntry :=
  { t0 := BitVec.ofNat 64 (s.now 0), t2 := BitVec.ofNat 48 (s.now 2 / 2 ^ 16), epoch := BitVec.ofNat 16 (s.fld JNL_EPOCH 15 0),
    origin := BitVec.ofNat 16 (originBlk 0x0B 15), type := 7, flags := s.jFlags false false, target := 0, old := w32 first
    new := w32 n }

/-- Entries not yet copied. -/
def State.jPending (s : State) : Nat := (s.reg JNL_HEAD).toNat - (s.reg JNL_COPIED).toNat

/-- The words of a journal entry (R315). -/
def jWords (e : JEntry) : List Word :=
  [lo32 e.t0.toNat, hi32 e.t0.toNat, lo32 e.t2.toNat, w32 (e.t2.toNat / 2 ^ 32 + e.epoch.toNat * 2 ^ 16),
   w32 (e.origin.toNat + e.type.toNat * 2 ^ 16 + e.flags.toNat * 2 ^ 24), e.target, e.old, e.new]

/-- The CRC of an entry slot (R319). -/
def jCrc (e : JEntry) : Word := w32 (crc32c ((jWords e).flatMap (fun w => natLe 4 w.toNat)))

/-- An entry as it is programmed on the card. -/
def slotOf (e : JEntry) : JSlot := { entry := e, crc := jCrc e }

/-- A slot counts only when its CRC is correct (R319). -/
def slotValid (x : JSlot) : Bool := x.crc == jCrc x.entry

/-- The slots that the copier programmes next: a LOSS entry first where one is due, then entries in SEQ order; and how many
entries that copies. -/
def State.jSlots (s : State) (room : Nat) : List JEntry × Nat :=
  let head := match s.jnl.lost with
    | some (f, n) => [s.lossEntry f n]
    | none => []
  let n := min (room - head.length) s.jPending
  (head ++ (upTo (s.reg JNL_COPIED).toNat n).map s.ringEntry, n)

/-- Slots are programmed into the block of the writer. -/
def State.jWrite (s : State) (es : List JSlot) : State :=
  let b := s.jblk s.jnl.cur
  s.setJblk s.jnl.cur { b with magic := jMagic, entries := b.entries ++ es, erased := false }

/-- The slots due are programmed. -/
def State.jProgram (s : State) : State :=
  let room := min 7 (blockCap - (s.jblk s.jnl.cur).entries.length)
  let (es, n) := s.jSlots room
  let s0 := if s.jnl.lost.isSome then s.xstamp else s
  let s1 := s0.jWrite (es.map slotOf)
  let s2 := s1.setReg JNL_COPIED (w32 ((s.reg JNL_COPIED).toNat + n))
  ({ s2 with jnl := { s2.jnl with lost := none } } : State).setBit JNL_STATUS 1 (decide (4096 < s2.jPending))

/-- The copier runs: a card, and no fault 0x0B05. -/
def State.jRuns (s : State) : Bool := s.jnl.started && s.bit JNL_STATUS 0

/-- A full or bad block is left for the next erased one, which takes over a bad block's entries (R320). -/
def State.jTurn (s : State) : State :=
  let b := s.jblk s.jnl.cur
  if b.bad then s.jNext b.entries else if blockCap ≤ b.entries.length then s.jNext [] else s

/-- The block of the writer can take a slot. -/
def State.jRoom (s : State) : Bool :=
  let c := s.jblk s.jnl.cur
  !c.bad && decide (c.entries.length < blockCap)

/-- JOURNAL_COPY (R318 to R320): up to one page of entries; a full block, or one that fails to programme (`some false`), is left for the
next erased one, which takes over a bad block's entries; a card that does not respond (`none`) raises 0x0B05.
(DEDUCED: log entry 44) -/
def execJournalCopy (ok : Option Bool) (s : State) : Res :=
  (if !s.jRuns || (s.jPending == 0 && s.jnl.lost.isNone) then s
  else match ok with
    | none => s.jFail
    | some true =>
      let s1 := s.jTurn
      if s1.jRoom then s1.jProgram else s1
    | some false =>
      let es := (s.jblk s.jnl.cur).entries
      (s.jBad s.jnl.cur).jNext es).done

/-- The oldest usable block that is not erased and not the writer's. -/
def State.jOldest (s : State) : Option Nat :=
  (s.jUsable.filter (fun i => !(s.jblk i).erased && i != s.jnl.cur)).foldl (fun (best : Option Nat) i =>
    match best with
    | some j => if (s.jblk i).seq < (s.jblk j).seq then some i else best
    | none => some i) none

/-- JOURNAL_ERASE_DONE (R320): of the oldest usable block, while fewer than two are erased; waiting entries and a flush suspend it
(R321). The entries of a block that fails to erase (`some false`) are programmed again in the next block; a card that does not respond
(`none`) raises 0x0B05. (DEDUCED: log entry 44) -/
def execJournalEraseDone (ok : Option Bool) (s : State) : Res :=
  (if !s.jRuns || s.jnl.flushing || s.jPending != 0 || decide (2 ≤ s.jErased.length) then s else
   match s.jOldest, ok with
   | none, _ => s
   | some _, none => s.jFail
   | some i, some true =>
     let b := s.jblk i
     let s1 := (s.setJblk i { b with magic := jMagic, erased := true, erases := b.erases + 1, entries := [] }).jShow
     if b.erases + 1 = 90000 then s1.jWear else s1
   | some i, some false =>
     let es := (s.jblk i).entries
     let s1 := s.jBad i
     if es.isEmpty then s1 else s1.jNext es).done

/-- JOURNAL_RETRY (R320). -/
def execJournalRetry (responds : Bool) (s : State) : Res :=
  (if s.jnl.started && !s.bit JNL_STATUS 0 && responds
      && decide (2 ≤ (s.jUsable.filter (fun j => j != s.jnl.cur)).length) then
    (s.setBit JNL_STATUS 0 true).holdCause 0x0B05 31 false
  else s).done

/-- JOURNAL_FLUSH_END (R321): the entries that remain are lost, and a LOSS entry in the next slot of the card covers them.
(DEDUCED: log entry 44) -/
def execJournalFlushEnd (s : State) : Res :=
  (if !s.jnl.flushing then s else
   let n := s.jPending
   let s0 : State := { s with jnl := { s.jnl with flushing := false } }
   if n = 0 then s0 else
   let e := s0.lossEntry (s0.reg JNL_COPIED).toNat n
   let s1 := if s0.jRuns then
       let x := s0.jTurn
       if x.jRoom then x.xstamp.jWrite [slotOf e] else x
     else s0
   ((s1.count JNL_LOST 31 0 n).setReg JNL_COPIED (s0.reg JNL_HEAD)).setBit JNL_STATUS 1 false).done

/-- JNL_NOTE (R323): a NOTE entry of origin kind 1. (DEDUCED: log entry 15) -/
def execJnlNote (m : Master) (v : Word) (s : State) : Res :=
  let origin := match m with
    | .crown c => 0x1000 + c.val
    | _ => 0x1000
  (s.journal origin 0x08 false (s.reg JNL_NOTE_TGT).toNat (s.reg JNL_NOTE_OLD) v).done

end Sys2Proof.Machine
end

