-- ==== Sys2Proof/Machine/EthOps.lean ====
section
/-! DEFINITION. What the start-up, the seed update and the management handler share: sessions (R386, R387), the network's stages
(R380), the abort of a seed update (R426). -/

namespace Sys2Proof.Machine

/-! ## Seed update -/

/-- STATE of SED_UPDATE (R428): 0 idle, 1 receiving, 2 verifying, 3 committed, 4 failed. -/
def State.updState (s : State) : Nat := s.fld SED_UPDATE 31 28

/-- The state with STATE changed, journaled with an origin (R426). -/
def State.setUpd (s : State) (origin v : Nat) : State :=
  let old := s.reg SED_UPDATE
  let new := putFld old 31 28 v
  (s.setReg SED_UPDATE new).jAppend origin 0x01 false SED_UPDATE old new false

/-- The origin of the seed block. -/
def originSeed : Nat := originBlk 0x0B 15

/-- An update in progress is abandoned: PENDING is unchanged and 0x0B08 is raised (R426). (DEDUCED: log entry 54) -/
def State.updateAbort (s : State) : State :=
  if s.updState = 1 ∨ s.updState = 2 then
    let s1 := s.setUpd originSeed 0
    ({ s1 with seed := { s1.seed with update := none, commit := none } } : State).raise 0x0B08 31
  else s

/-! ## Sessions -/

/-- Session `n`, where it is open. -/
def State.sess (s : State) (n : Nat) : Option Session := Sparse.get (fun _ => (none : Option Session)) s.eth.sessions n

/-- The open sessions with their numbers. -/
def State.openSess (s : State) : List (Nat × Session) :=
  s.eth.sessions.filterMap (fun p => p.2.map (fun x => (p.1, x)))

/-- ETH_SESS shows the open sessions (R394). -/
def State.showSess (s : State) : State :=
  let l := s.openSess
  s.setReg ETH_SESS (w32 (b2n (l.any (fun p => p.2.role == 4)) * 512 + b2n (l.any (fun p => p.2.role == 3)) * 256 + l.length))

/-- The state with a session opened, changed or closed. -/
def State.setSess (s : State) (n : Nat) (x : Option Session) : State :=
  ({ s with eth := { s.eth with sessions := Sparse.set (fun _ => (none : Option Session)) s.eth.sessions n x } } : State).showSess

/-- The origin identity of a session (R315). -/
def sessIdent (n : Nat) (x : Session) : Nat := x.port * 1024 + x.role * 128 + n

/-- A session closes: entered as SESSION (R315, R386); an update that it runs is abandoned (R426). -/
def State.closeSess (s : State) (n : Nat) : State :=
  match s.sess n with
  | none => s
  | some x =>
    let s1 := (s.setSess n none).jAppend (0x2000 + sessIdent n x) 0x05 false (sessIdent n x) (w32 x.role) 7 false
    match s1.seed.update with
    | some u => if u.session = n then s1.updateAbort else s1
    | none => s1

/-- Every session closes (R380). -/
def State.closeAll (s : State) : State := forEach (fun s p => s.closeSess p.1) s.openSess s

/-! ## Stages -/

/-- STAGE of the network (R380). (DEDUCED: log entry 47) -/
def State.stage (s : State) : Nat := s.fld ETH_STATUS 9 8

/-- The relay of a pair is commanded closed (R372). -/
def State.relayShut (s : State) (pair : Nat) : Bool := s.stage == 0 || s.bit ETH_CTRL (4 + pair)

/-- Line port `p` can send: enabled, with link, its relay open. -/
def State.portUp (s : State) (p : Nat) : Bool :=
  s.bit ETH_CTRL p && s.bit (ETH_PORT_STATUS p) 0 && !s.relayShut (p / 2)

/-- The TB0 second of now. (DEDUCED: log entry 47) -/
def State.second (s : State) : Nat := s.now 0 / ns 1000000000

/-- A fault that is raised at most once per second per unit (R393). (DEDUCED: log entry 47) -/
def State.raiseSec (s : State) (code unit : Nat) : State :=
  let key := code * 8 + unit
  if Sparse.get (fun _ => (none : Option Nat)) s.eth.lastSec key = some s.second then s
  else
    let s1 : State := { s with eth := { s.eth with
      lastSec := Sparse.set (fun _ => (none : Option Nat)) s.eth.lastSec key (some s.second) } }
    let ev := if code = 0x0903 then 4 else if code = 0x0906 then 0x20 else 0x40
    (s1.orReg ETH_EVENTS ev).raise code unit

/-! ## Egress queues and buffers (R374) -/

/-- Egress port `p`. -/
def State.ethPort (s : State) (p : Nat) : EthPort := Sparse.get (fun _ => EthPort.reset) s.eth.ports p

/-- The state with an egress port replaced. -/
def State.setEthPort (s : State) (p : Nat) (x : EthPort) : State :=
  { s with eth := { s.eth with ports := Sparse.set (fun _ => EthPort.reset) s.eth.ports p x } }

/-- The shares of the Ethernet partition: 0 and 1 transit of LAN A and B, 2 local receive, 3 local transmit, 4 PTP and transparent
clock, 5 safety datagrams. The reply cache holds a reply of every session. -/
def ethShares : List Nat := [65536, 65536, 57344, 32768, 8192, 8192]

/-- The bytes of a port's frames in a share, the one on the wire included. -/
def EthPort.held (x : EthPort) (k : Nat) : Nat :=
  ((x.cur.toList ++ x.queue).filter (fun i => i.share == k)).foldl (fun a i => a + i.len) 0

/-- The bytes in use of a share. -/
def State.shareUsed (s : State) (k : Nat) : Nat :=
  (upTo 0 4).foldl (fun a p => a + (s.ethPort p).held k) (if k = 2 then s.eth.rxLocal else if k = 5 then s.eth.rxSafe else 0)

/-- A frame fits its share. -/
def State.shareFits (s : State) (k len : Nat) : Bool := decide (s.shareUsed k + len ≤ nth ethShares k 0)

/-- A frame that does not fit is discarded: counted at port `p`, with fault 0x0906. -/
def State.bufferDrop (s : State) (p unit : Nat) : State := (s.count (ETH_PORT_DROP p) 15 0 1).raiseSec 0x0906 unit

/-- The frame that leaves next: the first of the highest class. -/
def nextItem (q : List EthItem) : Option EthItem :=
  q.foldl (fun best i => match best with
    | none => some i
    | some b => if b.cls < i.cls then some i else some b) none

/-- The time of a frame on the wire with its preamble and gap, in ns. (DESIGN CHOICE: log entry 49) -/
def wireTime (gig : Bool) (len : Nat) : Nat := (len + 20) * (if gig then 8 else 80)

/-- A port that sends nothing starts its next frame. -/
def State.portStart (s : State) (p : Nat) : State :=
  let x := s.ethPort p
  if x.cur.isSome || !s.portUp p then s else
  match nextItem x.queue with
  | none => s
  | some i =>
    ((s.setEthPort p { queue := x.queue.erase i, cur := some i, left := wireTime (s.bit (ETH_PORT_STATUS p) 1) i.len }).emit i.out).count
      (ETH_PORT_TX p) 31 0 1

/-- The ports of a datagram, source and destination, include one. -/
def onPort (f : EthFrame) (n : Nat) : Bool :=
  f.ethertype == 0x0800 && f.proto == 17 && (f.udpSrc.toNat == n || f.udpPort.toNat == n)

/-- The class of a forwarded frame. -/
def State.frameClass (s : State) (f : EthFrame) : Nat :=
  let pcp := if f.vid.isSome then f.pcp else 0
  if f.ethertype = 0x88F7 then 3
  else if 6 ≤ pcp ∨ (s.saf.valid ∧ onPort f (blkAt s.saf.block 0x20 2)) then 2
  else if 4 ≤ pcp ∨ onPort f (s.fld ETH_MGMT_CFG 15 0) then 1
  else 0

/-- The class of what leaves a line port. -/
def State.outClass (s : State) (o : Output) : Nat :=
  match o with
  | .ethForward _ f => s.frameClass f
  | .ptpSend .. => 3
  | .mgmtBusy .. | .mgmtOpened .. | .mgmtReply .. | .notify .. => 1
  | _ => 0

/-- The bytes of what leaves a line port, the FCS and the trailer of an own frame included. (DESIGN CHOICE: log entry 49) -/
def outBytes (o : Output) : Nat :=
  let own := fun (n : Nat) => max 64 (n + 24)
  match o with
  | .ethForward _ f => f.len
  | .ptpSend _ type _ => max 64 (18 + (if type = 2 ∨ type = 3 then 54 else if type = 0xB then 64 else 44))
  | .icmpReply _ data _ => own (28 + data.length)
  | .mgmtBusy .. => own (28 + 48 + 4)
  | .mgmtOpened .. => own (28 + 48 + 24)
  | .mgmtReply _ _ r => own (28 + 48 + 4 + 4 * r.data.length)
  | .notify .. => own (28 + 48 + 20)
  | _ => 64

/-- A frame for line port `p`, where it can send: queued in its class and share, and sent when its turn comes (R374). One that does not
fit is counted at its ingress port `src`. (DESIGN CHOICE: log entry 49) -/
def State.portSend (s : State) (p src share : Nat) (o : Output) : State :=
  let i : EthItem := { cls := s.outClass o, len := outBytes o, share := share, out := o }
  if !s.portUp p then s
  else if !s.shareFits share i.len then s.bufferDrop src src
  else (s.setEthPort p { s.ethPort p with queue := (s.ethPort p).queue ++ [i] }).portStart p

/-- A frame of the PRP node goes out on every line port with one sequence number (R373, R377). -/
def State.prpSend (s : State) (o : Nat → Nat → Output) : State :=
  let n := s.eth.prpSeq
  let s1 := forEach (fun s p => s.portSend p p 3 (o p n)) (upTo 0 4) s
  { s1 with eth := { s1.eth with prpSeq := (n + 1) % 65536 } }

/-- One clock of 2 ns of an egress port: a frame that has gone out gives way to the next; a port that cannot send holds nothing.
(DESIGN CHOICE: log entry 49) -/
def State.portClock (s : State) (p : Nat) : State :=
  let x := s.ethPort p
  if x = EthPort.reset then s
  else if !s.portUp p then s.setEthPort p EthPort.reset
  else if 2 < x.left then s.setEthPort p { x with left := x.left - 2 }
  else (s.setEthPort p { x with cur := none, left := 0 }).portStart p

/-- One clock of the Ethernet island's queues: the local handlers and the safety islands take what waits for them.
(DESIGN CHOICE: log entries 2 and 49) -/
def State.ethClock (s : State) : State :=
  forEach State.portClock (upTo 0 4) { s with eth := { s.eth with rxLocal := 0, rxSafe := 0 } }

/-- The stage rises as far as what it needs has happened (R380): the local handlers are started, the role keys are in force.
Stage 2 begins with a gratuitous ARP (R379). -/
def State.stageUp (s : State) : State :=
  let want := if s.seed.firmware then (if s.booted && s.bit SED_STATUS 4 then 3 else 2) else 1
  if s.stage = 0 ∨ want ≤ s.stage then s
  else
    let s1 := s.setFld ETH_STATUS 9 8 want
    if s.stage = 1 then s1.prpSend (fun p n => .arp p none n) else s1

/-- The peer delay of a port. -/
def State.pdelay (s : State) (p : Nat) : PeerDelay := Sparse.get (fun _ => PeerDelay.reset) s.eth.delays p

/-- The state with a port's peer delay replaced. -/
def State.setPdelay (s : State) (p : Nat) (d : PeerDelay) : State :=
  { s with eth := { s.eth with delays := Sparse.set (fun _ => PeerDelay.reset) s.eth.delays p d } }

/-- The link delay of port `p` is no longer valid (R384): it takes 8 new measurements. -/
def State.ldlyLost (s : State) (p : Nat) : State :=
  (s.setPdelay p { s.pdelay p with meas := [], discard := 0 }).setBit (ETH_PORT_STATUS p) 2 false

/-- Link of port `p` is lost (R375, R384, R395): a link fault only on an enabled port whose relay is open. -/
def State.linkLost (s : State) (p : Nat) : State :=
  let s1 := ((s.ldlyLost p).setBit (ETH_PORT_STATUS p) 0 false).setBit ETH_STATUS (4 + p) false
  if s1.bit ETH_CTRL p && !s1.relayShut (p / 2) then
    ((s1.orReg ETH_EVENTS 1).holdCause 0x0901 p true).level (188 + p) true
  else s1

/-- The island is back in stage 0 (R380): relays commanded closed, sessions closed, PTP and peer delays forgotten. -/
def State.islandDown (s : State) : State :=
  let s1 := s.closeAll.setFld ETH_STATUS 9 8 0
  let s2 := forEach (fun s p => s.linkLost p) (upTo 0 4) s1
  let s3 : State := { s2 with eth := { s2.eth with
    seen := [], table := [], delays := [], ptp := [], sel := none, ports := [], rxLocal := 0, rxSafe := 0 } }
  s3.setReg ETH_PTP_STATUS (w32 (s3.fld ETH_PTP_STATUS 31 16 * 65536))

end Sys2Proof.Machine
end

