-- ==== Sys2Proof/Machine/Seed.lean ====
section
/-! DEFINITION. The seed card, start-up and the run state (R411 to R428), without the sections' contents and the update's
requests. -/

namespace Sys2Proof.Machine

/-- PHASE of the start-up (R428). -/
def State.phase (s : State) : Nat := s.fld SED_STATUS 18 16

/-- The start-up runs: between its start and the end of boot. -/
def State.booting (s : State) : Bool := decide (1 ≤ s.phase) && decide (s.phase ≤ 3)

/-! ## Unpowered and safe states -/

/-- What of the module outlives its supply: the fuses and the card with its descriptor, safety area and journal region. The nodes
have their own supplies, and what waits or has been sent is not the module's. -/
def State.unpowered (s : State) : State :=
  { State.reset with
    pending := s.pending
    out := s.out
    freeCtr := s.freeCtr
    nodes := s.nodes
    jnl := { JnlUnit.reset with nblocks := s.jnl.nblocks, blocks := s.jnl.blocks, cur := s.jnl.cur }
    saf := { Safety.reset with card := s.saf.card }
    seed := { SeedUnit.reset with active := s.seed.active, pend := s.seed.pend, blown := s.seed.blown } }

/-- Ring `r` is disabled by the boot sequence (R420). -/
def State.ringShut (s : State) (r : Nat) : State :=
  let s1 := s.putFldJ originSeed WRP_CTRL r r 0
  let s2 := ((s1.setRing r (ringStart (s1.ring r) 0)).setReg (WRP_RING_MANDATE r) 0).setReg (WRP_RING_WRAP r) 0
  (s2.ringCausesEnd r).showRing r

/-- PHASE changes, journaled (R314). -/
def State.setPhase (s : State) (v : Nat) : State := s.putFldJ originSeed SED_STATUS 18 16 v

/-- The safe start-up state (R1, R420): rings disabled, relays closed, gate groups off, safe outputs off, CAN recessive, SPB held;
the cause is journaled. -/
def State.safeStart (s : State) (reason : Nat) : State :=
  let s1 := forEach State.ringShut s.ringsEn s
  let s2 := s1.islandDown.putFldJ originSeed GDR_CTRL 3 0 0
  let s3 := (forEach State.gateGroupOff (upTo 0 4) s2).gdrShow
  let s4 := forEach (fun s c => (s.putFldJ originSeed (CAN_CTRL c) 1 0 0).canMode c 0) (upTo 0 2) s3
  let s5 := s4.voterAssert true
  s5.putJ originSeed SED_STATUS (putFld (putFld (s5.reg SED_STATUS) 18 16 7) 31 24 reason)

/-! ## Start -/

/-- The OTP key slots show (R417, R428). -/
def State.showSlots (s : State) : State :=
  forEach (fun s k =>
    let w := Config.keySlot k
    s.setReg (SED_KEYSLOT k) (w32 (b2n (bit w 31) * 2 ^ 31 + b2n (bit w 30 || nbit s.seed.blown.toNat k) * 2 ^ 30 + fld w 15 0)))
    (upTo 0 4) s

/-- Key slot `k` is used and not revoked. -/
def State.slotOk (s : State) (k : Nat) : Bool := s.bit (SED_KEYSLOT k) 31 && !s.bit (SED_KEYSLOT k) 30

/-- An image is refused for its signature or slot (R416). -/
def State.sigBad (s : State) (h : BankHeader) : Bool :=
  !h.pubkeyOk || !h.sigOk || !s.slotOk h.keySlot || nbit h.revoke.toNat h.keySlot
    || !(upTo 0 4).any (fun k => s.slotOk k && !nbit h.revoke.toNat k)

/-- MAGIC and FORMAT are correct, and the section table names each type once (R414, R415). -/
def headOk (h : BankHeader) : Bool :=
  h.magic == 0x47494C56 && h.format == 1 && h.types.length == 10 && (upTo 1 10).all (fun t => h.types.contains (BitVec.ofNat 16 t))

/-- Why an image is invalid, as REASON of SED_STATUS has it (R18, R416, R428), 0 for a valid one. (DEDUCED: log entry 55) -/
def State.imageBad (s : State) (h : BankHeader) : Nat :=
  if !headOk h then 6 else if s.sigBad h then 4 else if !h.hashOk || !h.inside then 5
  else if !ringMapsOk h.tcyc.toNat h.maps then 6 else 0

/-- An image is valid (R416). -/
def State.imageOk (s : State) (h : BankHeader) : Bool := s.imageBad h == 0

/-- The bank of a scan. -/
def bankOf (c : CardScan) (b : Bool) : BankHeader := if b then c.bank1 else c.bank0

/-- The bytes of a descriptor that its CRC covers (R413). -/
def descBytes (d : Descriptor) : List Byte :=
  natLe 4 d.magic.toNat ++ natLe 4 d.seq.toNat ++ [d.active, d.pending] ++ natLe 2 d.blocks.toNat

/-- A valid copy of the descriptor (R413). (DEDUCED: log entry 55) -/
def descOk (d : Descriptor) : Bool :=
  d.magic == 0x53444346 && d.crc.toNat == crc32c (descBytes d) && decide (d.active.toNat ≤ 1)
    && (d.pending == 0xFF || decide (d.pending.toNat ≤ 1)) && decide (16 ≤ d.blocks.toNat) && decide (d.blocks.toNat ≤ 253)

/-- The descriptor that governs (R413): the valid copy with the newer SEQ. -/
def descOf (c : CardScan) : Option Descriptor :=
  match descOk c.desc0, descOk c.desc1 with
  | true, true => some (if 0 < sext 32 ((c.desc1.seq - c.desc0.seq).toNat) then c.desc1 else c.desc0)
  | true, false => some c.desc0
  | false, true => some c.desc1
  | false, false => none

/-- PENDING of a descriptor. -/
def descPend (d : Descriptor) : Option Bool := if d.pending = 0xFF then none else some (d.pending == 1)

/-- The start from bank `b` (R419): its header is in use; SED_STATUS shows it, journaled (R314). -/
def State.startFrom (s : State) (h : BankHeader) (b : Bool) : State :=
  let s1 := (s.setReg SED_IMAGE_VER h.imageVer).putJ originSeed SED_STATUS
    (putFld (putBit (s.reg SED_STATUS) 2 b) 18 16 1)
  let s2 := s1.setBit (SED_KEYSLOT h.keySlot) 29 true
  { s2 with seed := { s2.seed with active := b, header := some h, pend := none } }

/-- The start from bank ACTIVE after a failed PENDING (R420): PENDING is cleared, FALLBACK set and 0x0B08 raised; REASON says why. -/
def State.fallBack (s : State) (b : Bool) (h : BankHeader) (reason : Nat) : State :=
  let s1 := ((s.putJ originSeed SED_STATUS (putFld (putBit (s.reg SED_STATUS) 3 true) 31 24 reason)).orReg SED_EVENTS 1).raise 0x0B08 31
  ({ s1 with seed := { s1.seed with other := none } } : State).startFrom h b

/-- No image is valid (R416, R420). -/
def State.noImage (s : State) (reason : Nat) : State :=
  (s.raise (if reason = 4 then 0x0B02 else 0x0B03) 31).safeStart reason

/-- The start with a governing descriptor (R419, R420): bank PENDING is tried, or ACTIVE where there is none or PENDING is invalid. A
valid PENDING bank becomes ACTIVE. -/
def State.startBank (s : State) (c : CardScan) (d : Descriptor) : State :=
  let act := d.active == 1
  let ha := bankOf c act
  match descPend d with
  | none => if s.imageOk ha then s.startFrom ha act else s.noImage (s.imageBad ha)
  | some p =>
    let hp := bankOf c p
    if s.imageOk hp then
      ({ s with seed := { s.seed with other := if p != act && s.imageOk ha then some ha else none } } : State).startFrom hp p
    else if s.imageOk ha then s.fallBack act ha (s.imageBad hp)
    else s.noImage (s.imageBad ha)

/-- POWER_ON (R411 to R420): the new epoch begins, the card is found and its governing descriptor read, and the start follows. Both
oscillators run from here on. (DEDUCED: log entries 6 and 16 and 55) -/
def execPowerOn (scan : CardScan) (s : State) : Res :=
  if s.phase ≠ 0 then s.done else
  let e := s.jAppend (originBlk 0x0B 15) 0x06 false 0 0 0 false
  let s0 := (e.showSlots.oscRuns 0 true).oscRuns 1 true
  if !scan.present then ((s0.raise 0x0B01 31).safeStart 1).done
  else
    let s1 := (s0.setBit SED_STATUS 1 true).setPair SED_CARD_ID_LO scan.uniqueId.toNat
    if !scan.supported then ((s1.raise 0x0B01 31).safeStart 2).done
    else
      let s2 : State := { s1 with seed := { s1.seed with cardOk := true }
                                  jnl := { s1.jnl with blocks := scan.journal.getD s1.jnl.blocks } }
      match descOf scan with
      | none => ((s2.raise 0x0B03 31).safeStart 3).done
      | some d =>
        (({ s2 with seed := { s2.seed with active := d.active == 1, pend := descPend d, jblocks := d.blocks.toNat } } : State).startBank
          scan d).done

/-- The block that the copier resumes in (R319): the one with the highest sequence; a region that has none starts in its first usable
block. -/
def State.jNewest (s : State) : Nat :=
  let used := s.jUsable.filter (fun i => (s.jblk i).magic == jMagic && !(s.jblk i).erased)
  let best := used.foldl (fun (b : Option Nat) i =>
    match b with
    | some j => if (s.jblk j).seq < (s.jblk i).seq then some i else b
    | none => some i) none
  best.getD (nth s.jUsable 0 0)

/-- The slots of a block up to the last valid one (R319). -/
def resumed (b : JBlock) : List JSlot := (b.entries.reverse.dropWhile (fun x => !slotValid x)).reverse

/-- The newest epoch of a block (R317, R319): that of its last valid slot, 0 where it has none. (DEDUCED: log entry 44) -/
def newestEpoch (b : JBlock) : Nat :=
  match (resumed b).getLast? with
  | some x => x.entry.epoch.toNat
  | none => 0

/-- An entry that was held until the journal region had been read (R317): it has the new epoch, and the EPOCH entry of the reset, the
first, names both. -/
def heldEntry (old new : Nat) (x : JEntry) : JEntry :=
  let y : JEntry := { x with epoch := BitVec.ofNat 16 new }
  if x.type = 6 ∧ x.target = 0 then { y with old := w32 old, new := w32 new } else y

/-- The journal copier starts (R317, R319): it resumes after the last valid slot of the newest block, and the epoch is the one after the
newest of that block. -/
def State.journalStart (s : State) : State :=
  let s0 : State := { s with jnl := { s.jnl with nblocks := s.seed.jblocks } }
  let i := s0.jNewest
  let b := s0.jblk i
  let old := newestEpoch b
  let new := (old + 1) % 65536
  let s1 := s0.setJblk i { b with entries := resumed b }
  let s2 : State := { s1 with
    jnl := { s1.jnl with started := true, cur := i, ring := s1.jnl.ring.map (fun p => (p.1, heldEntry old new p.2)) }
    seed := { s1.seed with newest := old } }
  ((((s2.setReg JNL_EPOCH (w32 new)).orReg JNL_EVENTS 8).setBit JNL_STATUS 0 true)).jShow

/-- Key slot `k` is blown (R417), journaled. -/
def State.revokeSlot (s : State) (k : Nat) : State :=
  if s.slotOk k then
    let s1 := (s.putFldJ originSeed (SED_KEYSLOT k) 30 30 1).orReg SED_EVENTS 4
    { s1 with seed := { s1.seed with blown := bvPut s1.seed.blown k true } }
  else s

/-- A CAN controller becomes active (R419): 50 ms of listening have passed by the end of boot. (DEDUCED: log entry 55) -/
def State.canStart (s : State) (c : Nat) : State :=
  if s.fld (CAN_CTRL c) 1 0 = 1 ∧ !nbit s.seed.canKeep.toNat c then (s.putFldJ originSeed (CAN_CTRL c) 1 0 2).canMode c 2 else s

/-- END_OF_BOOT (R417 to R419): the role keys come into force, or 0x0B04; BOOT_DONE locks the RWL fields; the slots that REVOKE
names are blown; RUN is ready where no Bough or Trunk record is used. (DEDUCED: log entry 55) -/
def execEndOfBoot (keysOk : Bool) (s : State) : Res :=
  if !s.booting then s.done else
  let s1 : State := if keysOk then { s with seed := { s.seed with keys := s.seed.keysNew } } else s.raise 0x0B04 31
  let s2 := s1.putJ originSeed SED_STATUS (putFld (putBit (putBit (s1.reg SED_STATUS) 4 keysOk) 0 true) 18 16 4)
  let rev := match s2.seed.header with
    | some h => setBits h.revoke.toNat 4
    | none => []
  ((forEach State.revokeSlot rev ((s2.canStart 0).canStart 1)).stageUp.runReady).done

/-- SEED_CARD_REMOVED (R420, R427): in service 0x0B0A, and the copier goes on under R320; before the end of boot 0x0B01 and the safe
start-up state. -/
def execSeedCardRemoved (s : State) : Res :=
  let s0 := s.setBit SED_STATUS 1 false
  let s1 : State := { s0 with seed := { s0.seed with cardOk := false } }
  (if s.booting then (s1.raise 0x0B01 31).safeStart 1
  else if s.booted then
    let s2 := ((s1.orReg SED_EVENTS 2).holdCause 0x0B0A 31 true).updateAbort
    if s2.jnl.started then s2.jFail else s2
  else s1).done

/-- SEED_CARD_INSERTED (R427): used only if it is the card read at start; otherwise the fault persists until the next start.
(DEDUCED: log entry 56) -/
def execSeedCardInserted (uniqueId : BitVec 64) (s : State) : Res :=
  let s0 := s.setBit SED_STATUS 1 true
  (if !s.booted then s0
  else if uniqueId.toNat = s.pair SED_CARD_ID_LO ∧ !s.seed.wrong then
    ({ s0 with seed := { s0.seed with cardOk := true } } : State).holdCause 0x0B0A 31 false
  else ({ s0 with seed := { s0.seed with wrong := true } } : State).putFldJ originSeed SED_STATUS 31 24 7).done

/-! ## Run state -/

/-- START (R424): from ready only. The second component says whether it was accepted. -/
def State.runStart (s : State) : State × Bool := if s.run = 1 then (s.setRun 2, true) else (s, false)

/-- STOP (R424): from running. -/
def State.runStop (s : State) : State := if s.run = 2 then s.setRun 3 else s

/-- RUN_CMD_START (R424): refused in every state but ready. -/
def execRunCmdStart (m : Master) (s : State) : Res :=
  (if s.run = 1 then ((s.strobeJ m SED_RUN_CMD 1).runStart).1 else s.ended 3).done

/-- RUN_CMD_STOP (R424). -/
def execRunCmdStop (m : Master) (s : State) : Res := ((s.strobeJ m SED_RUN_CMD 2).runStop).done

/-! ## Other events -/

/-- CROWN_WATCHDOG_EXPIRE (R313). (DEDUCED: log entry 56) -/
def execCrownWatchdogExpire (core : Fin 2) (s : State) : Res := (s.raise 0x0D09 core).done

/-- POWER_LOSS (R98, R425): every output takes its unpowered state. (DEDUCED: log entry 56) -/
def execPowerLoss (s : State) : Res := s.unpowered.done

/-- FACTORY_JUMPER_FITTED (R423): outside the factory state, 0x0B09. -/
def execFactoryJumperFitted (s : State) : Res :=
  let s1 := s.setBit SED_FACTORY 1 true
  (if s.bit SED_FACTORY 0 then s1 else s1.raise 0x0B09 31).done

end Sys2Proof.Machine
end

