-- ==== Sys2Proof/Machine/Gate.lean ====
section
/-! DEFINITION. Gate drive and Sap engine: the commands of the aux-power family (R345 to R370). -/

namespace Sys2Proof.Machine

/-! ## Gate channels -/

/-- A PWM period of group `g` begins (R367): CLR_SEL 2 latches clear (R330), and warn raises start again (R361). -/
def State.pwmBoundary (s : State) (g : Nat) : State :=
  forEach (fun s ch => s.setGch ch { s.gch ch with warned := false }) (upTo (4 * g) 4) (s.autoClear 2 (some g))

/-- The turn-on of a channel that nothing delays. -/
def State.turnOn (s : State) (ch : Nat) : State := s.chanOn ch

/-- A refusal of the gate-drive chapter: counted and journaled (R354). -/
def State.gdrRefuse (s : State) (m : Master) (a : Nat) (v : Word) : State := (s.count GDR_CNT 15 0 1).refusedJ m a v

/-- A simultaneous on command of a half-bridge leg (R355): both channels stay off. -/
def State.interlock (s : State) (leg : Nat) : State :=
  ((((s.chanOff (2 * leg)).chanOff (2 * leg + 1)).count (GDR_LEG_CNT leg) 23 16 1).orReg GDR_EVENTS 8).raise 0x0704 leg

/-- Bootstrap recovery of a leg (R358): from an undervoltage, or from the first on command of a high side that precharges, until
the bootstrap has reached 10 V. The low side then runs the refresh pulses and not its command (R365).
(DEDUCED: log entry 46) -/
def State.recovering (s : State) (leg : Nat) : Bool :=
  !s.bstOk leg && (s.flt.causes.contains (0x0705, leg) || (s.gch (2 * leg)).cmd)

/-- A channel follows its command, by the precedence of R365. -/
def State.follow (s : State) (ch : Nat) : State :=
  let leg := ch / 2
  let c := s.gch ch
  if !s.chanFree ch then (if s.bit GDR_STATUS (8 + ch / 4) then s else s.chanOff ch)
  else if halfBridge leg then
    if (if ch % 2 = 0 then !s.bstOk leg else s.recovering leg) then s.chanOff ch
    else if s.gate.refresh.getLsbD leg then s
    else if !c.cmd then s.chanOff ch
    else if (s.gch (otherCh ch)).cmd then s.interlock leg
    else if c.out == 1 then s
    else if ch % 2 == 0 && s.lowLong ch then
      let s1 := s.setGch ch { c with pendOn := true }
      { s1 with gate := { s1.gate with refresh := bvPut s1.gate.refresh (leg) true } }
    else if s.inDead ch then s.setGch ch { c with pendOn := true }
    else s.turnOn ch
  else if !c.cmd then s.chanOff ch
  else if c.out == 1 then s
  else s.turnOn ch

/-- A turn-on command of the first channel of a group that may switch is its PWM period boundary (R367). -/
def State.pwmCommand (s : State) (ch : Nat) (on : Bool) : State :=
  if on && ch % 4 == 0 && !(s.gch ch).cmd && s.chanFree ch then s.pwmBoundary (ch / 4) else s

/-- SAP_GATE_COMMAND (R365). Where a half-bridge channel is commanded off, the other one follows its own command again: what the
interlock held off is held off no longer (R355). -/
def execSapGateCommand (ch : Fin 16) (on : Bool) (s : State) : Res :=
  let s0 := s.pwmCommand ch on
  let s1 := (s0.setGch ch { s0.gch ch with cmd := on }).follow ch
  (if !on && halfBridge (ch / 2) && (s1.gch (otherCh ch)).cmd then s1.follow (otherCh ch) else s1).done

/-- DEAD_TIME_END (R355): a delayed on command takes effect, or meets the interlock. -/
def execDeadTimeEnd (ch : Fin 16) (s : State) : Res :=
  (if (s.gch ch).pendOn && (s.gch ch).cmd && s.chanFree ch && !s.gate.refresh.getLsbD (ch / 2)
      && (ch.val % 2 == 1 || s.bstOk (ch / 2)) then
    if halfBridge (ch / 2) && (s.gch (otherCh ch)).cmd then s.interlock (ch / 2) else s.turnOn ch
  else s).done

/-- The channels of a mask that lie in group `g`. -/
def chansOf (mask g : Nat) : Nat := nfld mask (4 * g + 3) (4 * g) * 2 ^ (4 * g)

/-- Step 1 of the two-step turn-off of group `g` (R362). -/
def State.startSeq (s : State) (mask : Nat) (both : Bool) (g : Nat) : State :=
  let s1 := forEach (fun s ch => if (s.gch ch).out == 1 then
      s.setGch ch { s.gch ch with out := 2, pendOn := false, blank := false, edgeAt := some (s.now 0), offAt := some (s.now 0) }
    else s.setGch ch { s.gch ch with pendOn := false }) (upTo (4 * g) 4) s
  let s2 := (s1.setBit GDR_STATUS (8 + g) true).setReg (GDR_TRIP g) (w32 (chansOf mask g + b2n both * 65536))
  ((s2.orReg GDR_EVENTS 2).raiseHeld 0x0702 g).post (156 + g)

/-- Stop of a stage: its channels go off, its flags and status clear. -/
def State.stageStop (s : State) (st : Nat) : State :=
  let chs := if st = 0 then [0, 1] else if st = 1 then upTo 4 4 else if st = 2 then upTo 8 4
    else if st = 3 then [12, 13] else [14, 15]
  let s1 := forEach (fun s ch => if s.bit GDR_STATUS (8 + ch / 4) then s else
    (s.setGch ch { s.gch ch with cmd := false }).chanOff ch) chs s
  let s2 : State := { s1 with sap := { s1.sap with pfcWait := s1.sap.pfcWait && st != 0 } }
  if st = 0 then (s2.setBit SAP_STATUS 4 false).sapFlag 0 false
  else if st = 1 then (s2.setBit SAP_STATUS 5 false).sapFlag 2 false
  else if st = 2 then (s2.setBit SAP_STATUS 6 false).sapFlag 3 false
  else s2.sapFlag (10 + st) false

/-- What a hard trip does to the stage behind the group (R347, R348). -/
def State.stageTrip (s : State) (g : Nat) : State :=
  if g = 0 then ((s.stageStop 0).sapFlag 12 true).raise 0x0C08 31
  else if g < 3 then ((s.stageStop g).sapFlag (9 + g) true).raise 0x0C07 (g - 1)
  else s

/-- The hard comparators of the channels of a mask assert (R330, R362). -/
def State.hardAsserts (s : State) (mask : Nat) : State :=
  forEach (fun s n => if s.bit (CMP_C_CFG (2 * n + 1)) 31 then s.setCmpOut (2 * n + 1) true else s) (setBits mask 16) s

/-- HARD_CROSSING (R362 to R364): hard crossings of one detection window. A disabled group has its comparators' latches alone. Enabled groups that are not report-only start
their sequences; a group in its sequence or tripped adds channel bits; a report-only group raises 0x0703. -/
def execHardCrossing (chans : BitVec 16) (s0 : State) : Res :=
  let mask := chans.toNat
  let s := s0.hardAsserts mask
  let hit := (upTo 0 4).filter (fun g => chansOf mask g != 0)
  let busy := hit.filter (fun g => s.bit GDR_STATUS (8 + g) || s.bit GDR_STATUS (4 + g))
  let free := hit.filter (fun g => s.bit GDR_CTRL g && !s.bit GDR_STATUS (8 + g) && !s.bit GDR_STATUS (4 + g))
  let trip := free.filter (fun g => !s.bit GDR_RPTONLY g)
  let rpt := free.filter (fun g => s.bit GDR_RPTONLY g)
  let s1 := forEach (fun s g => s.orReg (GDR_TRIP g) (chansOf mask g)) busy s
  let s2 := forEach (fun s g => s.startSeq mask (decide (2 ≤ trip.length)) g) trip s1
  let s3 := forEach (fun s g => (s.orReg GDR_EVENTS 4).raise 0x0703 g) rpt s2
  ((forEach State.stageTrip (trip.filter (fun g => g != 0) ++ trip.filter (fun g => g == 0)) s3).gdrShow).done

/-- SOFT_TURNOFF_END (R362): step 2, every channel sinks through GnL and the group is tripped. -/
def execSoftTurnoffEnd (g : Fin 4) (s : State) : Res :=
  (if s.bit GDR_STATUS (8 + g) then
    let s1 := (s.setBit GDR_STATUS (8 + g) false).setBit GDR_STATUS (4 + g) true
    (forEach State.chanOff (upTo (4 * g) 4) s1).gdrShow
  else s).done

/-- WARN_CROSSING (R360, R361): the first unmasked one in a PWM period raises 0x0701. -/
def execWarnCrossing (ch : Fin 16) (s : State) : Res :=
  (if (s.gch ch).blank || (s.gch ch).warned then s
  else ((((s.setGch ch { s.gch ch with warned := true }).count GDR_CNT 31 16 1).orReg GDR_EVENTS 1).raise 0x0701 ch)).done

/-- BLANKING_END (R360): a warn comparator that is still asserted reaches its latch and the router. -/
def execBlankingEnd (ch : Fin 16) (s : State) : Res :=
  let s1 := s.setGch ch { s.gch ch with blank := false }
  (if s1.cmpOut (2 * ch) then s1.setCmpOut (2 * ch) true else s1).done

/-- A hard comparator of group `g` is asserted. -/
def State.hardAsserted (s : State) (g : Nat) : Bool := (upTo (4 * g) 4).any (fun n => s.cmpOut (2 * n + 1))

/-- The stages of the groups of a mask need a new START. -/
def needOf (mask : Nat) : BitVec 5 :=
  BitVec.ofNat 5 (b2n (nbit mask 0) + 2 * b2n (nbit mask 1) + 4 * b2n (nbit mask 2) + 24 * b2n (nbit mask 3))

/-- GDR_REL (R366). -/
def execGdrRel (m : Master) (v : BitVec 4) (s : State) : Res :=
  let gs := setBits v.toNat 4
  (if gs.any (fun g => s.bit GDR_STATUS (8 + g) || s.hardAsserted g) then s.gdrRefuse m GDR_REL (w32 v.toNat)
  else
    let s1 := s.strobeJ m GDR_REL (w32 v.toNat)
    let rel := gs.filter (fun g => s.bit GDR_STATUS (4 + g))
    let need := needOf (rel.foldl (fun a g => a + 2 ^ g) 0)
    let s2 : State := { s1 with gate := { s1.gate with needStart := s1.gate.needStart ||| need } }
    (forEach (fun s g => (s.setBit GDR_STATUS (4 + g) false).endCause 0x0702 g) rel s2).gdrShow).done

/-- A hard comparator of group `g` is not enabled or is unresolved (R354). -/
def State.hardUnready (s : State) (g : Nat) : Bool :=
  (upTo (4 * g) 4).any (fun n => !s.bit (CMP_C_CFG (2 * n + 1)) 31 || (s.cmp (2 * n + 1)).settling
    || s.bit CMP_UNRES_HOT (2 * n + 1))

/-- The group of the loop that this module does not drive (R270, R354). -/
def State.foreignGroup (s : State) (g : Nat) : Bool :=
  s.duplex && ((g == 2 && !s.bit GFT_CFG 0) || (g == 1 && s.bit GFT_CFG 0))

/-- GRP_EN_WRITE (R354). Enabling a group starts the precharge of its bootstraps (R358). -/
def execGrpEnWrite (m : Master) (v : BitVec 4) (s : State) : Res :=
  let rise := (setBits v.toNat 4).filter (fun g => !s.bit GDR_CTRL g)
  (if rise.any (fun g => !s.bit GDR_STATUS 16 || s.hardUnready g || s.foreignGroup g) then
    s.gdrRefuse m GDR_CTRL (w32 v.toNat)
  else
    let s1 := s.writeJ m GDR_CTRL (w32 v.toNat)
    let fall := (upTo 0 4).filter (fun g => s.bit GDR_CTRL g && !nbit v.toNat g)
    let s2 := forEach (fun s g => forEach (fun s leg => if halfBridge leg then s.setBit GDR_STATUS (17 + (leg - 2)) false
      else s) (upTo (2 * g) 2) s) rise s1
    (forEach State.gateGroupOff fall s2).gdrShow).done

/-- RPTONLY_WRITE (R364): from a session with the Engineer role or higher. Every write raises 0x0707 with the group as
unit, here each group that the write would change (31 where it changes none), and is journaled. (DEDUCED: log entry 46) -/
def execRptonlyWrite (m : Master) (v : BitVec 4) (s : State) : Res :=
  let ok := match masterRole m with
    | some r => decide (2 ≤ r)
    | none => false
  let ch := setBits (Nat.xor v.toNat (s.fld GDR_RPTONLY 3 0)) 4
  let s1 := if ok then s.writeJ m GDR_RPTONLY (w32 v.toNat) else s.gdrRefuse m GDR_RPTONLY (w32 v.toNat)
  (forEach (fun s g => s.raise 0x0707 g) (if ch.isEmpty then [31] else ch) (s1.orReg GDR_EVENTS 0x80)).done

/-- BOOTSTRAP_REFRESH (R356): the refresh of a half-bridge leg is over and counted, its low side off since t_DT ago, and the leg follows
the commands that have arrived during it: a high side commanded on turns on, and its blanking begins (R360). -/
def execBootstrapRefresh (leg : Fin 8) (s : State) : Res :=
  let hi := 2 * leg.val
  (if halfBridge leg && (s.gate.refresh.getLsbD leg || (s.gch hi).out == 1) then
    let s1 := s.count (GDR_LEG_CNT leg) 15 0 1
    let s2 : State := { s1 with gate := { s1.gate with refresh := bvPut s1.gate.refresh (leg.val) false } }
    let fell := some ((s2.now 0 + 2 ^ 64 - ns (s2.fld (GDR_LEG_DT leg) 7 0 * 10)) % 2 ^ 64)
    let s3 := s2.setGch (hi + 1) { s2.gch (hi + 1) with edgeAt := fell, offAt := fell }
    if (s3.gch hi).cmd && (!s3.chanFree hi || !s3.bstOk leg) then s3.follow hi
    else if (s3.gch hi).cmd && (s3.gch (hi + 1)).cmd then s3.interlock leg
    else if (s3.gch hi).cmd then s3.turnOn hi
    else if (s3.gch (hi + 1)).cmd then (s3.chanOff hi).follow (hi + 1)
    else s3.chanOff hi
  else s).done

/-- BOOTSTRAP_UV (R358): the high side is forced off; neither counted nor raised while precharging. The third within 1 s
raises 0x0706. -/
def execBootstrapUv (leg : Fin 8) (s : State) : Res :=
  (if halfBridge leg && s.bstOk leg then
    let t := s.now 0
    let near := ((Sparse.get (fun _ => []) s.gate.uvAt leg).filter
      (fun x => decide (tdiff t x < (ns 1000000000 : Nat)))).take 2
    let s1 := ((s.setBit GDR_STATUS (17 + (leg.val - 2)) false).chanOff (2 * leg)).count (GDR_LEG_CNT leg) 31 24 1
    let s2 : State := { s1 with gate := { s1.gate with uvAt := Sparse.set (fun _ => []) s1.gate.uvAt leg (t :: near) } }
    let s3 := ((s2.orReg GDR_EVENTS 0x10).holdCause 0x0705 leg true).level (160 + (leg.val - 2)) true
    if 2 ≤ near.length then (s3.orReg GDR_EVENTS 0x20).raise 0x0706 leg else s3
  else s).done

/-- BOOTSTRAP_RELEASE (R358): the leg follows commands again. -/
def execBootstrapRelease (leg : Fin 8) (s : State) : Res :=
  (if halfBridge leg then
    let s1 := ((s.setBit GDR_STATUS (17 + (leg.val - 2)) true).holdCause 0x0705 leg false).level (160 + (leg.val - 2)) false
    let s2 := s1.follow (2 * leg)
    if (s2.gch (2 * leg)).cmd then s2 else s2.follow (2 * leg + 1)
  else s).done

/-- VDRV_OUT_OF_RANGE (R353). -/
def execVdrvOutOfRange (s : State) : Res :=
  let s1 := s.setBit GDR_STATUS 16 false
  let s2 : State := { s1 with gate := { s1.gate with needStart := 31 } }
  ((((forEach State.gateGroupOff (upTo 0 4) s2).orReg GDR_EVENTS 0x40).holdCause 0x0708 31 true).level 166 true).done

/-- VDRV_RECOVERED (R353). -/
def execVdrvRecovered (s : State) : Res :=
  (((s.setBit GDR_STATUS 16 true).holdCause 0x0708 31 false).level 166 false).gdrShow.done

/-- SENSE_TRIM (R359): a trim out of range keeps the last good trim and raises 0x0804 with unit n. -/
def execSenseTrim (ch : Fin 16) (inRange : Bool) (s : State) : Res :=
  (if inRange then s.holdTag 0x0804 ch (64 + ch) false
   else (s.orReg CMP_EVENTS 2).holdTag 0x0804 ch (64 + ch) true).done

/-! ## Sap engine -/

/-- SAP_SERVICE_MISSING (R345): the groups go off, the Sap engine is reset, and every stage needs a new START. -/
def execSapServiceMissing (s : State) : Res :=
  let s1 : State := { s with gate := { s.gate with noService := true, needStart := 31 }
                             sap := { s.sap with pfcWait := false } }
  let s2 := forEach State.gateGroupOff (upTo 0 4) s1
  let s3 := forEach State.stageStop (upTo 0 5) s2
  ((s3.setFld SAP_STATUS 2 0 0).holdCause 0x0C09 31 true).done

/-- SAP_BOOT_DONE (R345): STATE is running again. -/
def execSapBootDone (s : State) : Res :=
  let s1 : State := { s with gate := { s.gate with noService := false } }
  ((s1.setFld SAP_STATUS 2 0 3).holdCause 0x0C09 31 false).gdrShow.done

/-- A refusal of the Sap mailbox: counted and journaled (R370). (DEDUCED: log entry 46) -/
def State.sapRefuse (s : State) (m : Master) (a : Nat) (v : Word) : State := (s.count SAP_CNT 15 0 1).refusedJ m a v

/-- The START of a stage is refused (R347, R348, R270): no limit or reference configured, or the other module's loop.
(DEDUCED: log entry 46) -/
def State.startBad (s : State) (st : Nat) : Bool :=
  match st with
  | 0 => s.reg SAP_PFC_ILIM == 0
  | 1 => s.reg (SAP_LOOP_IREF 0) == 0 || (s.duplex && s.bit GFT_CFG 0)
  | 2 => s.reg (SAP_LOOP_IREF 1) == 0 || (s.duplex && !s.bit GFT_CFG 0)
  | _ => false

/-- The PFC runs. -/
def State.pfcRun (s : State) : State :=
  ((({ s with sap := { s.sap with pfcWait := false } } : State).setBit SAP_STATUS 4 true).sapFlag 0 true).sapFlag 12 false

/-- A stage starts (R370). The PFC starts only with the inrush bypass closed (R347). -/
def State.stageStart (s0 : State) (stage : Nat) : State :=
  let s1 : State := { s0 with gate := { s0.gate with needStart := bvPut s0.gate.needStart stage false } }
  match stage with
  | 0 => if s1.bit SAP_STATUS 3 then s1.pfcRun else { s1 with sap := { s1.sap with pfcWait := true } }
  | 1 => ((s1.setBit SAP_STATUS 5 true).sapFlag 2 true).sapFlag 10 false
  | 2 => ((s1.setBit SAP_STATUS 6 true).sapFlag 3 true).sapFlag 11 false
  | k => s1.sapFlag (10 + k) true

/-- SAP_START (R370). -/
def execSapStart (m : Master) (stage : Fin 5) (s : State) : Res :=
  let cmd := w32 (2 ^ (2 * stage.val))
  (if s.startBad stage then s.sapRefuse m SAP_CMD cmd else (s.strobeJ m SAP_CMD cmd).stageStart stage).done

/-- SAP_STOP (R370). -/
def execSapStop (m : Master) (stage : Fin 5) (s : State) : Res :=
  ((s.strobeJ m SAP_CMD (w32 (2 ^ (2 * stage.val + 1)))).stageStop stage).done

/-- The inrush bypass G2 opens. -/
def State.bypassOpen (s : State) : State :=
  (((s.setGch 2 { s.gch 2 with cmd := false }).chanOff 2).setBit SAP_STATUS 3 false).sapFlag 6 false

/-- MAINS_LOSS (R347, R425): PFC off, bypass open, HOLDUP and 0x0C05; the journal flush begins (R321); a seed update is
aborted (R426). -/
def execMainsLoss (s : State) : Res :=
  let s1 := ((s.stageStop 0).bypassOpen.setBit SAP_STATUS 7 false).setBit SAP_STATUS 8 true
  let s2 := ((s1.sapFlag 7 false).sapFlag 8 true).holdCause 0x0C05 31 true
  let s3 : State := { s2 with jnl := { s2.jnl with flushing := true } }
  s3.updateAbort.done

/-- MAINS_RESTORED (R425): the cause of 0x0C05 ends. -/
def execMainsRestored (s : State) : Res :=
  let s1 := (s.setBit SAP_STATUS 7 true).setBit SAP_STATUS 8 false
  let s2 := ((s1.sapFlag 7 true).sapFlag 8 false).holdCause 0x0C05 31 false
  ({ s2 with jnl := { s2.jnl with flushing := false } } : State).done

/-- INRUSH_CLOSE (R347): the bypass closes, and a PFC start that waited for it goes on. -/
def execInrushClose (s : State) : Res :=
  let s1 := (((s.setGch 2 { s.gch 2 with cmd := true }).follow 2).setBit SAP_STATUS 3 true).sapFlag 6 true
  (if s1.sap.pfcWait then s1.pfcRun else s1).done

/-- LOOP_FAULT (R348): the loop is stopped, the other keeps running. -/
def execLoopFault (x : Fin 2) (s : State) : Res :=
  (((s.stageStop (1 + x)).sapFlag (10 + x) true).raise 0x0C07 x).done

/-- The module drives loop `x` (R270). -/
def State.drives (s : State) (x : Nat) : Bool := !s.duplex || (x == 1) == s.bit GFT_CFG 0

/-- Stop of a loop by an input action; without effect on a loop that the module does not drive (R350). -/
def State.loopStop (s : State) (x : Nat) : State := if s.drives x then s.stageStop (1 + x) else s

/-- SAP_INPUT_ACTION (R350). -/
def execSapInputAction (i : Fin 8) (s : State) : Res :=
  let s0 : State := { s with sap := { s.sap with events := bvPut s.sap.events (i.val) false } }
  let s1 := s0.count SAP_CNT 31 16 1
  (match s1.fld (SAP_INACT i) 2 0 with
   | 0 => s1
   | 1 => s1.stageStop 0
   | 2 => s1.loopStop 0
   | 3 => s1.loopStop 1
   | 4 => (s1.loopStop 0).loopStop 1
   | 5 => (s1.stageStop 3).stageStop 4
   | 6 => forEach State.stageStop (upTo 0 5) s1
   | _ => { s1 with sap := { s1.sap with halved := 3 } }).done

/-- SAP_HEARTBEAT (R350). (DEDUCED: log entry 46) -/
def execSapHeartbeat (s : State) : Res :=
  ((s.setFld SAP_STATUS 31 16 (s.fld SAP_STATUS 31 16 + 1)).post 183).done

/-- SAP_LOOPx_MEAS (R370): frequency and power of a running loop, which the spec does not tie to the samples: free values, the
frequency within its limits (R348). (DEDUCED: log entry 46) -/
def State.loopMeas (s : State) (x : Nat) : State :=
  let w := Config.freeWord s.freeCtr
  let lo := s.fld (SAP_LOOP_FREQ x) 7 0
  let f := lo + fld w 31 24 % (s.fld (SAP_LOOP_FREQ x) 15 8 - lo + 1)
  if s.bit SAP_STATUS (5 + x) then (s.tickFree).setReg (SAP_LOOP_MEAS x) (w32 (f * 2 ^ 24 + fld w 15 0))
  else s.setReg (SAP_LOOP_MEAS x) 0

/-- HOT_ADC_SAMPLE (R368): the 16 codes, and the loops' measurements. In hold-up the loops stop once the PFC bus is below its minimum level (R347). -/
def execHotAdcSample (codes : List (BitVec 12)) (s : State) : Res :=
  let s1 := forEach (fun s p => s.setReg (SAP_ADC p.1) (w32 (4096 + p.2.toNat))) ((upTo 0 16).zip codes) s
  let s2 := (s1.loopMeas 0).loopMeas 1
  (if s2.bit SAP_STATUS 8 && decide (s2.fld (SAP_ADC 1) 11 0 < s2.sap.minBus) then (s2.stageStop 1).stageStop 2 else s2).done

/-- The effective limit of a setting (R349): multiplied by (8 − THROTTLE)/8, rounded down. -/
def throttled (v throttle : Nat) : Nat := v * (8 - min 8 throttle) / 8

/-- The effective power limit of loop `x` (R349, R350): halved by an input action until PLIM is written again. -/
def State.loopLimit (s : State) (x : Nat) : Nat :=
  throttled (s.fld (SAP_LOOP_PLIM x) 15 0) (s.fld SAP_STATUS 15 12) / (if s.sap.halved.getLsbD x then 2 else 1)

end Sys2Proof.Machine
end

