-- ==== Sys2Proof/Machine/Eth.lean ====
section
/-! DEFINITION. The farm network without its management protocol (R371 to R384, R393): bridge, bypass relays, the PRP node, local
services, PTP with its transparent clock. -/

namespace Sys2Proof.Machine

/-! ## Ports -/

/-- The LAN of a port, and the pair: 0 LAN A, 1 LAN B (R371). -/
def lanOf (p : Nat) : Nat := p / 2

/-- The other line port of the LAN. -/
def otherPort (p : Nat) : Nat := if p % 2 = 0 then p + 1 else p - 1

/-! ## Bypass relays -/

/-- RELAY_MOVE_DONE (R372): the contact reads as commanded, which ends the cause of 0x0905. -/
def execRelayMoveDone (pair : Fin 2) (s : State) : Res :=
  ((s.setBit ETH_STATUS pair (s.relayShut pair)).holdCause 0x0905 pair false).done

/-- RELAY_MISMATCH (R372): the contact reads other than commanded. -/
def execRelayMismatch (pair : Fin 2) (s : State) : Res :=
  (((s.setBit ETH_STATUS pair (!s.relayShut pair)).orReg ETH_EVENTS 0x10).holdCause 0x0905 pair true).done

/-! ## Stages -/

/-- SWITCH_READY (R380): stage 1, and on to the stages whose conditions hold already. (DEDUCED: log entry 57) -/
def execSwitchReady (s : State) : Res :=
  (if s.stage = 0 ∧ s.phase ≠ 7 ∧ s.phase ≠ 0 then (s.setFld ETH_STATUS 9 8 1).stageUp else s).done

/-- ETH_ISLAND_RESTART (R380). (DEDUCED: log entry 57) -/
def execEthIslandRestart (s : State) : Res := s.islandDown.done

/-! ## PTP checks (R383) -/

/-- A PTP message fails the profile checks, or comes from the wrong port: counted, not used locally (R383).
(DEDUCED: log entry 48) -/
def State.ptpReject (s : State) (p : Nat) : State := (s.count ETH_PTP_CNT 31 16 1).raiseSec 0x0907 p

/-- Version, length, domain or majorSdoId are not as configured. -/
def State.profileBad (s : State) (m : PtpMsg) : Bool :=
  m.version != 2 || !m.lengthOk || m.domain.toNat != s.fld ETH_PTP_CFG 7 0 || m.sdo.toNat != s.fld ETH_PTP_CFG 11 8

/-- The transparent clock and the peer-delay responder run from stage 1 on (R380). -/
def State.ptpOn (s : State) : Bool := decide (1 ≤ s.stage)

/-- PTP is served locally from stage 2 on (R380). -/
def State.ptpLocal (s : State) : Bool := decide (2 ≤ s.stage)

/-! ## The bridge -/

/-- The module's MAC address as a number: byte 0 is sent first and is the most significant. -/
def State.mac (s : State) : Nat :=
  let lo := (s.reg ETH_MAC_LO).toNat
  let hi := (s.reg ETH_MAC_HI).toNat
  (upTo 0 4).foldl (fun a i => a + nfld lo (8 * i + 7) (8 * i) * 2 ^ (40 - 8 * i)) 0
    + (upTo 0 2).foldl (fun a i => a + nfld hi (8 * i + 7) (8 * i) * 2 ^ (8 - 8 * i)) 0

/-- Destination of PTP frames, and the first address of the range that is not forwarded. -/
def macPtp : Nat := 0x0180C200000E
@[inherit_doc macPtp] def macLink : Nat := 0x0180C2000000

/-- Broadcast. -/
def macAll : Nat := 0xFFFFFFFFFFFF

/-- A LAN is heard (R378). -/
def State.lanHeard (s : State) (lan : Nat) : State :=
  (s.setBit ETH_STATUS (10 + lan) false).holdCause 0x0902 lan false

/-- LAN identifier of the trailer on a LAN (R376). -/
def lanId (lan : Nat) : Nat := 0xA + lan

/-- A frame of either line port ends the silence of its LAN: a trailer of that LAN, or supervision (R378). -/
def State.silenceEnds (s : State) (lan : Nat) (f : EthFrame) : State :=
  let own : Bool := match f.rct with
    | some (_, l) => l.toNat == lanId lan
    | none => false
  if own || f.supervision then s.lanHeard lan else s

/-- A frame is forwarded to the other line port (R373), out of a share of the partition (R374). -/
def State.bridgeOn (s : State) (p share : Nat) (f : EthFrame) : State :=
  s.portSend (otherPort p) p share (.ethForward (otherPort p) f)

/-- A frame accepted by the PRP node without a handler (R379). -/
def State.unhandled (s : State) : State := s.count ETH_LOCAL_CNT 15 0 1

/-- The frame is UDP to the module's address, whole and without options (R379). -/
def State.udpHere (s : State) (f : EthFrame) : Bool :=
  f.ethertype == 0x0800 && f.ipPlain && f.proto == 17 && f.ipDst == s.reg ETH_IP

/-- The frame is a safety datagram (R293, R377): to SAFE_PORT of the block in force. -/
def State.isSafety (s : State) (f : EthFrame) : Bool :=
  s.udpHere f && s.saf.valid && f.udpPort.toNat == blkAt s.saf.block 0x20 2

/-- The tag of a management datagram is allowed (R379). -/
def State.tagAllowed (s : State) (f : EthFrame) : Bool :=
  match f.vid with
  | none => true
  | some v => s.fld ETH_VLAN 11 0 != 0 && v.toNat == s.fld ETH_VLAN 11 0

/-- MAGIC, VER and length of a management frame are right (R385). -/
def mgmtFormOk (l : List Byte) : Bool :=
  let len := leNat ((l.drop 6).take 2)
  leNat (l.take 2) == 0x4A46 && nth l 2 0 == 1 && decide (len ≤ 1424) && l.length == 48 + len

/-- A datagram to the management port (R385, R391): a malformed one is unhandled; in stage 2 it is answered BUSY; from stage 3 on
it is a request, which arrives as a command of its own. -/
def State.mgmtFrameIn (s : State) (f : EthFrame) : State :=
  if !s.tagAllowed f || !mgmtFormOk f.payload then s.unhandled
  else if s.stage = 2 then
    let op := (nth f.payload 3 0).toNat
    let s1 := s.count ETH_MGMT_CNT2 15 0 1
    s1.prpSend (fun i _ => .mgmtBusy i (op % 128 + 128) (leNat ((f.payload.drop 4).take 2)) (leNat ((f.payload.drop 8).take 8)))
  else s

/-- A frame that the PRP node passes on goes to its handler (R379). ARP and echo requests, safety PDUs and management requests
arrive as commands of their own. (DEDUCED: log entry 47) -/
def State.localFrame (s : State) (f : EthFrame) : State :=
  if f.supervision then
    let t := s.eth.table.filter (fun e => e.1 != f.src && decide (tdiff (s.now 0) e.2 < (ns 60000000000 : Nat)))
    { s with eth := { s.eth with table := ((f.src, s.now 0) :: t).take 512 } }
  else if f.ethertype = 0x0806 then s
  else if f.ethertype = 0x0800 ∧ f.ipPlain ∧ f.proto = 1 ∧ f.ipDst = s.reg ETH_IP then s
  else if s.udpHere f && f.udpPort.toNat == s.fld ETH_MGMT_CFG 15 0 then s.mgmtFrameIn f
  else if s.isSafety f then s
  else s.unhandled

/-- The PRP node (R377): the trailer's LAN is checked, and a duplicate within ENTRY_FORGET is discarded, but for safety
datagrams. -/
def State.prpNode (s : State) (p : Nat) (f : EthFrame) : State :=
  match f.rct with
  | none => s.localFrame f
  | some (q, l) =>
    let s1 := if l.toNat = lanId (lanOf p) then s else s.count ETH_PRP_CNT 15 0 1
    if s1.isSafety f then s1.localFrame f
    else
      let keep := s1.eth.seen.filter (fun e =>
        decide (tdiff (s1.now 0) e.2.2 < (ns (s1.fld ETH_PRP_CFG 31 16 * 1000000) : Nat)))
      if keep.any (fun e => e.1 == f.src && e.2.1 == q.toNat) then
        ({ s1 with eth := { s1.eth with seen := keep } } : State).count ETH_PRP_CNT 31 16 1
      else
        ({ s1 with eth := { s1.eth with seen := (f.src, q.toNat, s1.now 0) :: keep } } : State).localFrame f

/-- A frame is delivered (R373, R380): in stage 1 it is dropped and counted. A safety datagram and any other frame wait in their
shares for their handler (R374). -/
def State.toNode (s : State) (p : Nat) (f : EthFrame) : State :=
  if s.stage < 2 then s.count (ETH_PORT_DROP p) 31 16 1
  else if s.isSafety f then
    if s.shareFits 5 f.len then ({ s with eth := { s.eth with rxSafe := s.eth.rxSafe + f.len } } : State).prpNode p f
    else s.bufferDrop p p
  else if s.shareFits 2 f.len then ({ s with eth := { s.eth with rxLocal := s.eth.rxLocal + f.len } } : State).prpNode p f
  else s.bufferDrop p 4

/-- A frame to the PTP address (R381, R383): Delay_Req and Delay_Resp are rejected and discarded; management and signaling messages
are forwarded unchanged, and counted where they fail the checks. The others arrive as commands of their own. -/
def State.ptpFrame (s : State) (p : Nat) (f : EthFrame) : State :=
  let b0 := (nth f.payload 0 0).toNat
  let type := b0 % 16
  if type = 1 ∨ type = 9 then s.ptpReject p
  else if type = 0xC ∨ type = 0xD then
    let bad := decide (f.payload.length < 44) || (nth f.payload 1 0).toNat % 16 != 2 || (nth f.payload 4 0).toNat != s.fld ETH_PTP_CFG 7 0
      || b0 / 16 != s.fld ETH_PTP_CFG 11 8
    (if bad then s.ptpReject p else s).bridgeOn p 4 f
  else s

/-- The longest frame (R371). -/
def maxFrame (f : EthFrame) : Nat := if f.rct.isSome then 1528 else 1522

/-- ETH_FRAME_RECEIVE (R373, R374). -/
def execEthFrameReceive (p : Fin 4) (f : EthFrame) (s : State) : Res :=
  let dst := f.dst.toNat
  (if s.stage = 0 || s.relayShut (lanOf p) || !s.bit ETH_CTRL p then s
  else if f.errored || decide (f.len < 64) || decide (maxFrame f < f.len) then s.count (ETH_PORT_ERR p) 31 16 1
  else
    let s1 := (s.count (ETH_PORT_RX p) 31 0 1).silenceEnds (lanOf p) f
    if f.src.toNat = s.mac then s1.count (ETH_PORT_ERR p) 15 0 1
    else if dst = macPtp ∧ f.ethertype = 0x88F7 then s1.ptpFrame p f
    else if macLink ≤ dst ∧ dst < macLink + 16 then s1
    else if dst = s.mac then s1.toNode p f
    else if dst = macAll ∨ f.listened then (s1.bridgeOn p (lanOf p) f).toNode p f
    else s1.bridgeOn p (lanOf p) f).done

/-- PRP_SUPERVISION_SEND (R376). -/
def execPrpSupervisionSend (s : State) : Res :=
  (if 2 ≤ s.stage then s.prpSend (fun i n => .prpSupervision i n) else s).done

/-- LAN_SILENT (R378). -/
def execLanSilent (lan : Fin 2) (s : State) : Res :=
  (((s.setBit ETH_STATUS (10 + lan) true).orReg ETH_EVENTS 2).holdCause 0x0902 lan true).done

/-! ## Local services -/

/-- ARP_REQUEST (R379). -/
def execArpRequest (_p : Fin 4) (ip : Word) (asker : BitVec 48) (s : State) : Res :=
  (if s.stage < 2 then s
  else if ip = s.reg ETH_IP then s.prpSend (fun i n => .arp i (some asker) n)
  else s.unhandled).done

/-- ICMP_ECHO (R379): at most ten replies per second. (DEDUCED: log entry 47) -/
def execIcmpEcho (_p : Fin 4) (data : List Byte) (s : State) : Res :=
  (if s.stage < 2 then s
  else
    let n := if s.eth.icmp.1 = s.second then s.eth.icmp.2 else 0
    if n < 10 then
      ({ s with eth := { s.eth with icmp := (s.second, n + 1) } } : State).prpSend (fun i q => .icmpReply i data q)
    else s.count ETH_LOCAL_CNT 31 16 1).done

/-! ## Peer delay (R384) -/

/-- A PTP event message is stamped at its port (R57): in TB2 with TB0 beside it. -/
def State.stampEth (s : State) (k : Nat) : State :=
  { s with eth := { s.eth with stamps := Sparse.set (fun _ => (0, 0)) s.eth.stamps k (s.stamp 2, s.stamp 0) } }

/-- A Pdelay_Req of port `p`, whose identity is the MAC address and the port's number. -/
def State.pdelayReq (s : State) (p seq : Nat) : PtpMsg :=
  { version := 2, lengthOk := true, domain := BitVec.ofNat 8 (s.fld ETH_PTP_CFG 7 0)
    sdo := BitVec.ofNat 4 (s.fld ETH_PTP_CFG 11 8), srcPort := BitVec.ofNat 80 (s.mac * 65536 + p + 1)
    seqId := BitVec.ofNat 16 seq, correction := 0, origin := 0, wraps := 0, twoStep := false }

/-- PDELAY_REQ_SEND: the third request in a row without an answer clears LDLY_VALID. -/
def execPdelayReqSend (p : Fin 4) (s : State) : Res :=
  (if !s.ptpOn || !s.portUp p then s
  else
    let missed := if (s.pdelay p).asked.isSome then (s.pdelay p).missed + 1 else 0
    let s1 := if 3 ≤ missed then s.ldlyLost p else s
    let d := s1.pdelay p
    let msg := s.pdelayReq p d.next
    ((s1.stampEth (2 * p + 1)).setPdelay p { d with asked := some d.next, missed := missed, next := (d.next + 1) % 65536 }).portSend p p 4
      (.ptpSend p 2 msg)).done

/-- Mean of measurements in 2^-16 ns. (DEDUCED: log entry 48) -/
def meanOf (l : List Int) : Int := if l.isEmpty then 0 else sumInt l / (l.length : Int)

/-- A measurement enters the mean of the last 8; one more than 100 ns away is discarded, and 8 in a row restart the mean.
(DEDUCED: log entry 48) -/
def State.measured (s : State) (p : Nat) (v : Int) : State :=
  let d := s.pdelay p
  if !d.meas.isEmpty && decide ((ns 100 : Nat) < (v - meanOf d.meas).natAbs) then
    if 7 ≤ d.discard then s.setPdelay p { d with meas := [], discard := 0 }
    else s.setPdelay p { d with discard := d.discard + 1 }
  else
    let l := (v :: d.meas).take 8
    let s1 := (s.setPdelay p { d with meas := l, discard := 0 }).setReg (ETH_PORT_LDLY p) (wordOfInt (meanOf l / 256))
    if l.length = 8 then s1.setBit (ETH_PORT_STATUS p) 2 true else s1

/-- PDELAY_RESP_RECEIVE: an answer to the port's last request gives one measurement. -/
def execPdelayRespReceive (p : Fin 4) (msg : PtpMsg) (delay : Time) (s : State) : Res :=
  (if !s.ptpOn then s
  else if s.profileBad msg || (s.pdelay p).asked != some msg.seqId.toNat then s.ptpReject p
  else ((s.stampEth (2 * p)).setPdelay p { s.pdelay p with asked := none, missed := 0 }).measured p delay.toInt).done

/-- PDELAY_REQ_RECEIVE: a one-step responder, with the turnaround in the correctionField. -/
def execPdelayReqReceive (p : Fin 4) (msg : PtpMsg) (turnaround : Time) (s : State) : Res :=
  (if !s.ptpOn then s
  else if s.profileBad msg then s.ptpReject p
  else (s.stampEth (2 * p)).portSend p p 4 (.ptpSend p 3 { msg with correction := turnaround })).done

/-! ## Masters (R382) -/

/-- The PTP port of a LAN. (DEDUCED: log entry 47) -/
def State.ptpPort (s : State) (lan : Nat) : PtpPort := Sparse.get (fun _ => PtpPort.reset) s.eth.ptp lan

/-- The state with a PTP port replaced. -/
def State.setPtp (s : State) (lan : Nat) (x : PtpPort) : State :=
  { s with eth := { s.eth with ptp := Sparse.set (fun _ => PtpPort.reset) s.eth.ptp lan x } }

/-- One data set is better than another: the smaller key. -/
def rankLt : List Nat → List Nat → Bool
  | [], [] => false
  | [], _ => true
  | _, [] => false
  | x :: xs, y :: ys => decide (x < y) || (x == y && rankLt xs ys)

/-- The best qualified master of a LAN. -/
def State.bestOf (s : State) (lan : Nat) : Option PtpMaster :=
  ((s.ptpPort lan).masters.filter (fun x => x.qual)).foldl (fun (best : Option PtpMaster) x =>
    match best with
    | some b => if rankLt x.data.rank b.data.rank then some x else best
    | none => some x) none

/-- The master and LAN that the module selects: the better of the two ports' best; of one grandmaster, LAN A while its Announce
receipt has not timed out. -/
def State.choice (s : State) : Option (PtpMaster × Nat) :=
  match s.bestOf 0, s.bestOf 1 with
  | none, none => none
  | some a, none => some (a, 0)
  | none, some b => some (b, 1)
  | some a, some b =>
    if a.data.gm = b.data.gm then (if (s.ptpPort 0).timeout then some (b, 1) else some (a, 0))
    else if rankLt b.data.rank a.data.rank then some (b, 1) else some (a, 0)

/-- STATE of the PTP port of a LAN (R394): disabled where neither of its line ports is enabled, faulty where neither has link.
(DEDUCED: log entry 48) -/
def State.ptpState (s : State) (lan : Nat) : Nat :=
  let ps := [2 * lan, 2 * lan + 1]
  if !ps.any (fun p => s.bit ETH_CTRL p) then 4
  else if !ps.any (fun p => s.bit (ETH_PORT_STATUS p) 0) then 3
  else match s.eth.sel with
    | none => 0
    | some x => if x.2 = lan then 1 else if (s.bestOf lan).isSome then 2 else 0

/-- ETH_PTP_STATUS and the master's registers show the selection. -/
def State.showPtp (s : State) : State :=
  let s1 := (s.setFld ETH_PTP_STATUS 10 8 (s.ptpState 1)).setFld ETH_PTP_STATUS 6 4 (s.ptpState 0)
  match s.eth.sel with
  | none => s1.setBit ETH_PTP_STATUS 1 false
  | some x => ((((s1.setBit ETH_PTP_STATUS 1 true).setBit ETH_PTP_STATUS 0 (x.2 == 1)).setPair ETH_PTP_GM_LO
      x.1.data.gm.toNat).setReg ETH_PTP_UTC x.1.data.utc)

/-- The selection is made anew (R382): a different grandmaster identity is a change of master (R55); a move between the LANs with
the same one gives the outlier gate a new reference. -/
def State.reselect (s : State) : State :=
  let new := s.choice
  let known := s.bit ETH_PTP_STATUS 1 || s.pair ETH_PTP_GM_LO != 0
  let s1 : State := { s with eth := { s.eth with sel := new } }
  let s2 := match new with
    | none => s1
    | some x =>
      if known && s.pair ETH_PTP_GM_LO != x.1.data.gm.toNat then
        let t := s1.count ETH_PTP_STATUS 31 16 1
        if t.sourced 2 then t.enterHold 2 else t
      else match s.eth.sel with
        | some y => if y.2 = x.2 then s1 else s1.setTb 2 { s1.tb 2 with lastE := none }
        | none => s1
  s2.showPtp

/-- Nanoseconds, in 2^-16 ns, of `2^e` seconds. -/
def logTime (e : Int) : Nat := if 0 ≤ e then ns 1000000000 * 2 ^ e.toNat else ns 1000000000 / 2 ^ (-e).toNat

/-- A message on the selected port that does not come from the selected master (R383). -/
def State.wrongMaster (s : State) (p : Nat) (src : BitVec 80) : Bool :=
  match s.eth.sel with
  | some x => x.2 == lanOf p && x.1.src != src
  | none => false

/-- An Announce enters the list of its LAN: two within four Announce intervals qualify the master.
(DEDUCED: log entry 47) -/
def State.announceIn (s : State) (lan : Nat) (msg : PtpMsg) (d : AnnounceData) : State :=
  let pt := s.ptpPort lan
  let old := (pt.masters.find? (fun x => x.src == msg.srcPort))
  let near := match old with
    | some x => x.heard.filter (fun t => decide (tdiff (s.now 0) t ≤ (4 * logTime d.logInterval : Nat)))
    | none => []
  let qual := !near.isEmpty || (match old with | some x => x.qual | none => false)
  let x : PtpMaster := { src := msg.srcPort, data := d, heard := (s.now 0 :: near).take 2, qual := qual }
  s.setPtp lan { pt with masters := x :: pt.masters.filter (fun y => y.src != msg.srcPort)
                         timeout := pt.timeout && !qual }

/-- A message is forwarded unchanged to the other line port (R384). -/
def State.ptpForward (s : State) (p type : Nat) (msg : PtpMsg) : State :=
  s.portSend (otherPort p) p 4 (.ptpSend (otherPort p) type msg)

/-- PTP_ANNOUNCE_RECEIVE (R382, R383). -/
def execPtpAnnounceReceive (p : Fin 4) (msg : PtpMsg) (d : AnnounceData) (s : State) : Res :=
  (if !s.ptpOn then s
  else
    let s1 := s.ptpForward p 0xB msg
    if !s1.ptpLocal then s1
    else if s1.profileBad msg || s1.wrongMaster p msg.srcPort then s1.ptpReject p
    else (s1.announceIn (lanOf p) msg d).reselect).done

/-- ANNOUNCE_TIMEOUT (R381, R382): the LAN has no master any more. -/
def execAnnounceTimeout (lan : Fin 2) (s : State) : Res :=
  ((s.setPtp lan { s.ptpPort lan with masters := [], timeout := true, wait := none }).reselect).done

/-! ## Samples (R382) -/

/-- Link delay and asymmetry of a port, in 2^-16 ns. -/
def State.portDelay (s : State) (p : Nat) : Int := ((s.reg (ETH_PORT_LDLY p)).toInt + (s.reg (ETH_PORT_ASYM p)).toInt) * 256

/-- The offset e of a Sync: origin plus C + D + A minus the receive stamp, in the TB2 domain. -/
def syncOffset (origin : Nat) (corr : Int) (rx : Nat) : Int := tdiff (toU 64 ((origin : Int) + corr)) rx

/-- The wraps of TB2 by PTP time (R63, R381): PTP time at the receive stamp, less TB2 corrected by `e`, in units of 2^48 ns. -/
def ptpWraps (msg : PtpMsg) (corr : Int) (rx : Nat) (e : Int) : Word :=
  w32 (toU 32 (((msg.wraps.toNat * 2 ^ 64 + msg.origin.toNat : Nat) + corr - (rx : Int) - e) / 2 ^ 64))

/-- The offset of a Sync, or of its Follow_Up, is used: on the selected port as a TB2 sample that sets the wraps of TB2 too, on the
other for diagnosis. -/
def State.useOffset (s : State) (lan : Nat) (msg : PtpMsg) (corr : Int) (rx : Nat) : State :=
  let e := syncOffset msg.origin.toNat corr rx
  let src := msg.srcPort
  match s.eth.sel with
  | none => s
  | some x =>
    if x.2 = lan then (if x.1.src = src then ((s.count ETH_PTP_CNT 15 0 1).servo 2 e).setReg (TIM_TB_EPOCH 2) (ptpWraps msg corr rx e) else s)
    else if (match s.bestOf lan with | some b => b.src == src | none => false) then
      s.setReg ETH_PTP_OFFB (wordOfInt (clampI (-2147483648) 2147483647 (e / 256)))
    else s

/-- The Sync leaves the other port with its correctionField updated (R384). -/
def State.syncForward (s : State) (p : Nat) (msg : PtpMsg) (egress : Time) : State :=
  let res := tdiff egress.toNat (s.stamp 2)
  let corr := msg.correction.toInt + s.portDelay p + res
  let n := min 65535 (res / 65536).toNat
  let s1 := s.ptpForward p 0 { msg with correction := BitVec.ofInt 64 corr }
  (s1.setFld (ETH_PORT_RES p) 15 0 n).peak (ETH_PORT_RES p) 31 16 n

/-- PTP_SYNC_RECEIVE (R382 to R384): stamped with TB2 at its arrival; `egress` is the TB2 stamp at the other port. A two-step Sync
that still waits for its Follow_Up is discarded and counted. (DEDUCED: log entry 48) -/
def execPtpSyncReceive (p : Fin 4) (msg : PtpMsg) (egress : Time) (s : State) : Res :=
  (if !s.ptpOn then s
  else if !s.bit (ETH_PORT_STATUS p) 2 then s.ptpReject p
  else
    let s1 := (s.stampEth (2 * p)).syncForward p msg egress
    if !s1.ptpLocal then s1
    else if s1.profileBad msg || s1.wrongMaster p msg.srcPort then s1.ptpReject p
    else
      let lan := lanOf p
      let corr := msg.correction.toInt + s1.portDelay p
      if msg.twoStep then
        let s2 := if (s1.ptpPort lan).wait.isSome then s1.count ETH_PTP_CNT 31 16 1 else s1
        s2.setPtp lan { s2.ptpPort lan with
          wait := some { src := msg.srcPort, seq := msg.seqId, corr := corr, rx := s2.stamp 2 } }
      else s1.useOffset lan msg corr (s1.stamp 2)).done

/-- PTP_FOLLOW_UP_RECEIVE (R382, R383): it completes the Sync that waits. -/
def execPtpFollowUpReceive (p : Fin 4) (msg : PtpMsg) (s : State) : Res :=
  (if !s.ptpOn then s
  else
    let s1 := s.ptpForward p 8 msg
    if !s1.ptpLocal then s1
    else if s1.profileBad msg || s1.wrongMaster p msg.srcPort then s1.ptpReject p
    else
      let lan := lanOf p
      match (s1.ptpPort lan).wait with
      | none => s1
      | some w =>
        if w.src = msg.srcPort ∧ w.seq = msg.seqId then
          (s1.setPtp lan { s1.ptpPort lan with wait := none }).useOffset lan msg (w.corr + msg.correction.toInt) w.rx
        else s1).done

/-- FOLLOW_UP_TIMEOUT (R382): the Sync is discarded and counted. (DEDUCED: log entry 48) -/
def execFollowUpTimeout (lan : Fin 2) (s : State) : Res :=
  (if (s.ptpPort lan).wait.isSome then
    (s.setPtp lan { s.ptpPort lan with wait := none }).count ETH_PTP_CNT 31 16 1
  else s).done

/-! ## Time -/

/-- What the block does while no command waits: one clock of the time bases and of the egress ports passes.
(DESIGN CHOICE: log entries 2 and 49) -/
def State.idle (s : State) : Res := s.tick.ethClock.done

/-! ## Links -/

/-- ETH_LINK_DOWN (R375). -/
def execEthLinkDown (p : Fin 4) (s : State) : Res := ((s.linkLost p).showPtp).done

/-- ETH_LINK_UP (R375, R395): the cause of 0x0901 ends. A port that is powered down or whose relay is closed gets no link. -/
def execEthLinkUp (p : Fin 4) (gig : Bool) (s : State) : Res :=
  (if s.bit ETH_CTRL p && !s.relayShut (lanOf p) then
    let s1 := ((s.setBit (ETH_PORT_STATUS p) 0 true).setBit (ETH_PORT_STATUS p) 1 gig).setBit ETH_STATUS (4 + p) true
    ((s1.holdCause 0x0901 p false).level (188 + p) false).showPtp
  else s).done

/-- BYP_CLOSE_WRITE (R372): a pair whose relay closes has its PHYs disconnected, without a link fault. -/
def execBypCloseWrite (m : Master) (v : BitVec 2) (s : State) : Res :=
  let s1 := s.writeJ m ETH_CTRL (putFld (s.reg ETH_CTRL) 5 4 v.toNat)
  (forEach State.linkLost ((upTo 0 4).filter (fun p => nbit v.toNat (lanOf p))) s1).showPtp.done

/-- PORT_EN_WRITE (R375): a port whose bit is clear has its PHY powered down, and raises no link fault; journaled.
(DEDUCED: log entry 47) -/
def execPortEnWrite (m : Master) (v : BitVec 4) (s : State) : Res :=
  let s1 := s.writeJ m ETH_CTRL (putFld (s.reg ETH_CTRL) 3 0 v.toNat)
  (forEach State.linkLost ((upTo 0 4).filter (fun p => !nbit v.toNat p)) s1).showPtp.done

end Sys2Proof.Machine
end

