-- ==== Sys2Proof/Machine/RegOps.lean ====
section
/-! DEFINITION. How a register is read and written by its fields' access types (R9 to R14): the plain write, the lock of
R13, the pairing of R14, and the read with what it clears and captures. -/

namespace Sys2Proof.Machine

/-- The state that a command answers. (DESIGN CHOICE: log entry 3; DEDUCED: log entry 4) -/
def resState (r : Res) (s : State) : State :=
  match r with
  | .next t => t
  | _ => s

/-- The bits of `old` outside `mask`, and those of `v` inside it. -/
def mergeMask (old v mask : Nat) : Nat := andNot old mask + Nat.land v mask

/-- The entry of a register as it holds for a base (R52, R63): STEP_EN and the holdover limit are reserved on TB0 and TB1,
FLIM and JUMP are RWL there, and on TB1 every field that can be written is. -/
def baseSpec (n off : Nat) (r : RegSpec) : RegSpec :=
  let r1 := if n < 2 then
      (match off with
       | 0x08 => { r with rw := 7 }
       | 0x40 => { r with rw := 0 }
       | 0x24 => { r with rw := 0, rwl := r.rw }
       | 0x2C => { r with rw := 0, rwl := r.rw }
       | _ => r)
    else r
  if n = 1 then { r1 with rw := 0, rwl := Nat.lor r1.rw r1.rwl } else r1

/-- The register at an address, with its masks. (DEDUCED: log entry 4) -/
def regAt (a : Nat) : Option RegSpec :=
  (specOf a).map (fun r =>
    if 0x31000100 ≤ a ∧ a < 0x31000500 then baseSpec ((a - 0x31000100) / 0x100) (a % 0x100) r else r)

/-- The bits that a write sets now: RW, and RWL before the end of boot (R11). -/
def State.openMask (s : State) (r : RegSpec) : Nat := Nat.lor r.rw (if s.booted then 0 else r.rwl)

/-- A write would give a locked field another value (R13). (DEDUCED: log entry 13) -/
def State.lockHit (s : State) (r : RegSpec) (a : Nat) (v : Word) : Bool :=
  s.booted && Nat.land (Nat.xor v.toNat (s.reg a).toNat) r.rwl != 0

/-- The value a register holds after a write, and its W1C bits (R9, R11). (DEDUCED: log entry 13) -/
def State.written (s : State) (r : RegSpec) (a : Nat) (v : Word) : Word :=
  w32 (andNot (mergeMask (s.reg a).toNat v.toNat (s.openMask r)) (Nat.land v.toNat r.w1c))

/-- Some RW, RWL or WO field accepts the write, which is then journaled (R314 item 1). -/
def State.takes (s : State) (r : RegSpec) (a : Nat) (v : Word) : Bool :=
  r.rw != 0 || r.wo != 0 || (r.rwl != 0 && !s.lockHit r a v)

/-- A write by the fields' access types (R11), with the refusal of R13. (DEDUCED: log entry 4) -/
def State.plainWrite (s : State) (m : Master) (r : RegSpec) (a : Nat) (v : Word) : State :=
  let s1 := s.setReg a (s.written r a v)
  let s2 := if s.takes r a v then
      s1.journal (s.originOf m) 0x01 false a (s.reg a) (w32 (Nat.lor (s1.reg a).toNat (Nat.land v.toNat r.wo)))
    else s1
  if s.lockHit r a v then s2.lockedRefuse a m else s2

/-- A write of a register whose chapter refuses other values and names no fault: it leaves the register unchanged. A locked
register is handled by R13 first. -/
def State.plainIf (s : State) (m : Master) (r : RegSpec) (a : Nat) (v : Word) (ok : Bool) : State :=
  if ok || (s.booted && r.rw == 0) then s.plainWrite m r a v else s.ended 3

/-- The bits of a register that a write may act on. -/
def writable (r : RegSpec) : Nat := Nat.lor (Nat.lor r.rw r.rwl) (Nat.lor r.wo r.w1c)

/-- A write of the high word of a pair is held (R14); one that a lock bars is refused (R13). -/
def State.holdHigh (s : State) (m : Master) (r : RegSpec) (a : Nat) (v : Word) : State :=
  if writable r = 0 then s
  else if a = TIM_TB_LOAD_HI 1 ∧ s.booted then s.lockedRefuse a m
  else s.setHeld (a - 4) (some (w32 (Nat.land v.toNat (writable r))))

/-- The pair of a low word takes effect with the high word held (R14). (DEDUCED: log entry 12) -/
def State.pairWrite (s : State) (m : Master) (a : Nat) (v : Word) : State :=
  let hi := s.heldHi a (s.reg (a + 4))
  ((s.writeJ m a v).writeJ m (a + 4) hi).setHeld a none

/-- A W1C pair (R11, R14): with no high word held, none of its bits is cleared. (DEDUCED: log entry 12) -/
def State.pairClear (s : State) (a : Nat) (v : Word) : State :=
  ((s.clrReg a v.toNat).clrReg (a + 4) (s.heldHi a 0).toNat).setHeld a none

/-- The number of the base whose value the pair at `a` shows. -/
def nowBase (a : Nat) : Option Nat :=
  if 0x31000100 ≤ a ∧ a < 0x31000500 ∧ (a % 0x100 = 0 ∨ a % 0x100 = 4) then some ((a - 0x31000100) / 0x100) else none

/-- The number of the base whose cross-stamp the pair at `a` shows. -/
def xstBase (a : Nat) : Option Nat :=
  if 0x31000058 ≤ a ∧ a < 0x31000078 then some ((a - 0x31000058) / 8) else none

/-- REMAIN of GFT_REVERT (R268): the seconds left of the hold-off, by TB1. (DEDUCED: log entry 35) -/
def State.revRemain (s : State) : Nat :=
  match s.gft.revAt with
  | some t => if s.bit GFT_CFG 1 then s.fld GFT_REVERT 15 0 - (s.now 1 + 2 ^ 64 - t) % 2 ^ 64 / ns 1000000000 else 0
  | none => 0

/-- SECONDS of SAF_DEG_LEFT (R301): what is left of DEG_MAX in the degraded state, by TB1. (DEDUCED: log entry 41) -/
def State.degLeft (s : State) : Nat :=
  match s.saf.degAt with
  | some t => if s.saf.degOver then 0 else blkAt s.saf.block 0x28 4 - (s.now 1 + 2 ^ 64 - t) % 2 ^ 64 / ns 1000000000
  | none => 0

/-- The value of a register as it stands: TIM_TBn_NOW shows the base (R6), TIM_XSTAMP_TBn and VALID the last cross-stamp (R58),
GFT_REVERT and SAF_DEG_LEFT the seconds left (R268, R301), every other register what it holds. -/
def State.current (s : State) (a : Nat) : Word :=
  match nowBase a, xstBase a with
  | some n, _ => if a % 8 = 0 then lo32 (s.now n) else hi32 (s.now n)
  | none, some n => if a % 8 = 0 then lo32 (s.xst.at n) else hi32 (s.xst.at n)
  | none, none =>
    if a = TIM_XSTAMP_CTRL then putBit (s.reg a) 8 s.xst.valid
    else if a = GFT_REVERT then putFld (s.reg a) 31 16 s.revRemain
    else if a = SAF_DEG_LEFT then w32 s.degLeft
    else s.reg a

/-- What a read clears (R11): RC fields, and VALID of the cross-stamp. -/
def State.readClears (s : State) (r : RegSpec) (a : Nat) : State :=
  if a = TIM_XSTAMP_CTRL then { s with xst := { s.xst with valid := false } }
  else if r.rc = 0 then s else s.clrReg a r.rc

/-- The high word of a pair is captured (R14). -/
def State.capture (s : State) (lo : Nat) (hi : Word) : State :=
  { s with pairCap := Sparse.set (fun _ => (none : Option Word)) s.pairCap lo (some hi) }

/-- The high word of a pair as a read returns it (R14). -/
def State.captured (s : State) (lo : Nat) (cur : Word) : Word :=
  (Sparse.get (fun _ => (none : Option Word)) s.pairCap lo).getD cur

/-- A read of a register (R11, R12, R14): RC fields clear, a low word captures its high word, WO fields read 0.
(DEDUCED: log entry 4) -/
def State.regRead (s : State) (r : RegSpec) (a : Nat) : State × Word :=
  let v := if r.half = 2 then s.captured (a - 4) (s.current a) else s.current a
  let s1 := if r.half = 1 then s.capture a (s.current (a + 4)) else s
  (s1.readClears r a, w32 (andNot v.toNat r.wo))

end Sys2Proof.Machine
end

