-- ==== Sys2Proof/Machine/RegUnits.lean ====
section
/-! DEFINITION. What a write does to the registers of each block beyond its fields' access types: strobes, ranges, refusals,
settings that a shadow or a boundary holds. A write of a high word of a pair is held before it comes here (R14). -/

namespace Sys2Proof.Machine

/-! ## Time (R62, R63) -/

/-- Codes of SRC that R49 defines for base `n`: 0 up to this one. -/
def srcMax (n : Nat) : Nat := nth [2, 1, 1, 2] n 0

/-- TIM_TBn_CTRL: an undefined source is refused and leaves its field unchanged; a locked register refuses it by R13. -/
def State.baseCtrl (s : State) (m : Master) (r : RegSpec) (n : Nat) (v : Word) : State :=
  let a := TIM_TB_CTRL n
  if fld v 2 0 ≤ srcMax n || s.lockHit r a v then (s.plainWrite m r a v).showF n
  else ((s.plainWrite m r a (putFld v 2 0 (s.src n))).showF n).ended 3

/-- The registers of base `n` (R41, R47, R48, R51, R63). A holdover limit is a duration: none above 2^46 ns is accepted. -/
def State.baseWrite (s : State) (m : Master) (r : RegSpec) (n : Fin 4) (a : Nat) (v : Word) : State :=
  match a % 0x100 with
  | 0x08 => s.baseCtrl m r n v
  | 0x10 =>
    if n.val = 1 ∧ s.booted then s.lockedRefuse a m
    else (resState (execTbLoad n m (BitVec.ofNat 64 (join64 v (s.heldHi a 0))) s) s).setHeld a none
  | 0x18 => resState (execTbAdj n m v s) s
  | 0x24 => (s.plainWrite m r a (w32 (min 200000 (fld v 17 0)))).showF n
  | 0x28 => s.plainWrite m r a (if fld v 19 16 = 0 then putFld v 19 16 1 else v)
  | 0x2C => s.plainWrite m r a (if n.val = 0 then w32 (min 1000 v.toNat) else if n.val = 1 then w32 (min 10000 v.toNat) else v)
  | 0x40 => if 2 ≤ n.val ∧ 70368 < v.toNat then s.rangeFault else s.plainWrite m r a v
  | _ => s.plainWrite m r a v

/-- TIM_SERVO_CTRL: the integrators named by RESET_I are set to 0. -/
def State.servoCtrl (s : State) (m : Master) (r : RegSpec) (v : Word) : State :=
  let s1 := s.plainWrite m r TIM_SERVO_CTRL v
  let s2 := forEach (fun s n => s.setTb n { s.tb n with integ := 0 }) (setBits (fld v 15 12) 4) s1
  forEach State.showF (upTo 0 4) s2

/-- TIM_GRID_ORIGIN (R44): a refusal keeps the high word held. -/
def State.originWrite (s : State) (m : Master) (v : Word) : State :=
  let hi := s.heldHi TIM_GRID_ORIGIN_LO (s.reg TIM_GRID_ORIGIN_HI)
  let t := resState (execGridOriginWrite m (BitVec.ofNat 64 (join64 v hi)) s) s
  if t.acc = 0 then t.setHeld TIM_GRID_ORIGIN_LO none else t

/-- TIM_COMP_CTRL (R46): COMP_ACTIVE shows whether the compensation is applied and not frozen. (DEDUCED: log entry 45) -/
def State.compCtrl (s : State) (m : Master) (r : RegSpec) (v : Word) : State :=
  let s1 := s.plainWrite m r TIM_COMP_CTRL v
  s1.setBit TIM_STATUS 3 (s1.bit TIM_COMP_CTRL 0 && !s1.flt.causes.any (fun c => c.1 == 0x010A))

/-- The Time registers. (DEDUCED: log entry 13) -/
def State.timWrite (s : State) (m : Master) (r : RegSpec) (a : Nat) (v : Word) : State :=
  if 0x31000100 ≤ a then s.baseWrite m r (Fin.ofNat 4 ((a - 0x31000100) / 0x100)) a v
  else if a = TIM_CTRL ∧ bit v 0 then resState (execDisarm m s) s
  else if a = TIM_CYCLE_CFG then resState (execTcycWrite m (BitVec.ofNat 2 v.toNat) s) s
  else if a = TIM_T_IN then s.timeWrite m false (fld v 16 0)
  else if a = TIM_T_OUT then s.timeWrite m true (fld v 16 0)
  else if a = TIM_GRID_ORIGIN_LO then s.originWrite m v
  else if a = TIM_SERVO_CTRL then s.servoCtrl m r v
  else if a = TIM_XSTAMP_CTRL then
    (if bit v 0 then (s.plainWrite m r a v).xstamp else s.plainWrite m r a v)
  else if a = TIM_COMP_CTRL then s.compCtrl m r v
  else if a = TIM_XCHK_LIMIT then
    s.plainIf m r a v (decide (500 ≤ fld v 15 0) && decide (fld v 15 0 ≤ 20000))
  else s.plainWrite m r a v

/-! ## Warp (R121, R122) -/

/-- WRP_CTRL: rings whose RING_EN bit changes are enabled or disabled (R98, R100); a changed AUTO_TIN bit takes a wrapped ring
under R111 or out of it. (DEDUCED: log entry 33) -/
def State.wrpCtrl (s : State) (m : Master) (r : RegSpec) (v : Word) : State :=
  let old := s.fld WRP_CTRL 3 0
  let auto := s.fld WRP_CTRL 7 4
  let s1 := s.plainWrite m r WRP_CTRL v
  let s2 := forEach State.ringOff (setBits (andNot old (fld v 3 0)) 4) s1
  let s3 := forEach State.ringOn (setBits (andNot (fld v 3 0) old) 4) s2
  if auto = fld v 7 4 then s3 else s3.judgeCut

/-- WRP_RINGn_CMD: READMIT, whose refusal refuses the write, and RESYNC. (DEDUCED: log entry 32) -/
def State.ringCmd (s : State) (m : Master) (r : RegSpec) (n : Fin 4) (v : Word) : State :=
  let a := WRP_RING_CMD n
  if bit v 1 then
    let t := resState (execReadmit n (Fin.ofNat 64 (fld v 15 10)) m s) s
    if t.acc = 0 && bit v 0 then t.resyncRing n else t
  else if bit v 0 then (s.plainWrite m r a v).resyncRing n
  else s.plainWrite m r a v

/-- A byte of which 0 is stored as 1 (R122). -/
def orOne (v : Word) (hi lo : Nat) : Word := if fld v hi lo = 0 then putFld v hi lo 1 else v

/-- The Warp registers. -/
def State.wrpWrite (s : State) (m : Master) (r : RegSpec) (a : Nat) (v : Word) : State :=
  let n : Fin 4 := Fin.ofNat 4 ((a - 0x30000100) / 0x100)
  if a = WRP_CTRL then s.wrpCtrl m r v
  else if a = WRP_RING_CMD n then s.ringCmd m r n v
  else if a = WRP_RING_SYNC_CFG n then s.plainWrite m r a (orOne (orOne v 15 8) 7 0)
  else if a = WRP_RING_LOSS n then
    (if 2 ≤ fld v 3 0 then s.plainWrite m r a v else s.wrpRefuse m n a v)
  else s.plainWrite m r a v

/-! ## Heddle (R152, R245) -/

/-- HDL_CTRL (R145, R149, R150): the write is judged whole, with the lock group it would set. (DEDUCED: log entry 13) -/
def State.hdlCtrl (s : State) (m : Master) (r : RegSpec) (e : Nat) (v : Word) : State :=
  let a := HDL_CTRL e
  let g := fld v 10 8
  let down := !bit v 0 && s.bit a 0
  let t := s.setFld a 10 8 g
  let up := bit v 0 && (t.group e).any (fun x => !s.bit (HDL_CTRL x) 0)
  let bad := (g != s.fld a 10 8 && (s.engRuns e || decide (4 < g)))
    || (up && !(t.group e).all (fun x => s.bit (HDL_STATUS x) 3))
    || (down && (t.group e).any s.engineFeeds) || (bit v 1 && s.engRuns e)
  if bad then s.hdlRefuse e a m
  else
    let s1 := s.plainWrite m r a v
    let s2 := if bit v 1 then s1.setEng e { s1.eng e with st := [] } else s1
    if up then (s2.engineArm e).groupRunJ e m State.engineArm
    else if down then (s2.engineHalt e).groupRunJ e m State.engineHalt
    else s2

/-- The swap cycle comes after the current one, within 2^30 (R140). -/
def State.swapCycOk (s : State) (e : Nat) : Bool :=
  let d := sext 32 ((s.reg (HDL_COEF_SWAP_CYC e)).toNat + 2 ^ 32 - s.k)
  decide (0 < d) && decide (d ≤ 2 ^ 30)

/-- HDL_COEF_CTRL (R140, R141): COPY, and one of the strobes. A mirrored write has been accepted by the active module.
(DEDUCED: log entry 13) -/
def State.coefCtrl (s : State) (m : Master) (r : RegSpec) (e : Nat) (v : Word) : State :=
  let a := HDL_COEF_CTRL e
  if s.mirrorBars m then s.mirrorRefuse a m
  else if m != .mirror && (decide (1 < popcount 3 (fld v 2 0)) || (bit v 1 && !s.swapCycOk e)) then s.hdlRefuse e a m
  else
    let s1 := s.plainWrite m r a v
    let s2 := if bit v 2 then s1.requestSwap e none
      else if bit v 1 then s1.requestSwap e (some (some (s1.reg (HDL_COEF_SWAP_CYC e)).toNat))
      else if bit v 0 then s1.requestSwap e (some none)
      else s1
    s2.mirror m a (v &&& 0xF)

/-- A register that is mirrored (R260) and has no other effect. -/
def State.mirrored (s : State) (m : Master) (r : RegSpec) (a : Nat) (v : Word) : State :=
  if s.mirrorBars m then s.mirrorRefuse a m else (s.plainWrite m r a v).mirror m a v

/-- A configuration register of the hand-over unit (R242, R245): only while it is idle, and in range.
(DEDUCED: log entry 17) -/
def State.hovWrite (s : State) (m : Master) (r : RegSpec) (e a : Nat) (v : Word) (ok : Bool) : State :=
  if s.mirrorBars m then s.mirrorRefuse a m
  else if m != .mirror && (s.hovPhase e != 0 || !ok) then s.hdlRefuse e a m
  else (s.plainWrite m r a v).mirror m a v

/-- HDL_HOV_CFG in range (R245). -/
def hovCfgOk (v : Word) : Bool :=
  fld v 31 16 != 0 && decide (2 ≤ fld v 15 8) && decide (fld v 3 0 ≤ fld v 15 8) && decide (2 ≤ fld v 3 0)

/-- HDL_HOV_CTRL: START, then ABORT. -/
def State.hovCtrl (s : State) (m : Master) (r : RegSpec) (e : Fin 8) (v : Word) : State :=
  if bit v 0 then
    let t := resState (execHovStart e m s) s
    if t.acc = 0 && bit v 1 then resState (execHovAbort e m t) t else t
  else if bit v 1 then resState (execHovAbort e m s) s
  else s.plainWrite m r (HDL_HOV_CTRL e) v

/-- The registers of relay unit `u` (R229, R245). (DEDUCED: log entry 17) -/
def State.relayWrite (s : State) (m : Master) (r : RegSpec) (e u a : Nat) (v : Word) : State :=
  if a = HDL_RLY_CTRL e u then
    let s1 := s.plainWrite m r a (orOne v 11 8)
    let s2 := if bit v 0 then s1.relayStart e u else s1
    if bit v 1 then s2.relayStop e u else s2
  else if a = HDL_RLY_TMO e u then
    (if fld v 31 16 < s.fld (HDL_RLY_CTRL e u) 11 8 then s.hdlRefuse e a m else s.plainWrite m r a (orOne v 15 0))
  else s.plainWrite m r a v

/-- HDL_SATMAPn: HDL_SAT.VALID clears with the last bit of the map. -/
def State.satmapWrite (s : State) (m : Master) (r : RegSpec) (e a : Nat) (v : Word) : State :=
  let s1 := s.plainWrite m r a v
  if (upTo 0 64).all (fun n => s1.reg (HDL_SATMAP e n) == 0) then s1.setBit (HDL_SAT e) 11 false else s1

/-- The registers of a Heddle engine. -/
def State.hdlWrite (s : State) (m : Master) (r : RegSpec) (a : Nat) (v : Word) : State :=
  let e : Fin 8 := Fin.ofNat 8 ((a - 0x20000000) / 0x40000)
  let o := (a - 0x20000000) % 0x40000 - 0x30000
  if o = 0 then s.hdlCtrl m r e v
  else if o = 0x08 then (if bit v 0 then (s.plainWrite m r a v).startCheck e else s.plainWrite m r a v)
  else if o = 0x20 then s.segEnWrite e m (fld v 15 0)
  else if 0x40 ≤ o ∧ o < 0x80 then s.segRangeWrite e m ((o - 0x40) / 4) v
  else if o = 0x80 then s.coefCtrl m r e v
  else if o = 0x84 then s.mirrored m r a v
  else if o = 0xA0 then s.imgCountWrite e m (fld v 10 0)
  else if 0x100 ≤ o ∧ o < 0x200 then s.satmapWrite m r e a v
  else if 0x2000 ≤ o ∧ o < 0x2740 then s.inMapWrite e m ((o - 0x2000) / 4) v
  else if o = 0x2800 then s.hovCtrl m r e v
  else if o = 0x2808 then s.hovWrite m r e a v (hovCfgOk v)
  else if 0x2804 ≤ o ∧ o ≤ 0x2814 then s.hovWrite m r e a v true
  else if 0x2900 ≤ o ∧ o < 0x2980 then s.relayWrite m r e ((o - 0x2900) / 0x20) a v
  else s.plainWrite m r a v

/-! ## Weaver (R187) -/

/-- The Weaver registers: what R187 governs goes to the shadow; a locked field is handled by R13. -/
def State.wvrRegWrite (s : State) (m : Master) (r : RegSpec) (a : Nat) (v : Word) : State :=
  let set := Nat.lor r.rw (Nat.lor r.rwl r.wo)
  if set = 0 then s.plainWrite m r a v
  else if s.lockHit r a v then s.lockedRefuse a m
  else s.wvrWrite m a (w32 (Nat.land v.toNat set))

/-! ## Capture (R235, R246) -/

/-- CAP_CTRL (R235): while armed or running only a STOP without ARM is accepted, and its other bits change nothing; codes 3 are
refused. -/
def State.capCtrl (s : State) (m : Master) (r : RegSpec) (v : Word) : State :=
  let a := CAP_CTRL
  if s.capBusy then (if bit v 2 && !bit v 0 then resState (execCapStop m s) s else s.capRefuse a m)
  else if fld v 9 8 = 3 || fld v 5 4 = 3 then s.capRefuse a m
  else
    let s1 := s.setReg a (s.written r a v)
    if bit v 0 && s1.capFar then s.rangeFault
    else
      let s2 := (s.plainWrite m r a v).capShow
      let s3 := if bit v 0 then s2.capStart else s2
      if bit v 2 then s3.capHalt else s3

/-- CAP_CFG (R246). -/
def State.capCfg (s : State) (m : Master) (r : RegSpec) (v : Word) : State :=
  if s.capBusy || fld v 4 0 = 0 || 16 < fld v 4 0 then s.capRefuse CAP_CFG m
  else (s.plainWrite m r CAP_CFG (orOne v 31 16)).capShow

/-- The Capture registers. -/
def State.capWrite (s : State) (m : Master) (r : RegSpec) (a : Nat) (v : Word) : State :=
  if a = CAP_CTRL then s.capCtrl m r v
  else if a = CAP_CFG then s.capCfg m r v
  else if a = CAP_POST then
    (if s.capBusy || s.capRows < fld v 18 0 then s.capRefuse a m else s.plainWrite m r a v)
  else if a = CAP_TRIG_LO then (if s.capBusy then s.capRefuse a m else s.pairWrite m a v)
  else if a = CAP_RELEASE then resState (execCapRelease m (BitVec.ofNat 2 v.toNat) s) s
  else if 0x26000100 ≤ a ∧ s.capBusy then s.capRefuse a m
  else s.plainWrite m r a v

/-! ## Graft (R272) -/

/-- The Graft registers. (DEDUCED: log entry 13) -/
def State.gftWrite (s : State) (m : Master) (r : RegSpec) (a : Nat) (v : Word) : State :=
  if a = GFT_CFG then s.plainIf m r a v (decide (100 ≤ fld v 31 16) && decide (fld v 31 16 ≤ 60000))
  else if a = GFT_REVERT then s.plainIf m r a v (decide (fld v 15 0 ≤ 3600))
  else if a = GFT_CMD then
    let s1 := if bit v 0 then resState (execGftHandoff m s) s else s
    let s2 := if bit v 1 then resState (execGftResync m s1) s1 else s1
    if fld v 1 0 = 0 then s.plainWrite m r a v else s2
  else if 0x32000040 ≤ a ∧ a < 0x32000060 then (if s.standby then s else s.setReg a v)
  else s.plainWrite m r a v

/-! ## Network (R394, R395) -/

/-- ETH_CTRL (R372, R375): a port whose bit is clear has its PHY powered down. -/
def State.ethCtrl (s : State) (m : Master) (r : RegSpec) (v : Word) : State :=
  (forEach State.linkLost (setBits (andNot (s.fld ETH_CTRL 3 0) (fld v 3 0)) 4) (s.plainWrite m r ETH_CTRL v)).showPtp

/-- The Network registers. (DEDUCED: log entry 13) -/
def State.ethWrite (s : State) (m : Master) (r : RegSpec) (a : Nat) (v : Word) : State :=
  if a = ETH_CTRL then s.ethCtrl m r v
  else if a = ETH_MGMT_CFG then
    s.plainIf m r a v (decide (10 ≤ fld v 27 16) && decide (fld v 27 16 ≤ 3600) && decide (1024 ≤ fld v 15 0))
  else if a = ETH_PRP_CFG then
    s.plainIf m r a v (decide (100 ≤ fld v 31 16) && decide (fld v 31 16 ≤ 2000) && decide (5 ≤ fld v 15 8)
      && decide (fld v 15 8 ≤ 100) && decide (2 ≤ fld v 7 0) && decide (fld v 7 0 ≤ 60))
  else if a = ETH_PTP_CFG then s.plainIf m r a v (fld v 18 16 != 4)
  else if r.base = ETH_PORT_CFG 0 then s.plainIf m r a v (fld v 1 0 != 0)
  else s.plainWrite m r a v

/-! ## CAN (R398, R399, R409) -/

/-- A nominal and a data bit timing that R399 accepts, in clocks of 80 MHz: at most 1 Mbit/s and 8 Mbit/s, the data rate not
below the nominal rate, and no SJW above its TSEG2. (DEDUCED: log entry 59) -/
def bitTimingOk (n d : Word) : Bool :=
  let tn := (fld n 4 0 + 1) * (3 + fld n 24 17 + fld n 16 10)
  let td := (fld d 4 0 + 1) * (3 + fld d 27 23 + fld d 22 19)
  decide (80 ≤ tn) && decide (10 ≤ td) && decide (td ≤ tn) && decide (fld n 31 25 ≤ fld n 16 10)
    && decide (fld d 31 28 ≤ fld d 22 19) && decide (1 ≤ fld n 24 17)

/-- Controller `c` is in Init. -/
def State.canInit (s : State) (c : Nat) : Bool := s.fld (CAN_STATUS c) 1 0 == 0

/-- CAN_CTRL: code 3 is refused, and a change of FDOE or BRSE outside Init. -/
def State.canCtrl (s : State) (m : Master) (r : RegSpec) (c : Nat) (v : Word) : State :=
  let a := CAN_CTRL c
  if fld v 1 0 = 3 || (fld v 7 6 != s.fld a 7 6 && !s.canInit c) then s.canRefuse c a (masterCode m)
  else
    let s1 := (s.plainWrite m r a v).canMode c (fld v 1 0)
    if bit v 3 then s1.canRecovers c else s1

/-- The CAN registers. -/
def State.canWrite (s : State) (m : Master) (r : RegSpec) (a : Nat) (v : Word) : State :=
  let c : Fin 2 := Fin.ofNat 2 ((a - 0x34000000) / 0x10000)
  let o := a % 0x10000
  let bad := s.canRefuse c a (masterCode m)
  if o = 0 then s.canCtrl m r c v
  else if o = 0x10 then (if s.canInit c && bitTimingOk v (s.reg (CAN_DBT c)) then s.plainWrite m r a v else bad)
  else if o = 0x14 then (if s.canInit c && bitTimingOk (s.reg (CAN_NBT c)) v then s.plainWrite m r a v else bad)
  else if o = 0x24 then (if fld v 1 0 = 3 then bad else s.plainWrite m r a v)
  else if o = 0x30 then resState (execCanTxreq c m v s) s
  else if o = 0x34 then resState (execCanTxcancel c m v s) s
  else if o = 0x54 ∨ o = 0x5C then resState (execCanRxqRel c (Fin.ofNat 2 ((o - 0x54) / 8)) m (BitVec.ofNat 7 v.toNat) s) s
  else if o = 0x64 then (if 10 ≤ fld v 31 16 ∧ fld v 31 16 ≤ 10000 then s.plainWrite m r a v else bad)
  else if 0x1000 ≤ o ∧ o < 0x1400 ∧ o % 8 = 0 ∧ fld v 31 30 = 3 then bad
  else s.plainWrite m r a v

/-! ## Faults, the journal and the seed (R322, R323, R428) -/

/-- The registers of the fault collector. (DEDUCED: log entry 51) -/
def State.fltWrite (s : State) (m : Master) (r : RegSpec) (a : Nat) (v : Word) : State :=
  if a = FLT_ACK then resState (execFltAck m (Fin.ofNat 64 (fld v 5 0)) s) s
  else if a = FLT_CLEAR then resState (execFltClear m (Fin.ofNat 64 (fld v 5 0)) s) s
  else if a = FLT_INJ then resState (execFltInj m v s) s
  else s.plainWrite m r a v

/-- The registers of the journal: the note words are not journaled as writes (R314). -/
def State.jnlWrite (s : State) (m : Master) (r : RegSpec) (a : Nat) (v : Word) : State :=
  if a = JNL_NOTE_TGT ∨ a = JNL_NOTE_OLD then s.setReg a v
  else if a = JNL_NOTE_NEW then resState (execJnlNote m v s) s
  else s.plainWrite m r a v

/-- The registers of the seed block: START, then STOP. -/
def State.sedWrite (s : State) (m : Master) (r : RegSpec) (a : Nat) (v : Word) : State :=
  if a = SED_RUN_CMD ∧ fld v 1 0 ≠ 0 then
    let s1 := if bit v 0 then resState (execRunCmdStart m s) s else s
    if bit v 1 then resState (execRunCmdStop m s1) s1 else s1
  else s.plainWrite m r a v

/-! ## Router and comparators (R342, R343) -/

/-- The router registers. A flag names an output word (R333). (DEDUCED: log entry 13) -/
def State.evrWrite (s : State) (m : Master) (r : RegSpec) (a : Nat) (v : Word) : State :=
  if a = EVR_SWTRIG_LO then resState (execEvrSwtrig m false v s) s
  else if a = EVR_SWTRIG_HI then resState (execEvrSwtrig m true v s) s
  else if a = EVR_GDIS_REL then resState (execEvrGdisRel m (BitVec.ofNat 4 v.toNat) s) s
  else if a = EVR_UNMASK then resState (execEvrUnmask m (Fin.ofNat 256 v.toNat) s) s
  else if r.base = EVR_FLAG 0 then
    if fld v 12 0 < 7168 then s.evrRefuse m a
    else
      let s1 := s.plainWrite m r a v
      if bit v 31 then s1 else s1.level (120 + (a - EVR_FLAG 0) / 4) false
  else if r.base = EVR_SRC_DST_LO 0 then s.pairWrite m a v
  else s.plainWrite m r a v

/-- The comparator registers. -/
def State.cmpWrite (s : State) (m : Master) (r : RegSpec) (a : Nat) (v : Word) : State :=
  if a = CMP_LATCH_HOT then resState (execCmpLatchClear m false v s) s
  else if a = CMP_LATCH_COLD then resState (execCmpLatchClear m true v s) s
  else if r.base = CMP_C_CFG 0 then resState (execCmpCfgWrite (Fin.ofNat 64 ((a - CMP_C_CFG 0) / 8)) m v s) s
  else if r.base = CMP_C_THR 0 then resState (execCmpThresholdWrite (Fin.ofNat 64 ((a - CMP_C_THR 0) / 8)) m false v s) s
  else if r.base = CMP_DAC 0 then resState (execCmpThresholdWrite (Fin.ofNat 64 ((a - CMP_DAC 0) / 4)) m true v s) s
  else s.plainWrite m r a v

/-! ## Gate drive and Sap mailbox (R369, R370) -/

/-- Times of leg `n` in range (R369). -/
def legDtOk (v : Word) : Bool :=
  decide (20 ≤ fld v 31 16) && decide (fld v 31 16 ≤ 2000) && decide (20 ≤ fld v 15 8) && decide (fld v 15 8 ≤ 200)
    && decide (5 ≤ fld v 7 0) && decide (fld v 7 0 ≤ 200)

@[inherit_doc legDtOk] def legProtOk (v : Word) : Bool :=
  decide (50 ≤ fld v 24 16) && decide (fld v 24 16 ≤ 400) && decide (20 ≤ fld v 8 0) && decide (fld v 8 0 ≤ 300)

/-- The gate drive registers: the times of a leg only while its group is disabled (R354). -/
def State.gdrWrite (s : State) (m : Master) (r : RegSpec) (a : Nat) (v : Word) : State :=
  if a = GDR_CTRL then resState (execGrpEnWrite m (BitVec.ofNat 4 v.toNat) s) s
  else if a = GDR_REL then resState (execGdrRel m (BitVec.ofNat 4 v.toNat) s) s
  else if a = GDR_RPTONLY then resState (execRptonlyWrite m (BitVec.ofNat 4 v.toNat) s) s
  else if 0x45000040 ≤ a ∧ a < 0x45000080 then
    let leg := (a - 0x45000040) / 8
    let ok := if a % 8 = 0 then legDtOk v else legProtOk v
    (if ok && !s.bit GDR_CTRL (leg / 2) then s.plainWrite m r a v else s.gdrRefuse m a v)
  else s.plainWrite m r a v

/-- The commands of SAP_CMD in rising order of their bits: START of stage b/2 for an even bit, STOP for an odd one. -/
def State.sapCmd (s : State) (m : Master) (v : Word) : State :=
  forEach (fun s b =>
    let st : Fin 5 := Fin.ofNat 5 (b / 2)
    if b % 2 = 0 then resState (execSapStart m st s) s else resState (execSapStop m st s) s) (setBits (fld v 9 0) 10) s

/-- The Sap mailbox: a setting out of range is refused; a new power limit ends a halving (R350). -/
def State.sapWrite (s : State) (m : Master) (r : RegSpec) (a : Nat) (v : Word) : State :=
  let x := fld v 15 0
  if a = SAP_CMD then (if fld v 9 0 = 0 then s.plainWrite m r a v else s.sapCmd m v)
  else if a = SAP_PFC_VBUS then (if 3500 ≤ x ∧ x ≤ 4300 then s.plainWrite m r a v else s.sapRefuse m a v)
  else if a = SAP_PFC_FREQ then (if 20 ≤ x ∧ x ≤ 150 then s.plainWrite m r a v else s.sapRefuse m a v)
  else if r.base = SAP_LOOP_PLIM 0 then
    (if x ≤ 1200 then
      let s1 := s.plainWrite m r a v
      { s1 with sap := { s1.sap with halved := bvPut s1.sap.halved ((a - SAP_LOOP_PLIM 0) / 16) false } }
     else s.sapRefuse m a v)
  else if r.base = SAP_LOOP_FREQ 0 then
    (if 40 ≤ fld v 7 0 ∧ fld v 7 0 ≤ fld v 15 8 ∧ fld v 15 8 ≤ 100 then s.plainWrite m r a v else s.sapRefuse m a v)
  else s.plainWrite m r a v

/-! ## Thermal (R445) -/

/-- The thermal registers. (DEDUCED: log entry 13) -/
def State.thmWrite (s : State) (m : Master) (r : RegSpec) (a : Nat) (v : Word) : State :=
  if a = THM_CTRL then s.plainIf m r a v (fld v 15 0 != 0)
  else if a = THM_CFG then s.plainIf m r a v (decide (100 ≤ fld v 15 0) && decide (fld v 15 0 ≤ 10000))
  else s.plainWrite m r a v

/-! ## Any register -/

/-- A write of a register by its block. -/
def State.unitWrite (s : State) (m : Master) (r : RegSpec) (a : Nat) (v : Word) : State :=
  match a / 0x1000000 with
  | 0x20 => s.hdlWrite m r a v
  | 0x24 => s.wvrRegWrite m r a v
  | 0x26 => s.capWrite m r a v
  | 0x30 => s.wrpWrite m r a v
  | 0x31 => s.timWrite m r a v
  | 0x32 => s.gftWrite m r a v
  | 0x33 => s.ethWrite m r a v
  | 0x34 => s.canWrite m r a v
  | 0x41 => s.fltWrite m r a v
  | 0x42 => s.jnlWrite m r a v
  | 0x43 => s.evrWrite m r a v
  | 0x44 => s.cmpWrite m r a v
  | 0x45 => s.gdrWrite m r a v
  | 0x46 => s.sapWrite m r a v
  | 0x47 => s.thmWrite m r a v
  | 0x48 => s.sedWrite m r a v
  | _ => s.plainWrite m r a v

/-- A write of the register at `a` (R11, R14). (DEDUCED: log entry 4) -/
def State.regWrite (s : State) (m : Master) (r : RegSpec) (a : Nat) (v : Word) : State :=
  if r.half = 2 then (if a = CAP_TRIG_HI && s.capBusy then s.capRefuse a m else s.holdHigh m r a v)
  else if r.half = 1 && r.w1c != 0 then s.pairClear a v
  else s.unitWrite m r a v

end Sys2Proof.Machine
end

