-- ==== Sys2Proof/Machine/Bus.lean ====
section
/-! DEFINITION. The address map of R36 and what a read or a write of the fabric does at an address (R7, R10, R14, R124,
R126, R310): Crown SRAM by bytes, the memory arrays and the registers by words. -/

namespace Sys2Proof.Machine

/-- What lies at an address. -/
inductive Place where
  | rom
  | crown
  | pick (e i : Nat) (hi : Bool)
  | signal (e w : Nat)
  | coef (e bank c : Nat)
  | hstate (e i : Nat) (hi : Bool)
  | draft (i w : Nat)
  | capture (w : Nat)
  | rxSlot
  | txBuf (c b w : Nat)
  | entry (i w : Nat)
  | buffer
  | reg (r : RegSpec)
  | nothing
  deriving DecidableEq, Repr

/-- A register, a buffer of R37, or an offset at which nothing is defined. (DESIGN CHOICE: log entry 10) -/
def regPlace (a : Nat) : Place :=
  match regAt a with
  | some r => .reg r
  | none => if inBuffer a then .buffer else .nothing

/-- The window of a Heddle engine. -/
def hdlPlace (a : Nat) : Place :=
  let e := (a - 0x20000000) / 0x40000
  let o := (a - 0x20000000) % 0x40000
  if o < 0x4000 then .pick e (o / 8) (decide (o % 8 = 4))
  else if 0x10000 ≤ o ∧ o < 0x18000 then .signal e ((o - 0x10000) / 4)
  else if 0x20000 ≤ o ∧ o < 0x24000 then .coef e ((o - 0x20000) / 0x2000) ((o - 0x20000) % 0x2000 / 4)
  else if 0x28000 ≤ o ∧ o < 0x2A000 then .hstate e ((o - 0x28000) / 8) (decide (o % 8 = 4))
  else regPlace a

/-- The window of a CAN controller (R410). -/
def canPlace (a : Nat) : Place :=
  let c := (a - 0x34000000) / 0x10000
  let o := (a - 0x34000000) % 0x10000
  if 2 ≤ c then .nothing
  else if 0x4000 ≤ o ∧ o < 0x7000 then .rxSlot
  else if 0x7000 ≤ o ∧ o < 0x7C00 then .txBuf c ((o - 0x7000) / 0x60) ((o - 0x7000) % 0x60 / 4)
  else regPlace a

/-- The address map (R36, R37). (DESIGN CHOICE: log entry 10) -/
def mapPlace (a : Nat) : Place :=
  if a < 0x10000000 then (if a < 0x10000 then .rom else .nothing)
  else if a < 0x20000000 then (if a < 0x10400000 then .crown else .nothing)
  else if a < 0x20200000 then hdlPlace a
  else if 0x24100000 ≤ a ∧ a < 0x24140000 then .draft ((a - 0x24100000) / 16) ((a - 0x24100000) % 16 / 4)
  else if 0x26100000 ≤ a ∧ a < 0x26200000 then .capture ((a - 0x26100000) / 4)
  else if 0x34000000 ≤ a ∧ a < 0x35000000 then canPlace a
  else if 0x42010000 ≤ a ∧ a < 0x42050000 then .entry ((a - 0x42010000) / 32) ((a - 0x42010000) % 32 / 4)
  else regPlace a

/-- R7 allows the access: words aligned to 4; bytes and halfwords, each aligned to its size, in the boot ROM and Crown SRAM.
(DESIGN CHOICE: log entry 9) -/
def accessOk (a : Nat) (width : BitVec 2) : Bool :=
  width != 3 && a % 2 ^ width.toNat == 0 && (width == 2 || decide (a < 0x20000000))

/-! ## Crown SRAM -/

/-- What a byte of Crown SRAM that nothing has written reads as. (DESIGN CHOICE: log entry 11) -/
abbrev crownFill : Nat → Byte := fun _ => 0

/-- The canonical form of Crown SRAM: addresses strictly rising, no byte listed that an unlisted address reads as. -/
def Memory.wf (m : List Host.Cell) : Bool := Sparse.wf crownFill m

/-- A byte of Crown SRAM. (DESIGN CHOICE: log entry 11) -/
def State.byteAt (s : State) (a : Nat) : Byte := Sparse.get crownFill s.crown a

/-- Bytes are written to Crown SRAM from an address on. -/
def State.setBytes (s : State) (a : Nat) (bs : List Byte) : State :=
  { s with crown := Sparse.setList crownFill s.crown a bs }

/-- The bytes of an access, from the lowest address on (R7: little-endian). -/
def State.bytesAt (s : State) (a n : Nat) : List Byte := (upTo a n).map s.byteAt

/-- The first address of the word that holds an address. -/
def wordBase (a : Nat) : Nat := a / 4 * 4

/-- A write to Crown SRAM; a whole word clears its poison (R310). (DESIGN CHOICE: log entry 11) -/
def State.crownWrite (s : State) (a : Nat) (width : BitVec 2) (v : Word) : State :=
  let t := s.setBytes a (natLe (2 ^ width.toNat) v.toNat)
  if width = 2 then t.rewritten a else t

/-! ## Words -/

/-- The words of a Draft entry (R191). -/
def entryWords (e : Entry) : List Word := [lo32 e.time.toNat, hi32 e.time.toNat, lo32 e.ctrl.toNat, hi32 e.ctrl.toNat]

/-- The two words of a committed state (R124): the high word is the sign extension of its bits [47:32]. -/
def stateWords (x : BitVec 48) : Word × Word := (lo32 x.toNat, wordOfInt (sext 16 (x.toNat / 2 ^ 32)))

/-- The halves of a 64-bit memory word, read as R14 says. -/
def State.pairRead (s : State) (lo : Nat) (hi : Bool) (w : Word × Word) : State × Word :=
  if hi then (s, s.captured lo w.2) else (s.capture lo w.2, w.1)

/-- What a read of a place returns, and what it changes. What stands in a frame buffer is not given: a free value.
(DESIGN CHOICE: log entries 7 and 10) -/
def State.placeRead (s : State) (a : Nat) (width : BitVec 2) : Place → State × Word
  | .rom => (s, w32 (leNat ((upTo a (2 ^ width.toNat)).map Config.bootRom)))
  | .crown => (s, w32 (leNat (s.bytesAt a (2 ^ width.toNat))))
  | .pick e i hi =>
    let x := patGet (s.eng e) i
    s.pairRead (pickAddr e i) hi (lo32 x, hi32 x)
  | .signal e w => (s, sigRead (s.eng e) w)
  | .coef e bank c => (s, coefBank (s.eng e) bank c)
  | .hstate e i hi => s.pairRead (stateAddr e i) hi (stateWords (stGet (s.eng e) i))
  | .draft i w => (s, nth (entryWords (Sparse.get (fun _ => Entry.zero) s.wvr.banks i)) w 0)
  | .capture w => (s, Sparse.get (fun _ => 0) s.cap.buf w)
  | .rxSlot => (s, s.cw a)
  | .txBuf _ _ _ => (s, s.cw a)
  | .entry i w => (s, nth (jWords (Sparse.get (fun _ => JEntry.none) s.jnl.ring i)) w 0)
  | .buffer => (s.tickFree, Config.freeWord s.freeCtr)
  | .reg r => s.regRead r a
  | .nothing => (s, 0)

/-- A master may reach the place: FLT_INJ is an undefined offset but in factory test mode (R312). -/
def State.reaches (s : State) (m : Master) (a : Nat) (p : Place) : Bool :=
  p != .nothing && (a != FLT_INJ || s.injAllowed m)

/-- A read on the fabric, and the value it returns; 0 where it is not carried out. (DESIGN CHOICE: log entry 9) -/
def State.busRead (s0 : State) (m : Master) (a : Nat) (width : BitVec 2) : State × Word :=
  let s : State := { s0 with acc := 0 }
  let p := mapPlace a
  if !accessOk a width || !s.reaches m a p then (s.busErr a m 0 width, 0)
  else
    let r := s.placeRead a width p
    if s.poisoned (wordBase a) then ((r.1.eccFound (wordBase a) (masterCode m).toNat 0 width).busErr a m 0 width, r.2) else r

/-- What a write of a place changes. (DESIGN CHOICE: log entry 10) -/
def State.placeWrite (s : State) (m : Master) (a : Nat) (width : BitVec 2) (v : Word) : Place → State
  | .rom => s.busErr a m 1 width
  | .crown => s.crownWrite a width v
  | .pick e i hi => if hi then s.setHeld (pickAddr e i) (some v) else s.patternWrite e m i v
  | .signal e w => s.signalWrite e m w v
  | .coef e bank c => s.coefWrite e m bank c v
  | .hstate e i hi => if hi then s.setHeld (stateAddr e i) (some v) else s.stateWrite e m i v
  | .draft _ _ => (s.orReg WVR_EVENTS 0x20).refuse 0x0408 31 a m
  | .capture _ => s.capRefuse a m
  | .rxSlot => s
  | .txBuf c b w => resState (execCanTxBufferWrite (Fin.ofNat 2 c) m (Fin.ofNat 32 b) (Fin.ofNat 24 w) v s) s
  | .entry _ _ => s
  | .buffer => s.rewritten a
  | .reg r => if a / 0x1000000 = 0x40 then s.busErr a m 1 width else s.regWrite m r a v
  | .nothing => s

/-- A write on the fabric. (DESIGN CHOICE: log entry 10) -/
def State.busWrite (s0 : State) (m : Master) (a : Nat) (width : BitVec 2) (v : Word) : State :=
  let s : State := { s0 with acc := 0 }
  let p := mapPlace a
  if !accessOk a width || !s.reaches m a p then s.busErr a m 1 width else s.placeWrite m a width v p

end Sys2Proof.Machine
end

