-- ==== Sys2Proof/Machine/Access.lean ====
section
/-! DEFINITION. Accesses on the fabric as commands (R7 to R14), the mirror frames that a standby applies (R260), and the sections
of the seed image as they are applied (R415, R419, R420). -/

namespace Sys2Proof.Machine

/-! ## Single accesses -/

/-- REGISTER_WRITE (R7, R11, R13, R36). -/
def execRegisterWrite (m : Master) (addr : Word) (width : BitVec 2) (v : Word) (s : State) : Res :=
  (s.busWrite m addr.toNat width v).done

/-- REGISTER_READ (R7, R11, R12, R14, R36): `rdata` is the value that is returned. (DESIGN CHOICE: log entry 9) -/
def execRegisterRead (m : Master) (addr : Word) (width : BitVec 2) (s : State) : Res :=
  let r := s.busRead m addr.toNat width
  ({ r.1 with rdata := r.2 } : State).done

/-- The word at an address as it stands, without the effects of a read. -/
def State.peek (s : State) (a : Nat) : Word := (({ s with pairCap := [] } : State).placeRead a 2 (mapPlace a)).2

/-! ## Words in a row -/

/-- The low word of a 64-bit quantity lies at the address (R14, R124). -/
def pairLo (a : Nat) : Bool :=
  a % 4 == 0 && match mapPlace a with
  | .pick _ _ hi => !hi
  | .hstate _ _ hi => !hi
  | .reg r => r.half == 1
  | _ => false

/-- Consecutive words are written in rising address order up to the first that fails; the count is of those that took effect, and
`acc` says how it ended. `bars` gives the status of an address that may not be written. The two words of a 64-bit quantity are
taken as one pair (R14, R390). (DEDUCED: log entry 12) -/
def State.writeRun (m : Master) (bars : Nat → Nat) : Nat → List Word → State → State × Nat
  | _, [], s => ({ s with acc := 0 }, 0)
  | a, [w], s =>
    if bars a ≠ 0 then (s.ended (bars a), 0)
    else
      let t := s.busWrite m a 2 w
      (t, if t.acc = 0 then 1 else 0)
  | a, w :: h :: ws, s =>
    if bars a ≠ 0 then (s.ended (bars a), 0)
    else if pairLo a && bars (a + 4) == 0 then
      let t := s.busWrite m (a + 4) 2 h
      if t.acc ≠ 0 then (t, 0)
      else
        let u := t.busWrite m a 2 w
        if u.acc ≠ 0 then (u, 0)
        else
          let r := writeRun m bars (a + 8) ws u
          (r.1, r.2 + 2)
    else
      let t := s.busWrite m a 2 w
      if t.acc ≠ 0 then (t, 0)
      else
        let r := writeRun m bars (a + 4) (h :: ws) t
        (r.1, r.2 + 1)

/-! ## The Graft mirror -/

/-- The writes of a MIRROR frame are applied in order, each at its address. (DEDUCED: log entry 34) -/
def State.applyMirror (s : State) (writes : List (Word × Word)) : State :=
  forEach (fun s w => s.busWrite .mirror w.1.toNat 2 w.2) writes s

/-- GRAFT_MIRROR_RECEIVE (R260, R261): on a standby, the frame that follows the last one applied, or the first after a gap. -/
def execGraftMirrorReceive (line : GraftLine) (mseq : Word) (writes : List (Word × Word)) (s : State) : Res :=
  let n := writes.length
  (if !s.duplex then s.graftEarly
  else if s.standby && mirrorOk ⟨line, mseq, writes⟩ && decide (1 ≤ n) && decide (n ≤ 64) && (s.gft.gapQ || mseq == s.reg GFT_MSEQ + 1) then
    let t := (s.applyMirror writes).setReg GFT_MSEQ (mseq + w32 (n - 1))
    ({ t with gft := { t.gft with gapQ := false } } : State).ended 0
  else s).done

/-! ## CONFIG_ID -/

/-- The code of T_cyc that holds from the next boundary. -/
def State.tcycNext (s : State) : Nat :=
  match s.tim.tcyc with
  | some (v, _) => v
  | none => s.fld TIM_CYCLE_CFG 1 0

/-- CONFIG_ID is computed (R256): ring maps, T_cyc, and per engine LOCK_GRP, HDL_IMG.COUNT and the hand-over settings.
(DESIGN CHOICE: log entry 36) -/
def State.showConfigId (s : State) : State :=
  let eng := fun e => [s.fld (HDL_CTRL e) 10 8, s.fld (HDL_IMG e) 10 0, (s.reg (HDL_HOV_SEGS e)).toNat, (s.reg (HDL_HOV_CFG e)).toNat,
    (s.reg (HDL_HOV_LIM e)).toNat, (s.reg (HDL_HOV_GAP e)).toNat, (s.reg (HDL_HOV_XFD e)).toNat]
  s.setReg GFT_CONFIG_ID (Config.configId s.maps (s.tcycNext :: (upTo 0 8).flatMap eng))

/-! ## Loading -/

/-- The windows of a section (R415). -/
def inSection (sec a : Nat) : Bool :=
  let w := a / 0x1000000
  match sec with
  | 1 => w == 0x44 || w == 0x43 || w == 0x47
  | 2 => decide (0x10000000 ≤ a) && decide (a < 0x10400000)
  | 3 => decide (0x20000000 ≤ a) && decide (a < 0x20200000)
  | 4 => w == 0x24
  | 5 => w == 0x30 || w == 0x31
  | 6 => w == 0x31 || w == 0x32 || w == 0x33
  | 7 => w == 0x34
  | _ => false

/-- The store that an address belongs to: a memory or the registers of an engine, a CAN controller, else a window. -/
def storeOf (a : Nat) : Nat :=
  if 0x20000000 ≤ a ∧ a < 0x20200000 then
    let o := (a - 0x20000000) % 0x40000
    let part := if o < 0x10000 then 0 else if o < 0x20000 then 1 else if o < 0x22000 then 2 else if o < 0x28000 then 3
      else if o < 0x30000 then 4 else 5
    0x100 + (a - 0x20000000) / 0x40000 * 8 + part
  else if 0x34000000 ≤ a ∧ a < 0x35000000 then 0x200 + (a - 0x34000000) / 0x10000
  else a / 0x1000000

/-- Records are written until one fails; `true` where none did. (DEDUCED: log entry 12) -/
def State.loadRecs (sec : Nat) (inside : Nat → Bool) : List SeedRecord → State → State × Bool
  | [], s => (s, true)
  | r :: rs, s =>
    let t := State.writeRun (.loader (Fin.ofNat 16 sec)) (fun a => if inside a then 0 else 3) r.addr r.words s
    if t.1.acc = 0 then loadRecs sec inside rs t.1 else (t.1, false)

/-- The addresses that records write. -/
def recAddrs (recs : List SeedRecord) : List Nat :=
  recs.flatMap (fun r => (upTo 0 r.words.length).map (fun i => r.addr + 4 * i))

/-- The members of a list, each once. -/
def distinct : List Nat → List Nat
  | [] => []
  | x :: xs => x :: (distinct xs).filter (fun y => y != x)

/-- A BLOCK entry for a section and store (R314, R315): the lowest address, the words loaded, and their CRC as read back. -/
def State.jBlock (s : State) (sec : Nat) (addrs : List Nat) : State :=
  let bytes := addrs.flatMap (fun a => natLe 4 (s.peek a).toNat)
  s.jAppend (0x5000 + sec) 0x02 false (addrs.foldl min (nth addrs 0 0)) (w32 addrs.length) (w32 (crc32c bytes)) false

/-- The BLOCK entries of what a section has loaded. (DEDUCED: log entry 15) -/
def State.jBlocks (s : State) (sec : Nat) (addrs : List Nat) : State :=
  forEach (fun s k => s.jBlock sec (addrs.filter (fun a => storeOf a == k))) (distinct (addrs.map storeOf)) s

/-- A store that no window of the map shows has its BLOCK entry with free words: it has no Crown address.
(DESIGN CHOICE: log entry 7; DEDUCED: log entry 15) -/
def State.jBlockFree (s : State) (sec : Nat) : State :=
  let w := fun i => Config.freeWord (s.freeCtr + i)
  (((s.jAppend (0x5000 + sec) 0x02 false (w 0).toNat (w 1) (w 2) false).tickFree).tickFree).tickFree

/-- A section whose second hash does not agree (R420): the safe start-up state with a reason. (DEDUCED: log entry 55) -/
def State.sectionBad (s : State) (reason : Nat) : State := (s.raise 0x0B03 31).safeStart reason

/-- A section whose content makes its image invalid (R18, R415): the start from the other bank where bank PENDING is in use and ACTIVE is
valid, else the safe start-up state (R420). (DEDUCED: log entry 55) -/
def State.contentBad (s : State) : State :=
  match s.seed.other with
  | some h => s.fallBack (!s.seed.active) h 6
  | none => s.sectionBad 6

/-- The Sap engine and the gate drive take their start-up values (R345, R368, R419), and the automatic start follows.
(DEDUCED: log entry 46) -/
def State.sapStart (s : State) (b : SapBlock) : State :=
  let s1 := forEach (fun s p => s.setReg (SAP_SCALE p.1) p.2) (numbered (b.scales.take 12)) s
  let s2 : State := { s1 with sap := { s1.sap with mainsMin := b.mainsLoss.toNat, minBus := b.minBus.toNat } }
  let s3 := ((s2.setFld SAP_STATUS 2 0 3).setBit SAP_STATUS 7 true).sapFlag 7 true
  let s4 := forEach (fun s leg => if halfBridge leg then s.setBit GDR_STATUS (17 + (leg - 2)) false else s)
    ((setBits b.grpEn.toNat 4).flatMap (fun g => upTo (2 * g) 2)) (s3.setFld GDR_CTRL 3 0 b.grpEn.toNat)
  forEach (fun s st =>
      if !nbit b.autoStart.toNat (2 * st) then s
      else if s.startBad st then s.sapRefuse (.loader 1) SAP_CMD (w32 (2 ^ (2 * st)))
      else s.stageStart st) (upTo 0 5) s4.gdrShow

/-- What a section's application loads as register records, with the windows they may name. -/
def sectionRecs : SectionData → Nat × List SeedRecord
  | .bootSet _ r => (1, r)
  | .firmware r => (2, r)
  | .heddle r => (3, r)
  | .weaver r => (4, r)
  | .ringMaps _ r => (5, r)
  | .network r => (6, r)
  | .can r => (7, r)
  | .safety => (8, [])
  | .roleKeys _ => (9, [])
  | .journalRegion _ => (10, [])

/-- What comes before a section's records: the settings of the Sap parameter block, and the ring maps (R18, R28). -/
def State.beforeRecs (s : State) : SectionData → State × Bool
  | .bootSet sap _ => State.loadRecs 1 (fun a => a / 0x1000000 == 0x46) sap.settings s
  | .ringMaps maps _ =>
    (forEach (fun s p => s.setRing p.1 { s.ring p.1 with map := p.2 }) (numbered (maps.take 4)) s, true)
  | _ => (s, true)

/-- A CAN controller with its section loaded (R398, R419): listen-only, filters loaded. A section that has set MODE to listen-only
itself keeps it so. (DEDUCED: log entry 55) -/
def State.canLoaded (s : State) (c : Nat) : State :=
  let keep := s.fld (CAN_CTRL c) 1 0 == 1
  let s1 := (s.putJ originSeed (CAN_CTRL c) (putBit (putFld (s.reg (CAN_CTRL c)) 1 0 1) 5 true)).canMode c 1
  { s1 with seed := { s1.seed with canKeep := bvPut s1.seed.canKeep c keep } }

/-- What follows a section's records. -/
def State.afterRecs (s : State) : SectionData → State
  | .bootSet sap _ => (s.sapStart sap).setPhase 2
  | .firmware _ => ({ s with seed := { s.seed with firmware := true } } : State).stageUp
  | .heddle _ => s.showConfigId
  | .ringMaps _ _ => s.showConfigId
  | .network _ => { s with seed := { s.seed with netUp := true } }
  | .can _ => (s.canLoaded 0).canLoaded 1
  | .roleKeys v => { s with seed := { s.seed with keysNew := v } }
  | .journalRegion _ => s.journalStart
  | _ => s

/-- Addresses of a section that carry no record of their own: the scale words and group enables of the Sap parameter block.
(DEDUCED: log entry 46) -/
def sapAddrs (b : SapBlock) : List Nat :=
  recAddrs b.settings ++ ((upTo 0 12).map SAP_SCALE).take b.scales.length ++ [GDR_CTRL]

/-- The addresses that a section loads. -/
def sectionAddrs (d : SectionData) : List Nat :=
  (match d with
   | .bootSet sap _ => sapAddrs sap
   | _ => []) ++ recAddrs (sectionRecs d).2

/-- A section whose hash agrees takes effect (R415, R418, R419). -/
def State.applySection (s : State) (d : SectionData) : State :=
  let sec := (sectionRecs d).1
  let b := s.beforeRecs d
  let r := State.loadRecs sec (inSection sec) (sectionRecs d).2 b.1
  let ok := match d with
    | .ringMaps maps _ => ringMapsOk r.1.tcycNext maps
    | .journalRegion blocks => blocks == s.seed.jblocks
    | _ => true
  if !(b.2 && r.2 && ok) then r.1.contentBad
  else
    let u := (r.1.afterRecs d).jBlocks sec (sectionAddrs d)
    let t := if sec = 5 ∨ 8 ≤ sec then u.jBlockFree sec else u
    if sec = 1 then t else t.setPhase 3

/-- SEED_SECTION_APPLY (R420): a section is hashed a second time and takes effect only if the hash agrees.
(DEDUCED: log entry 55) -/
def execSeedSectionApply (hashOk : Bool) (data : SectionData) (s : State) : Res :=
  (if !s.booting then s else if !hashOk then s.sectionBad 5 else s.applySection data).done

end Sys2Proof.Machine
end

