-- ==== Sys2Proof/Machine/Mgmt.lean ====
section
/-! DEFINITION. The management handler (R385 to R392): sessions, READ and WRITE by role, the other operations, the replacement of
the safety block (R299), and the seed update (R426). -/

namespace Sys2Proof.Machine

/-! ## Requests and replies -/

/-- A frame that fails authentication (R386, R387). -/
def State.authFail (s : State) (port : Nat) : State := (s.count ETH_MGMT_CNT 31 16 1).raiseSec 0x0903 port

/-- Fault 0x0904 of a request refused for role or state (R389, R393). (DEDUCED: log entry 50) -/
def State.roleFault (s : State) (port : Nat) : State := (s.orReg ETH_EVENTS 8).raise 0x0904 port

/-- A BUSY reply (R391). (DEDUCED: log entry 50) -/
def State.busyReply (s : State) (op session seq : Nat) : State :=
  (s.count ETH_MGMT_CNT2 15 0 1).prpSend (fun i _ => .mgmtBusy i (128 + op) session seq)

/-- The reply to a request is sent and cached (R387). Requests refused for role or state are counted. -/
def State.answer (s : State) (h : MgmtHdr) (op status : Nat) (data : List Word) : State :=
  let r : MgmtReply := { op := 128 + op, seq := h.seq.toNat, status := status, data := data }
  let s1 := match s.sess h.session with
    | some x => s.setSess h.session (some { x with reply := some r })
    | none => s
  let s2 := if status = 2 ∨ status = 3 then s1.count ETH_MGMT_CNT 15 0 1 else s1
  s2.prpSend (fun i _ => .mgmtReply i h.session r)

/-- An operation refused for state (R388). -/
def State.answerState (s : State) (h : MgmtHdr) (op : Nat) : State := (s.roleFault h.port).answer h op 3 []

/-- The reply of an operation that has completed in the background (R388, R390), where its session is still open. -/
def State.lateAnswer (s : State) (h : MgmtHdr) (op status : Nat) : State :=
  match s.sess h.session with
  | none => s
  | some x =>
    if x.high ≠ h.seq.toNat then s
    else if status = 3 then s.answerState h op
    else s.answer h op status []

/-- The master of a session's accesses (R309, R315). -/
def sessMaster (n : Nat) (x : Session) : Master := .host (Fin.ofNat 4 x.port) (Fin.ofNat 5 x.role) (Fin.ofNat 128 n)

/-- The origin of a session's operations (R315). -/
def sessOrigin (n : Nat) (x : Session) : Nat := 0x2000 + sessIdent n x

/-- A request in a session (R387, R391): busy in stage 2; discarded where the session is not open, the tag is wrong or SEQ is below
H; answered again at H; else accepted, and refused below its least role. (DEDUCED: log entry 50) -/
def State.request (s : State) (h : MgmtHdr) (op least : Nat) (run : Session → State → State) : State :=
  let q := h.seq.toNat
  if s.stage < 2 then s
  else if s.stage = 2 then s.busyReply op h.session q
  else match s.sess h.session with
    | none => s.authFail h.port
    | some x =>
      if !h.tagOk || decide (q < x.high) || q == 0 then s.authFail h.port
      else if q = x.high then
        match x.reply with
        | some r => (s.count ETH_MGMT_CNT2 31 16 1).prpSend (fun i _ => .mgmtReply i h.session r)
        | none => s.prpSend (fun i _ => .mgmtReply i h.session { op := 128 + op, seq := q, status := 1, data := [] })
      else
        let y := { x with high := q, reply := none }
        let s1 := s.setSess h.session (some y)
        if x.role < least then (s1.roleFault h.port).answer h op 2 [] else run y s1

/-! ## OPEN and the session operations -/

/-- The next free session number in rising order, wrapping past 127 (R386). -/
def State.nextSess (s : State) : Nat :=
  (((upTo 0 127).map (fun i => (s.eth.lastNum + i) % 127 + 1)).find? (fun n => (s.sess n).isNone)).getD 0

/-- The STATUS of an OPEN (R386). -/
def State.openStatus (s : State) (role : Nat) (nonce : BitVec 128) : Nat :=
  let l := s.openSess
  if 16 ≤ l.length then 1
  else if 3 ≤ role ∧ l.any (fun p => decide (3 ≤ p.2.role)) then 3
  else if role = 4 ∧ !s.factoryMode then 3
  else if s.eth.nonces.contains nonce then 5
  else 0

/-- OPEN (R386). (DEDUCED: log entry 50) -/
def execOpenSession (port : Fin 4) (role : Fin 5) (key : Fin 4) (flags : Byte) (nonce : BitVec 128) (tagOk : Bool) (s : State) : Res :=
  (if s.stage < 2 then s
  else if s.stage = 2 then s.busyReply 1 0 0
  else if !tagOk || !nbit s.seed.keys.toNat (4 * role.val + key.val) then s.authFail port
  else
    let st := s.openStatus role nonce
    let mine := Config.freeNonce s.freeCtr
    let idle := s.fld ETH_MGMT_CFG 27 16
    if st = 0 then
      let n := s.nextSess
      let x : Session := { port := port, role := role, key := key, high := 0, reply := none, subs := nbit flags.toNat 0, notes := 0,
                           sec := 0, inSec := 0, dropped := 0 }
      let s1 := (s.tickFree.setSess n (some x)).jAppend (sessOrigin n x) 0x05 false (sessIdent n x) 7 (w32 role.val) false
      let s2 : State := { s1 with eth := { s1.eth with lastNum := n, nonces := (nonce :: s1.eth.nonces).take 16 } }
      s2.prpSend (fun i _ => .mgmtOpened i n 0 mine idle)
    else
      let s1 := s.tickFree.count ETH_MGMT_CNT 15 0 1
      (if st = 3 then s1.roleFault port else s1).prpSend (fun i _ => .mgmtOpened i 0 st mine idle)).done

/-- CLOSE (R388): the session closes after the reply. -/
def execCloseSession (h : MgmtHdr) (s : State) : Res :=
  (s.request h 0x02 0 (fun _ s => (s.answer h 0x02 0 []).closeSess h.session)).done

/-- KEEPALIVE (R388). -/
def execKeepalive (h : MgmtHdr) (s : State) : Res := (s.request h 0x03 0 (fun _ s => s.answer h 0x03 0 [])).done

/-- SUBSCRIBE (R388, R392). -/
def execSubscribe (h : MgmtHdr) (on : Bool) (s : State) : Res :=
  (s.request h 0x04 0 (fun x s => (s.setSess h.session (some { x with subs := on })).answer h 0x04 0 [])).done

/-- SESSION_IDLE_TIMEOUT (R387). -/
def execSessionIdleTimeout (n : Fin 128) (s : State) : Res := (s.closeSess n).done

/-- NOTIFY (R392): the record of class Twig or higher is sent, or dropped above 32 in a second. -/
def execNotify (n : Fin 128) (rec : Fin 64) (s : State) : Res :=
  (match s.sess n with
   | none => s
   | some x =>
     if !x.subs || !s.recUsed rec || decide (s.recClass rec < 2) then s
     else
       let sent := if x.sec = s.second then x.inSec else 0
       if 32 ≤ sent then s.setSess n (some { x with sec := s.second, inSec := sent, dropped := x.dropped + 1 })
       else
         (s.setSess n (some { x with notes := x.notes + 1, sec := s.second, inSec := sent + 1, dropped := 0 })).prpSend
           (fun i _ => .notify i n (x.notes + 1) rec (s.reg (FLT_REC_STAT rec)) (s.pair (FLT_REC_FIRST_LO rec)) x.dropped)).done

/-! ## READ and WRITE (R389, R390) -/

/-- The address lies outside every window (R36). (DEDUCED: log entry 51) -/
def noWindow (a : Nat) : Bool :=
  (decide (0x20200000 ≤ a) && decide (a < 0x24000000)) || decide (0x4F010000 ≤ a)

/-- Least role that may read an address; 5 where none may. (DEDUCED: log entry 51) -/
def readRole (a : Nat) : Nat := if a < 0x10000000 then 5 else if a < 0x20000000 then 2 else 0

/-- Least role that may write an address; 5 where none may. FLT_INJ is an undefined offset outside factory test mode (R312).
(DEDUCED: log entry 51) -/
def writeRole (a : Nat) : Nat :=
  let w := a / 0x1000000
  if noWindow a then 0
  else if w < 0x20 then 5
  else if w < 0x40 then 2
  else if w = 0x41 then (if a = FLT_ACK then 1 else if a = FLT_CLEAR then 2 else if a = FLT_INJ then 0 else 5)
  else if 0x43 ≤ w ∧ w ≤ 0x47 then 2
  else 5

/-- STATUS 0x02 where a role is below the least one. -/
def roleBars (role least : Nat) : Nat := if role < least then 2 else 0

/-- A word that the role may not reach: fault 0x0904, journaled as a refused WRITE (R389). (DEDUCED: log entry 51) -/
def State.accessBarred (s : State) (h : MgmtHdr) (x : Session) (a : Nat) (v : Word) : State :=
  (s.roleFault h.port).jAppend (sessOrigin h.session x) 0x01 true a (s.peek a) v false

/-- `n` words from an address on, up to the first that fails. -/
def State.readRun (m : Master) (bars : Nat → Nat) : Nat → Nat → State → State × List Word
  | _, 0, s => (s, [])
  | a, n + 1, s =>
    if bars a ≠ 0 then (s.ended (bars a), [])
    else
      let r := s.busRead m a 2
      if r.1.acc ≠ 0 then (r.1, [])
      else
        let q := readRun m bars (a + 4) n r.1
        (q.1, r.2 :: q.2)

/-- READ (R389): COUNT and the words. -/
def State.readOp (s : State) (h : MgmtHdr) (x : Session) (a n : Nat) : State :=
  if n < 1 ∨ 256 < n then s.answer h 0x10 5 []
  else
    let r := State.readRun (sessMaster h.session x) (fun b => roleBars x.role (readRole b)) a n { s with acc := 0 }
    let t := if r.1.acc = 2 then r.1.accessBarred h x (a + 4 * r.2.length) 0 else r.1
    t.answer h 0x10 r.1.acc (w32 r.2.length :: r.2)

/-- MGMT_READ (R389). -/
def execMgmtRead (h : MgmtHdr) (addr : Word) (n : Nat) (s : State) : Res :=
  (s.request h 0x10 0 (fun x s => s.readOp h x addr.toNat n)).done

/-- WRITE (R389, R390): COUNT gives the words that took effect. -/
def State.writeOp (s : State) (h : MgmtHdr) (x : Session) (a : Nat) (words : List Word) : State :=
  if words.length < 1 ∨ 256 < words.length then s.answer h 0x11 5 []
  else
    let r := State.writeRun (sessMaster h.session x) (fun b => roleBars x.role (writeRole b)) a words s
    let t := if r.1.acc = 2 then r.1.accessBarred h x (a + 4 * r.2) (nth words r.2 0) else r.1
    t.answer h 0x11 r.1.acc [w32 r.2]

/-- MGMT_WRITE (R390). -/
def execMgmtWrite (h : MgmtHdr) (addr : Word) (words : List Word) (s : State) : Res :=
  (s.request h 0x11 0 (fun x s => s.writeOp h x addr.toNat words)).done

/-! ## Journal, capture, commands and messages (R388) -/

/-- JOURNAL_READ of the on-chip journal. -/
def State.journalChip (s : State) (h : MgmtHdr) (first n : Nat) : State :=
  let head := (s.reg JNL_HEAD).toNat
  let oldest := head - 8192
  let start := max first oldest
  let count := min n (head - start)
  s.answer h 0x20 0 (w32 start :: w32 (count + b2n (decide (first < oldest)) * 2 ^ 16)
    :: (upTo start count).flatMap (fun q => jWords (s.ringEntry q)))

/-- A slot of an entry page: the entry, or erased cells. -/
def slotWords (o : Option JSlot) : List Word :=
  match o with
  | some x => jWords x.entry
  | none => List.replicate 8 0xFFFFFFFF

/-- JOURNAL_READ of an entry page of the seed journal region (R319): seven slots, and a mark for each whose CRC is correct.
(DEDUCED: log entry 52) -/
def State.journalCard (s : State) (h : MgmtHdr) (first : Nat) : State :=
  let blk := first % 65536
  let page := first / 65536 % 256
  if !s.seed.cardOk then s.answerState h 0x20
  else if s.jnl.nblocks ≤ blk ∨ page = 0 then s.answer h 0x20 5 []
  else
    let slots := (upTo 0 7).map (fun i => (s.jblk blk).entries[7 * (page - 1) + i]?)
    let marks := (numbered slots).foldl (fun a p => a + b2n (p.2.any slotValid) * 2 ^ (p.1 + 2)) 0
    s.answer h 0x20 0 (w32 first :: w32 (7 + marks * 2 ^ 16) :: slots.flatMap slotWords)

/-- JOURNAL_READ (R388). (DEDUCED: log entry 52) -/
def execJournalRead (h : MgmtHdr) (src : Byte) (first : Word) (n : Nat) (s : State) : Res :=
  (s.request h 0x20 0 (fun _ s =>
    if src = 0 then (if 1 ≤ n ∧ n ≤ 32 then s.journalChip h first.toNat n else s.answer h 0x20 5 [])
    else if src = 1 then s.journalCard h first.toNat
    else s.answer h 0x20 5 [])).done

/-- CAPTURE_READ (R388): CAP_STATUS and CAP_WPTR before the words; an uncorrectable word is a bus error (R310).
(DEDUCED: log entry 52) -/
def execCaptureRead (h : MgmtHdr) (word : Word) (n : Nat) (s : State) : Res :=
  (s.request h 0x21 0 (fun x s =>
    if 1 ≤ n ∧ n ≤ 256 ∧ word.toNat + n ≤ 262144 then
      match (upTo word.toNat n).find? (fun w => s.poisoned (0x26100000 + 4 * w)) with
      | some w => (s.busRead (sessMaster h.session x) (0x26100000 + 4 * w) 2).1.answer h 0x21 4 []
      | none => s.answer h 0x21 0 (s.reg CAP_STATUS :: s.reg CAP_WPTR :: Sparse.range (fun _ => 0) s.cap.buf word.toNat n)
    else s.answer h 0x21 5 [])).done

/-- CMD_START (R388, R424): refused in every state but ready. -/
def execCmdStart (h : MgmtHdr) (s : State) : Res :=
  (s.request h 0x30 1 (fun _ s =>
    let r := s.runStart
    if r.2 then r.1.answer h 0x30 0 [] else s.answerState h 0x30)).done

/-- CMD_STOP (R388, R424). -/
def execCmdStop (h : MgmtHdr) (s : State) : Res := (s.request h 0x30 1 (fun _ s => s.runStop.answer h 0x30 0 [])).done

/-- HOSTMSG (R388): a queue of 8 messages. (DESIGN CHOICE: log entry 49) -/
def execHostmsg (h : MgmtHdr) (bytes : List Byte) (s : State) : Res :=
  (s.request h 0x31 1 (fun x s =>
    if bytes.length < 1 ∨ 1024 < bytes.length then s.answer h 0x31 5 []
    else if 8 ≤ s.eth.msgs.length then s.answer h 0x31 1 []
    else
      let m : HostMsg := { session := h.session, role := x.role, bytes := bytes }
      ({ s with eth := { s.eth with msgs := s.eth.msgs ++ [m] } } : State).answer h 0x31 0 [])).done

/-! ## The safety block (R299) -/

/-- SAFETY_PARAM (R299, R388): the block goes to both cores; the reply waits for their decision. (DEDUCED: log entry 53) -/
def execSafetyParam (h : MgmtHdr) (block : SafetyBlock) (s : State) : Res :=
  (s.request h 0x40 3 (fun _ s =>
    if block.length ≠ 64 then s.answer h 0x40 5 []
    else if s.saf.offer.isSome then s.answer h 0x40 1 []
    else { s with saf := { s.saf with offer := some (block, h) } })).done

/-- A SAFETY entry with its STAMP entry (R302, R315). -/
def State.jParam (s : State) (origin : Nat) (refused : Bool) (target : Nat) (old new : Word) : State :=
  (s.jAppend origin 0x03 refused target old new true).jStamp origin

/-- The reason for which the cores refuse a replacement, 0 for none (R299). (DEDUCED: log entry 53) -/
def State.offerReason (s : State) (b : SafetyBlock) (agree written : Bool) : Nat :=
  let r := blockReason b
  if r ≠ 0 then r else if !s.bit SAF_SEAL 16 then 8 else if !agree then 9 else if !written then 10 else 0

/-- The origin of a replacement. -/
def State.offerOrigin (s : State) (h : MgmtHdr) : Nat :=
  match s.sess h.session with
  | some x => sessOrigin h.session x
  | none => 0x2000 + h.port.val * 1024 + 3 * 128 + h.session.val

/-- A replacement is written to the card (R299): the changed words and the PCRC are journaled. (DEDUCED: log entry 53) -/
def State.offerTaken (s : State) (h : MgmtHdr) (b : SafetyBlock) : State :=
  let org := s.offerOrigin h
  let old := s.saf.card
  let moved := ((upTo 0 15).map (fun i => 4 * i)).filter (fun o => blkAt old o 4 != blkAt b o 4)
  let s1 : State := { s with saf := { s.saf with card := b, editWait := true } }
  let s2 := forEach (fun s o => s.jParam org false o (w32 (blkAt old o 4)) (w32 (blkAt b o 4))) moved s1
  (s2.jParam org false 0x40 (w32 (blockCrc old)) (w32 (blockCrc b))).raise 0x0612 31

/-- SAFETY_PARAM_DECIDED (R299). (DEDUCED: log entry 53) -/
def execSafetyParamDecided (agree : Bool) (written : Bool) (s : State) : Res :=
  (match s.saf.offer with
   | none => s
   | some (b, h) =>
     let s0 : State := { s with saf := { s.saf with offer := none } }
     let reason := s0.offerReason b agree written
     if reason = 0 then (s0.offerTaken h b).lateAnswer h 0x40 0
     else
       let s1 := s0.jParam (s0.offerOrigin h) true 0x40 (s0.reg SAF_PARAM_ID) (w32 reason)
       s1.lateAnswer h 0x40 (if reason < 8 then 5 else 3)).done

/-! ## Seed update (R426) -/

/-- The update in progress belongs to session `n` and is in one of the given states. -/
def State.updHolds (s : State) (n : Nat) (states : List Nat) : Bool :=
  match s.seed.update with
  | some u => u.session == n && states.contains s.updState
  | none => false

/-- SEED_BEGIN (R426). -/
def execSeedBegin (h : MgmtHdr) (section_ : BitVec 16) (total : Nat) (s : State) : Res :=
  (s.request h 0x50 2 (fun x s =>
    if (section_ ≠ 0 ∧ section_ ≠ 9) ∨ 0x1800000 < total then s.answer h 0x50 5 []
    else if s.updState = 1 ∨ s.updState = 2 ∨ !s.seed.cardOk then s.answerState h 0x50
    else
      let u : SeedUpdate := { session := h.session, sect := section_.toNat, total := total }
      let s1 := (s.setReg SED_UPDATE_BYTES 0).setUpd (sessOrigin h.session x) 1
      ({ s1 with seed := { s1.seed with update := some u, commit := none } } : State).answer h 0x50 0 [])).done

/-- SEED_DATA (R426): contiguous from 0; a gap or an overlap aborts the update. (DEDUCED: log entries 15 and 54) -/
def execSeedData (h : MgmtHdr) (off : Nat) (bytes : List Byte) (s : State) : Res :=
  (s.request h 0x51 2 (fun x s =>
    let have_ := (s.reg SED_UPDATE_BYTES).toNat
    let total := match s.seed.update with
      | some u => u.total
      | none => 0
    if !s.updHolds h.session [1] then s.answerState h 0x51
    else if bytes.length < 1 ∨ 1024 < bytes.length then s.answer h 0x51 5 []
    else if off ≠ have_ then s.updateAbort.answer h 0x51 5 []
    else if total < off + bytes.length then s.answer h 0x51 5 []
    else (s.putJ (sessOrigin h.session x) SED_UPDATE_BYTES (w32 (off + bytes.length))).answer h 0x51 0 [])).done

/-- SEED_COMMIT (R426): the verification starts, and the reply waits for it. -/
def execSeedCommit (h : MgmtHdr) (s : State) : Res :=
  (s.request h 0x52 2 (fun x s =>
    if !s.updHolds h.session [1] then s.answerState h 0x52
    else
      let s1 := s.setUpd (sessOrigin h.session x) 2
      { s1 with seed := { s1.seed with commit := some h } })).done

/-- New role keys are installed (R426): the sessions whose key has changed are to close. -/
def State.installKeys (s : State) (keysOk : Bool) (keys : BitVec 20) : State :=
  if keysOk then (({ s with seed := { s.seed with keys := keys } } : State).setBit SED_STATUS 4 true).stageUp
  else s.raise 0x0B04 31

/-- The sessions whose key has changed close (R387). -/
def State.closeChanged (s : State) (changed : Nat) : State :=
  forEach (fun s p => if nbit changed (4 * p.2.role + p.2.key) then s.closeSess p.1 else s) s.openSess s

/-- SEED_COMMIT_DONE (R426): PENDING names the bank that is not ACTIVE, or the update has failed. (DEDUCED: log entry 54) -/
def execSeedCommitDone (bank : BankHeader) (keysOk : Bool) (newKeys : BitVec 20) (changed : BitVec 20) (s : State) : Res :=
  (match s.seed.commit, s.seed.update with
   | some h, some u =>
     let org := match s.sess h.session with
       | some x => sessOrigin h.session x
       | none => originSeed
     let s0 : State := { s with seed := { s.seed with commit := none, update := none } }
     if s0.imageOk bank then
       let s1 : State := { s0 with seed := { s0.seed with pend := some (!s0.seed.active) } }
       let s2 := (s1.setUpd org 3).orReg SED_EVENTS 8
       if u.sect = 9 then
         let s3 := (s2.installKeys keysOk newKeys).lateAnswer h 0x52 0
         if keysOk then s3.closeChanged changed.toNat else s3
       else s2.lateAnswer h 0x52 0
     else ((s0.setUpd org 4).raise 0x0B08 31).lateAnswer h 0x52 5
   | _, _ => s).done

/-- SEED_ABORT (R426). -/
def execSeedAbort (h : MgmtHdr) (s : State) : Res :=
  (s.request h 0x53 2 (fun _ s =>
    if s.updHolds h.session [1, 2] then s.updateAbort.answer h 0x53 0 [] else s.answerState h 0x53)).done

end Sys2Proof.Machine
end

