-- ==== Sys2Proof/Machine/Thermal.lean ====
section
/-! DEFINITION. Temperatures, throttling, thermal stops and supply rails (R430 to R438). Temperatures are signed, in 1/128 °C. -/

namespace Sys2Proof.Machine

/-- The origin of the thermal block. -/
def originTherm : Nat := originBlk 0x0C 15

/-- 110, 105, 120 and 135 °C. -/
def tHot : Int := 14080
@[inherit_doc tHot] def tCool : Int := 13440
@[inherit_doc tHot] def tStop : Int := 15360
@[inherit_doc tHot] def tLimit : Int := 17280

/-! ## Sensors (R430) -/

/-- A reading is good: present, within −55 to +150 °C, and within 5 °C of the previous sample. -/
def State.goodReading (s : State) (i : Nat) (r : Option Int) : Bool :=
  match r with
  | none => false
  | some x => decide (-7040 ≤ x) && decide (x ≤ 19200) &&
      (match Sparse.get (fun _ => (none : Option Int)) s.therm.prev i with
       | some p => decide ((x - p).natAbs ≤ 640)
       | none => true)

/-- Sensor `i` has failed. -/
def State.senFailed (s : State) (i : Nat) : Bool := s.bit THM_FAILED i

/-- The state with the failure mark of a sensor set or cleared: 0x0C04, and 0x010A for the oscillator's sensor (R46). -/
def State.setFailed (s : State) (i : Nat) (on : Bool) : State :=
  let s1 := ((s.setBit THM_FAILED i on).setBit (THM_SENS i) 17 on).holdCause 0x0C04 i on
  let s2 := if on then s1.orReg THM_EVENTS 8 else s1
  if i = 7 ∧ on then ((s2.setBit TIM_STATUS 3 false).orReg TIM_EVENTS 0x4000).holdCause 0x010A 31 true else s2

/-- One sample of sensor `i`: a failed sensor is good again after 100 good samples in a row. -/
def State.senSample (s : State) (i : Nat) (r : Option Int) : State :=
  let ok := s.goodReading i r
  let s1 : State := match r with
    | some x => { s with therm := { s.therm with prev := Sparse.set (fun _ => (none : Option Int)) s.therm.prev i (some x) } }
    | none => s
  let run := if ok then Sparse.get (fun _ => 0) s.therm.good i + 1 else 0
  let s2 : State := { s1 with therm := { s1.therm with
    good := Sparse.set (fun _ => 0) s1.therm.good i (if s.senFailed i then run else 0) } }
  if !ok then (if s.senFailed i then s2 else s2.setFailed i true)
  else
    let s3 := s2.setReg (THM_SENS i) (w32 (b2n (s.senFailed i) * 131072 + 65536 + toU 16 (r.getD 0)))
    if s.senFailed i && decide (100 ≤ run) then s3.setFailed i false else s3

/-- The sensor that gives the reading of sensor `i` to the maximum (R431): itself, or its spare; none where neither works. -/
def State.stand (s : State) (i : Nat) : Option Nat :=
  if !s.senFailed i then some i
  else if i = 0 ∧ !s.senFailed 14 then some 14
  else if i = 12 ∧ !s.senFailed 15 then some 15
  else none

/-- The masked sensors. -/
def State.masked (s : State) : List Nat := setBits (s.fld THM_CTRL 15 0) 16

/-- The last good reading of a sensor. -/
def State.senTemp (s : State) (i : Nat) : Int := sext 16 (s.fld (THM_SENS i) 15 0)

/-- The sensor with the highest reading among those that count, of equals the first. -/
def State.hottest (s : State) : Option Nat :=
  (s.masked.filterMap s.stand).foldl (fun (best : Option Nat) i =>
    match best with
    | some j => if s.senTemp j < s.senTemp i then some i else best
    | none => some i) none

/-! ## Throttle (R431, R433) -/

/-- THROTTLE. -/
def State.throttle (s : State) : Nat := s.fld THM_STATUS 15 12

/-- STATE of the thermal block. (DEDUCED: log entry 58) -/
def State.thermState (s : State) : Nat := s.fld THM_STATUS 2 0

/-- A masked sensor has failed and has no working spare. -/
def State.uncovered (s : State) : Bool := s.masked.any (fun i => (s.stand i).isNone)

/-- The least THROTTLE (R431, R434). -/
def State.throttleFloor (s : State) : Nat :=
  if s.thermState = 3 ∨ !s.bit THM_STATUS 7 then 8 else if s.uncovered then 2 else 0

/-- THROTTLE takes a value, not under its floor; journaled, and carried to the Sap engine (R349, R350). -/
def State.setThrottle (s : State) (v : Nat) : State :=
  let t := min 8 (max v s.throttleFloor)
  if t = s.throttle then s
  else ((s.putFldJ originTherm THM_STATUS 15 12 t).setFld SAP_STATUS 15 12 t).sapFlag 9 (t != 0)

/-- STATE changes, journaled. -/
def State.setTherm (s : State) (v : Nat) : State := s.putFldJ originTherm THM_STATUS 2 0 v

/-! ## Stops (R434) -/

/-- An immediate stop: 0x0C03 and THROTTLE 8. -/
def State.immediateStop (s : State) : State :=
  if s.thermState = 3 then s else (((s.setTherm 3).orReg THM_EVENTS 4).setThrottle 8).holdCause 0x0C03 31 true

/-- Twice the slope in 1/128 °C per second: the change over the last 2 s, or over the samples there are.
(DEDUCED: log entry 58) -/
def State.rise2 (s : State) (t : Int) : Int :=
  match s.therm.hist.getLast? with
  | some x => t - x
  | none => 0

/-- THM_SLOPE shows the slope and the estimate. -/
def State.showSlope (s : State) (t : Int) : State :=
  let d := s.rise2 t
  let est := if tLimit ≤ t then 0 else if d ≤ 0 then 65535 else min 65534 (2 * (tLimit - t) / d).toNat
  s.setReg THM_SLOPE (w32 (est * 65536 + toU 16 (clampI (-32768) 32767 (d / 2))))

/-- The stops at a sample with T_max `t`. -/
def State.stopCheck (s : State) (t : Int) : State :=
  if tLimit ≤ t then s.immediateStop
  else if tStop ≤ t ∧ s.thermState ≠ 2 ∧ s.thermState ≠ 3 then
    let d := s.rise2 t
    if 0 < d ∧ 2000 * (tLimit - t) ≤ (s.fld THM_CFG 15 0 : Int) * d then s.immediateStop
    else ((s.setTherm 2).orReg THM_EVENTS 2).holdCause 0x0C02 31 true
  else s

/-- The first sample above 110 °C, and the causes that T_max keeps (R433). (DEDUCED: log entry 58) -/
def State.hotCheck (s : State) (t : Int) : State :=
  let hot := decide (tHot < t)
  let first := hot && (s.thermState == 0 || s.thermState == 4)
  let s1 := if first then
      let x := (((s.setTherm 1).setThrottle (s.throttle + 1)).orReg THM_EVENTS 1).holdCause 0x0C01 31 true
      { x with therm := { x.therm with hot := none, cool := none } }
    else s
  let s2 := if hot then s1 else s1.endCauseAll 0x0C01
  { s2 with therm := { s2.therm with
    hot := some (hot && (first || s2.therm.hot.getD true))
    cool := some (decide (t < tCool) && s2.therm.cool.getD true) } }

/-- T_max of this sample takes effect. -/
def State.takeMax (s : State) (i : Nat) : State :=
  let t := s.senTemp i
  let s0 := ((s.setFld THM_STATUS 31 16 (toU 16 t)).setFld THM_STATUS 11 8 i).setBit THM_STATUS 7 true
  let s1 := if sext 16 (s0.fld THM_MAX_HOLD 15 0) < t then s0.setReg THM_MAX_HOLD (w32 (toU 16 t)) else s0
  let s2 : State := { s1 with therm := { s1.therm with hist := (t :: s1.therm.hist).take 20001 } }
  let s3 := (s2.showSlope t).hotCheck t
  (s3.stopCheck t).setThrottle s3.throttle

/-- The baseplate (R436): above 85 °C, until 83 °C or below. -/
def State.baseCheck (s : State) : State :=
  let t := s.senTemp 13
  if s.senFailed 13 || !s.bit (THM_SENS 13) 16 then s
  else if 10880 < t then (if s.flt.causes.any (fun c => c.1 == 0x0C0A) then s
    else (s.orReg THM_EVENTS 0x10).holdCause 0x0C0A 13 true)
  else if t ≤ 10624 then s.holdCause 0x0C0A 13 false
  else s

/-- THERMAL_SAMPLE (R430 to R436). -/
def execThermalSample (readings : List (Option (BitVec 16))) (s : State) : Res :=
  let s1 := forEach (fun s i => s.senSample i ((nth readings i none).map (fun w => w.toInt))) (upTo 0 16) s
  let s2 := s1.setFld THM_FAILED 17 16 (b2n (s1.senFailed 0 && !s1.senFailed 14) + 2 * b2n (s1.senFailed 12 && !s1.senFailed 15))
  let s3 := match s2.hottest with
    | some i => s2.takeMax i
    | none =>
      let x := s2.setBit THM_STATUS 7 false
      (x.immediateStop).setThrottle 8
  (s3.baseCheck).done

/-- THROTTLE_INTERVAL (R433): up where every sample was above 110 °C, down where every sample was below 105 °C. -/
def execThrottleInterval (s : State) : Res :=
  let t := s.therm
  let s0 : State := { s with therm := { t with hot := none, cool := none } }
  let s1 := if t.hot = some true then s0.setThrottle (s0.throttle + 1)
    else if t.cool = some true then s0.setThrottle (s0.throttle - 1)
    else s0
  (if (s1.thermState = 1 ∨ s1.thermState = 4) ∧ s1.throttle ≤ s1.throttleFloor ∧ t.cool = some true then s1.setTherm 0 else s1).done

/-- The records of the thermal stops are cleared automatically (R308, R435). -/
def State.thermClear (s : State) : State :=
  let rs := s.flt.order.filter (fun r => s.recBlock r == 0x0C && s.recClass r == 4
    && (s.bit (FLT_REC_CODES r) 2 || s.bit (FLT_REC_CODES r) 3) && (s.reg (FLT_REC_ACTIVE r)).toNat == 0)
  ((forEach (fun s r => s.freeRecord originTherm r) rs s).fltRefresh.safEval).runReady

/-- THERMAL_COOLED (R435): T_max has stayed below 105 °C for 10 s. -/
def execThermalCooled (s : State) : Res :=
  (if s.bit THM_STATUS 7 && decide (sext 16 (s.fld THM_STATUS 31 16) < tCool)
      && (s.thermState == 2 || s.thermState == 3) then
    let s1 := ((s.setTherm 4).orReg THM_EVENTS 0x40).endCauseAll 0x0C02
    let s2 := s1.endCauseAll 0x0C03
    if s2.bit THM_CTRL 16 then s2.thermClear else s2
  else s).done

/-! ## Rails (R438) -/

/-- The Ethernet island in reset. -/
def State.ethReset (s : State) : State :=
  ({ s.islandDown with eth := EthUnit.reset } : State).resetRegs 0x33000000 0x34000000

/-- The islands of the Warp and Graft links in reset: their rings are disabled. -/
def State.linksReset (s : State) : State :=
  let s1 := forEach State.ringShut s.ringsEn s
  ((({ s1 with gft := Graft.reset, lines := [] } : State).resetRegs 0x30000000 0x31000000).resetRegs 0x32000000 0x33000000).showRings

/-- The card's interface in reset: the card does not respond (R320). -/
def State.cardReset (s : State) : State := if s.jRuns then s.jFail else s

/-- A safety island in reset: both safe functions are asserted, and the block in force is no longer loaded. -/
def State.safReset (s : State) : State :=
  let s1 := s.voterAssert true
  (({ s1 with saf := { Safety.reset with card := s1.saf.card, blkLeft := s1.saf.blkLeft } } : State).resetRegs 0x40000000 0x41000000).safEval

/-- The hot-side die in reset: gates off, the Sap engine stopped, its comparators disabled. -/
def State.hotReset (s : State) : State :=
  let s1 := forEach State.stageStop (upTo 0 5) (forEach State.gateGroupOff (upTo 0 4) s)
  let s2 := forEach (fun s f => s.sapFlag f false) (upTo 0 16) s1
  let s3 := forEach (fun s c => (((s.setUnres c false).setCmpOut c false).clearLatch c).setCmp c CmpUnit.reset) (upTo 0 32) s2
  let s4 : State := { s3 with gate := { GateUnit.reset with noService := true, needStart := 31 }, sap := SapUnit.reset }
  ((s4.resetRegs 0x45000000 0x47000000).resetRegs 0x44000100 0x44000200).resetRegs 0x44000800 0x44000880

/-- A rail outside ±10 % holds the islands that it feeds in reset, and their outputs take their unpowered states: the whole
controller die from rails 0 and 3; optics, PHYs and SerDes from rails 1 and 2; a safety island from rails 4 and 5; the hot-side
die from rail 6. The registers of a held island read their reset values (R8). (DEDUCED: log entry 58) -/
def State.railReset (s : State) (u : Nat) : State :=
  match u with
  | 0 => s.unpowered
  | 3 => s.unpowered
  | 1 => s.linksReset.ethReset
  | 2 => s.linksReset.cardReset
  | 6 => s.hotReset
  | _ => s.safReset

/-- One rail: outside ±5 % for 1 ms, that is ten samples, raises 0x0C06. -/
def State.railCheck (s : State) (in5 in10 : BitVec 7) (u : Nat) : State :=
  if nbit in5.toNat u then
    ({ s with therm := { s.therm with rails := Sparse.set (fun _ => 0) s.therm.rails u 0 } } : State).holdCause 0x0C06 u false
  else
    let n := Sparse.get (fun _ => 0) s.therm.rails u + 1
    let s1 : State := { s with therm := { s.therm with rails := Sparse.set (fun _ => 0) s.therm.rails u (min n 10) } }
    let s2 := if n = 10 then (s1.orReg THM_EVENTS 0x20).holdCause 0x0C06 u true else s1
    if nbit in10.toNat u then s2 else s2.railReset u

/-- THM_POWER (R445): the module's input power, which no command carries, is a free value; MAX follows it.
(DEDUCED: log entry 58) -/
def State.powerSample (s : State) : State :=
  let p := fld (Config.freeWord s.freeCtr) 15 0
  ((s.tickFree).setFld THM_POWER 15 0 p).peak THM_POWER 31 16 p

/-- RAIL_SAMPLE (R438). -/
def execRailSample (in5 in10 : BitVec 7) (s : State) : Res :=
  (forEach (fun s u => s.railCheck in5 in10 u) (upTo 0 7) (s.powerSample.setReg THM_RAILS (w32 in5.toNat))).done

end Sys2Proof.Machine
end

