-- ==== Sys2Proof/Machine/Dispatch.lean ====
section
/-! DEFINITION. One arm per command: what each does to everything but the queue. -/

namespace Sys2Proof.Machine

def exec (i : Instr) (s : State) : Host.Outcome State Fault Refusal :=
  match i with
  | .cycleBoundary => Sys2Proof.Machine.execCycleBoundary s
  | .collectLaunch => Sys2Proof.Machine.execCollectLaunch s
  | .inputCut => Sys2Proof.Machine.execInputCut s
  | .tOut => Sys2Proof.Machine.execTOut s
  | .draftHandover finished => Sys2Proof.Machine.execDraftHandover finished s
  | .tbWrap n => Sys2Proof.Machine.execTbWrap n s
  | .servoSample n e => Sys2Proof.Machine.execServoSample n e s
  | .tbLoad n m v => Sys2Proof.Machine.execTbLoad n m v s
  | .tbAdj n m delta => Sys2Proof.Machine.execTbAdj n m delta s
  | .slewDone n => Sys2Proof.Machine.execSlewDone n s
  | .pendingTimeDue u => Sys2Proof.Machine.execPendingTimeDue u s
  | .compSample t => Sys2Proof.Machine.execCompSample t s
  | .holdoverTimeout b => Sys2Proof.Machine.execHoldoverTimeout b s
  | .holdoverLimit b => Sys2Proof.Machine.execHoldoverLimit b s
  | .xchkSample => Sys2Proof.Machine.execXchkSample s
  | .rateCheck dev => Sys2Proof.Machine.execRateCheck dev s
  | .oscStopped o => Sys2Proof.Machine.execOscStopped o s
  | .xstampTrig m => Sys2Proof.Machine.execXstampTrig m s
  | .disarm m => Sys2Proof.Machine.execDisarm m s
  | .gridOriginWrite m v => Sys2Proof.Machine.execGridOriginWrite m v s
  | .tcycWrite m v => Sys2Proof.Machine.execTcycWrite m v s
  | .tinToutWrite m isOut v => Sys2Proof.Machine.execTinToutWrite m isOut v s
  | .servoResetI m mask => Sys2Proof.Machine.execServoResetI m mask s
  | .ringEnable r m => Sys2Proof.Machine.execRingEnable r m s
  | .ringDisable r m => Sys2Proof.Machine.execRingDisable r m s
  | .ringLockTimeout r => Sys2Proof.Machine.execRingLockTimeout r s
  | .blockLockChange p locked => Sys2Proof.Machine.execBlockLockChange p locked s
  | .bypassMoveDone r => Sys2Proof.Machine.execBypassMoveDone r s
  | .statusRecordReceive r hdr bk returning rec => Sys2Proof.Machine.execStatusRecordReceive r hdr bk returning rec s
  | .collectFrameReturn r port f => Sys2Proof.Machine.execCollectFrameReturn r port f s
  | .ringClose r => Sys2Proof.Machine.execRingClose r s
  | .nodeLoss r a => Sys2Proof.Machine.execNodeLoss r a s
  | .syncLaunch r => Sys2Proof.Machine.execSyncLaunch r s
  | .syncFrameReturn r f => Sys2Proof.Machine.execSyncFrameReturn r f s
  | .ringConverged r => Sys2Proof.Machine.execRingConverged r s
  | .convergeTimeout r => Sys2Proof.Machine.execConvergeTimeout r s
  | .mgmtTransactionSend r => Sys2Proof.Machine.execMgmtTransactionSend r s
  | .mgmtReplyReceive r f => Sys2Proof.Machine.execMgmtReplyReceive r f s
  | .helloReceive r port f => Sys2Proof.Machine.execHelloReceive r port f s
  | .readmit r a m => Sys2Proof.Machine.execReadmit r a m s
  | .resync r m => Sys2Proof.Machine.execResync r m s
  | .yield r mandate => Sys2Proof.Machine.execYield r mandate s
  | .passForward r dir residence f => Sys2Proof.Machine.execPassForward r dir residence f s
  | .nodeReset r p make => Sys2Proof.Machine.execNodeReset r p make s
  | .nodeFrameReceive r p port residence f => Sys2Proof.Machine.execNodeFrameReceive r p port residence f s
  | .nodeCycleFrameReceive r p f => Sys2Proof.Machine.execNodeCycleFrameReceive r p f s
  | .nodeCollectAppend r p residence f raw x => Sys2Proof.Machine.execNodeCollectAppend r p residence f raw x s
  | .nodeSyncReceive r p stamp f => Sys2Proof.Machine.execNodeSyncReceive r p stamp f s
  | .nodeMgmtReceive r p inTime f => Sys2Proof.Machine.execNodeMgmtReceive r p inTime f s
  | .nodeHelloSend r p => Sys2Proof.Machine.execNodeHelloSend r p s
  | .nodeBlkReceive r p block => Sys2Proof.Machine.execNodeBlkReceive r p block s
  | .nodeSlotDecision r p slot => Sys2Proof.Machine.execNodeSlotDecision r p slot s
  | .nodeAdoption r p slot => Sys2Proof.Machine.execNodeAdoption r p slot s
  | .nodeEntryDue r p tgt => Sys2Proof.Machine.execNodeEntryDue r p tgt s
  | .nodeMasterTimeout r p => Sys2Proof.Machine.execNodeMasterTimeout r p s
  | .nodeSyncTimeout r p => Sys2Proof.Machine.execNodeSyncTimeout r p s
  | .nodePortLockLoss r p port => Sys2Proof.Machine.execNodePortLockLoss r p port s
  | .nodeWrapEnd r p port => Sys2Proof.Machine.execNodeWrapEnd r p port s
  | .nodeReturningFrame r p port residence f => Sys2Proof.Machine.execNodeReturningFrame r p port residence f s
  | .nop e => Sys2Proof.Machine.execNop e s
  | .endPass e => Sys2Proof.Machine.execEndPass e s
  | .ldc e => Sys2Proof.Machine.execLdc e s
  | .gain e => Sys2Proof.Machine.execGain e s
  | .sum e => Sys2Proof.Machine.execSum e s
  | .mul e => Sys2Proof.Machine.execMul e s
  | .div e => Sys2Proof.Machine.execDiv e s
  | .lim e => Sys2Proof.Machine.execLim e s
  | .rat e => Sys2Proof.Machine.execRat e s
  | .biq e => Sys2Proof.Machine.execBiq e s
  | .trk e => Sys2Proof.Machine.execTrk e s
  | .xfd e => Sys2Proof.Machine.execXfd e s
  | .hld e => Sys2Proof.Machine.execHld e s
  | .sel e => Sys2Proof.Machine.execSel e s
  | .cmp e => Sys2Proof.Machine.execCmp e s
  | .lut e => Sys2Proof.Machine.execLut e s
  | .clk e => Sys2Proof.Machine.execClk e s
  | .iclk e => Sys2Proof.Machine.execIclk e s
  | .prk e => Sys2Proof.Machine.execPrk e s
  | .iprk e => Sys2Proof.Machine.execIprk e s
  | .cmag e => Sys2Proof.Machine.execCmag e s
  | .cang e => Sys2Proof.Machine.execCang e s
  | .csin e => Sys2Proof.Machine.execCsin e s
  | .inj e => Sys2Proof.Machine.execInj e s
  | .rly e => Sys2Proof.Machine.execRly e s
  | .srt e => Sys2Proof.Machine.execSrt e s
  | .sortComplete e checkFail late => Sys2Proof.Machine.execSortComplete e checkFail late s
  | .wev e => Sys2Proof.Machine.execWev e s
  | .hdlRunSet e m => Sys2Proof.Machine.execHdlRunSet e m s
  | .hdlRunClear e m => Sys2Proof.Machine.execHdlRunClear e m s
  | .clrStates e m => Sys2Proof.Machine.execClrStates e m s
  | .patternCheck e m => Sys2Proof.Machine.execPatternCheck e m s
  | .patternCheckDone e => Sys2Proof.Machine.execPatternCheckDone e s
  | .swap e m => Sys2Proof.Machine.execSwap e m s
  | .swapAt e m => Sys2Proof.Machine.execSwapAt e m s
  | .cancel e m => Sys2Proof.Machine.execCancel e m s
  | .coefCopyDone e => Sys2Proof.Machine.execCoefCopyDone e s
  | .patternWrite e m ix lo => Sys2Proof.Machine.execPatternWrite e m ix lo s
  | .signalWrite e m w v => Sys2Proof.Machine.execSignalWrite e m w v s
  | .mailboxWrite e m w v => Sys2Proof.Machine.execMailboxWrite e m w v s
  | .coefWrite e m bank c v => Sys2Proof.Machine.execCoefWrite e m bank c v s
  | .stateWrite e m ix lo => Sys2Proof.Machine.execStateWrite e m ix lo s
  | .segEnWrite e m v => Sys2Proof.Machine.execSegEnWrite e m v s
  | .segRangeWrite e m n v => Sys2Proof.Machine.execSegRangeWrite e m n v s
  | .lockGrpWrite e m g => Sys2Proof.Machine.execLockGrpWrite e m g s
  | .imgCountWrite e m n => Sys2Proof.Machine.execImgCountWrite e m n s
  | .inMapWrite e m j v => Sys2Proof.Machine.execInMapWrite e m j v s
  | .hovStart e m => Sys2Proof.Machine.execHovStart e m s
  | .hovAbort e m => Sys2Proof.Machine.execHovAbort e m s
  | .rlyStart e u m => Sys2Proof.Machine.execRlyStart e u m s
  | .rlyStop e u m => Sys2Proof.Machine.execRlyStop e u m s
  | .capArm m => Sys2Proof.Machine.execCapArm m s
  | .capStop m => Sys2Proof.Machine.execCapStop m s
  | .capRelease m halves => Sys2Proof.Machine.execCapRelease m halves s
  | .oosSet str m v => Sys2Proof.Machine.execOosSet str m v s
  | .oosClr str m v => Sys2Proof.Machine.execOosClr str m v s
  | .bypassCommand str p => Sys2Proof.Machine.execBypassCommand str p s
  | .bypassTimeout str p => Sys2Proof.Machine.execBypassTimeout str p s
  | .draftWrite m addr v => Sys2Proof.Machine.execDraftWrite m addr v s
  | .graftStatusSend => Sys2Proof.Machine.execGraftStatusSend s
  | .graftStatusReceive f => Sys2Proof.Machine.execGraftStatusReceive f s
  | .graftImageReceive img => Sys2Proof.Machine.execGraftImageReceive img s
  | .graftMirrorSend => Sys2Proof.Machine.execGraftMirrorSend s
  | .graftMirrorReceive line mseq writes => Sys2Proof.Machine.execGraftMirrorReceive line mseq writes s
  | .gftResync m => Sys2Proof.Machine.execGftResync m s
  | .gftHandoff m => Sys2Proof.Machine.execGftHandoff m s
  | .revertHoldoffExpire => Sys2Proof.Machine.execRevertHoldoffExpire s
  | .peerStatusTimeout => Sys2Proof.Machine.execPeerStatusTimeout s
  | .coldTakeover => Sys2Proof.Machine.execColdTakeover s
  | .graftLaneLoss lane => Sys2Proof.Machine.execGraftLaneLoss lane s
  | .startWaitExpire => Sys2Proof.Machine.execStartWaitExpire s
  | .safeInputDemand ch d => Sys2Proof.Machine.execSafeInputDemand ch d s
  | .blkRepeat => Sys2Proof.Machine.execBlkRepeat s
  | .safeInputPermit ch => Sys2Proof.Machine.execSafeInputPermit ch s
  | .testPulse x => Sys2Proof.Machine.execTestPulse x s
  | .testWindowEnd n sawLow lowAtEnd => Sys2Proof.Machine.execTestWindowEnd n sawLow lowAtEnd s
  | .pairDiscrepancy ix => Sys2Proof.Machine.execPairDiscrepancy ix s
  | .resetInputAck ch => Sys2Proof.Machine.execResetInputAck ch s
  | .outputTest o => Sys2Proof.Machine.execOutputTest o s
  | .outputTestEnd o fell => Sys2Proof.Machine.execOutputTestEnd o fell s
  | .outputOverload o => Sys2Proof.Machine.execOutputOverload o s
  | .sv24OutOfRange => Sys2Proof.Machine.execSv24OutOfRange s
  | .arDelayExpire => Sys2Proof.Machine.execArDelayExpire s
  | .safetyPduReceive p => Sys2Proof.Machine.execSafetyPduReceive p s
  | .safetyWinExpire => Sys2Proof.Machine.execSafetyWinExpire s
  | .remoteWatchdogExpire => Sys2Proof.Machine.execRemoteWatchdogExpire s
  | .degradedExpire => Sys2Proof.Machine.execDegradedExpire s
  | .sealBankRead code poleA poleB => Sys2Proof.Machine.execSealBankRead code poleA poleB s
  | .safetyBlockLoad block => Sys2Proof.Machine.execSafetyBlockLoad block s
  | .selftestDone ok => Sys2Proof.Machine.execSelftestDone ok s
  | .coreDisagree => Sys2Proof.Machine.execCoreDisagree s
  | .tpsOverload n => Sys2Proof.Machine.execTpsOverload n s
  | .tpsRestart n => Sys2Proof.Machine.execTpsRestart n s
  | .safetyParamDecided agree written => Sys2Proof.Machine.execSafetyParamDecided agree written s
  | .faultRaise code unit_ stamp persists cap => Sys2Proof.Machine.execFaultRaise code unit_ stamp persists cap s
  | .faultCauseEnd code => Sys2Proof.Machine.execFaultCauseEnd code s
  | .fltAck m n => Sys2Proof.Machine.execFltAck m n s
  | .fltClear m n => Sys2Proof.Machine.execFltClear m n s
  | .fltInj m v => Sys2Proof.Machine.execFltInj m v s
  | .eccUncorrectable addr finder => Sys2Proof.Machine.execEccUncorrectable addr finder s
  | .eccReloadDone addr => Sys2Proof.Machine.execEccReloadDone addr s
  | .scrubPass x => Sys2Proof.Machine.execScrubPass x s
  | .busError master addr access width => Sys2Proof.Machine.execBusError master addr access width s
  | .journalEntry origin type refused target old new => Sys2Proof.Machine.execJournalEntry origin type refused target old new s
  | .journalCopy ok => Sys2Proof.Machine.execJournalCopy ok s
  | .journalEraseDone ok => Sys2Proof.Machine.execJournalEraseDone ok s
  | .journalRetry responds => Sys2Proof.Machine.execJournalRetry responds s
  | .journalFlushEnd => Sys2Proof.Machine.execJournalFlushEnd s
  | .jnlNote m v => Sys2Proof.Machine.execJnlNote m v s
  | .comparatorResolve c inBand above => Sys2Proof.Machine.execComparatorResolve c inBand above s
  | .comparatorCrossing c above => Sys2Proof.Machine.execComparatorCrossing c above s
  | .comparatorCalibration c agreed inRange => Sys2Proof.Machine.execComparatorCalibration c agreed inRange s
  | .cmpCfgWrite c m v => Sys2Proof.Machine.execCmpCfgWrite c m v s
  | .cmpThresholdWrite c m dac v => Sys2Proof.Machine.execCmpThresholdWrite c m dac v s
  | .cmpLatchClear m cold v => Sys2Proof.Machine.execCmpLatchClear m cold v s
  | .routerEvent src => Sys2Proof.Machine.execRouterEvent src s
  | .evrUnmask m src => Sys2Proof.Machine.execEvrUnmask m src s
  | .sourceStuck src => Sys2Proof.Machine.execSourceStuck src s
  | .evrGdisRel m v => Sys2Proof.Machine.execEvrGdisRel m v s
  | .evrSwtrig m hi v => Sys2Proof.Machine.execEvrSwtrig m hi v s
  | .sapServiceMissing => Sys2Proof.Machine.execSapServiceMissing s
  | .sapGateCommand ch on => Sys2Proof.Machine.execSapGateCommand ch on s
  | .deadTimeEnd ch => Sys2Proof.Machine.execDeadTimeEnd ch s
  | .hardCrossing chans => Sys2Proof.Machine.execHardCrossing chans s
  | .softTurnoffEnd g => Sys2Proof.Machine.execSoftTurnoffEnd g s
  | .warnCrossing ch => Sys2Proof.Machine.execWarnCrossing ch s
  | .blankingEnd ch => Sys2Proof.Machine.execBlankingEnd ch s
  | .gdrRel m v => Sys2Proof.Machine.execGdrRel m v s
  | .grpEnWrite m v => Sys2Proof.Machine.execGrpEnWrite m v s
  | .rptonlyWrite m v => Sys2Proof.Machine.execRptonlyWrite m v s
  | .bootstrapRefresh leg => Sys2Proof.Machine.execBootstrapRefresh leg s
  | .bootstrapUv leg => Sys2Proof.Machine.execBootstrapUv leg s
  | .bootstrapRelease leg => Sys2Proof.Machine.execBootstrapRelease leg s
  | .vdrvOutOfRange => Sys2Proof.Machine.execVdrvOutOfRange s
  | .vdrvRecovered => Sys2Proof.Machine.execVdrvRecovered s
  | .senseTrim ch inRange => Sys2Proof.Machine.execSenseTrim ch inRange s
  | .sapStart m stage => Sys2Proof.Machine.execSapStart m stage s
  | .sapStop m stage => Sys2Proof.Machine.execSapStop m stage s
  | .mainsLoss => Sys2Proof.Machine.execMainsLoss s
  | .mainsRestored => Sys2Proof.Machine.execMainsRestored s
  | .inrushClose => Sys2Proof.Machine.execInrushClose s
  | .loopFault x => Sys2Proof.Machine.execLoopFault x s
  | .sapInputAction ix => Sys2Proof.Machine.execSapInputAction ix s
  | .sapHeartbeat => Sys2Proof.Machine.execSapHeartbeat s
  | .hotAdcSample codes => Sys2Proof.Machine.execHotAdcSample codes s
  | .ethFrameReceive p f => Sys2Proof.Machine.execEthFrameReceive p f s
  | .prpSupervisionSend => Sys2Proof.Machine.execPrpSupervisionSend s
  | .lanSilent lan => Sys2Proof.Machine.execLanSilent lan s
  | .ethLinkDown p => Sys2Proof.Machine.execEthLinkDown p s
  | .ethLinkUp p gig => Sys2Proof.Machine.execEthLinkUp p gig s
  | .relayMoveDone pair => Sys2Proof.Machine.execRelayMoveDone pair s
  | .relayMismatch pair => Sys2Proof.Machine.execRelayMismatch pair s
  | .bypCloseWrite m v => Sys2Proof.Machine.execBypCloseWrite m v s
  | .portEnWrite m v => Sys2Proof.Machine.execPortEnWrite m v s
  | .pdelayReqSend p => Sys2Proof.Machine.execPdelayReqSend p s
  | .pdelayRespReceive p msg delay => Sys2Proof.Machine.execPdelayRespReceive p msg delay s
  | .pdelayReqReceive p msg turnaround => Sys2Proof.Machine.execPdelayReqReceive p msg turnaround s
  | .ptpSyncReceive p msg egress => Sys2Proof.Machine.execPtpSyncReceive p msg egress s
  | .ptpFollowUpReceive p msg => Sys2Proof.Machine.execPtpFollowUpReceive p msg s
  | .followUpTimeout lan => Sys2Proof.Machine.execFollowUpTimeout lan s
  | .ptpAnnounceReceive p msg d => Sys2Proof.Machine.execPtpAnnounceReceive p msg d s
  | .announceTimeout lan => Sys2Proof.Machine.execAnnounceTimeout lan s
  | .arpRequest p ip asker => Sys2Proof.Machine.execArpRequest p ip asker s
  | .icmpEcho p data => Sys2Proof.Machine.execIcmpEcho p data s
  | .openSession port role key flags nonce tagOk => Sys2Proof.Machine.execOpenSession port role key flags nonce tagOk s
  | .closeSession h => Sys2Proof.Machine.execCloseSession h s
  | .keepalive h => Sys2Proof.Machine.execKeepalive h s
  | .subscribe h on => Sys2Proof.Machine.execSubscribe h on s
  | .mgmtRead h addr n => Sys2Proof.Machine.execMgmtRead h addr n s
  | .mgmtWrite h addr words => Sys2Proof.Machine.execMgmtWrite h addr words s
  | .journalRead h src first n => Sys2Proof.Machine.execJournalRead h src first n s
  | .captureRead h word n => Sys2Proof.Machine.execCaptureRead h word n s
  | .cmdStart h => Sys2Proof.Machine.execCmdStart h s
  | .cmdStop h => Sys2Proof.Machine.execCmdStop h s
  | .hostmsg h bytes => Sys2Proof.Machine.execHostmsg h bytes s
  | .safetyParam h block => Sys2Proof.Machine.execSafetyParam h block s
  | .seedBegin h section_ total => Sys2Proof.Machine.execSeedBegin h section_ total s
  | .seedData h off bytes => Sys2Proof.Machine.execSeedData h off bytes s
  | .seedCommit h => Sys2Proof.Machine.execSeedCommit h s
  | .seedCommitDone bank keysOk newKeys changed => Sys2Proof.Machine.execSeedCommitDone bank keysOk newKeys changed s
  | .seedAbort h => Sys2Proof.Machine.execSeedAbort h s
  | .sessionIdleTimeout n => Sys2Proof.Machine.execSessionIdleTimeout n s
  | .notify n rec => Sys2Proof.Machine.execNotify n rec s
  | .ethIslandRestart => Sys2Proof.Machine.execEthIslandRestart s
  | .canFrameReceive c f => Sys2Proof.Machine.execCanFrameReceive c f s
  | .timeSyncMessage c f => Sys2Proof.Machine.execTimeSyncMessage c f s
  | .timeFupMessage c f => Sys2Proof.Machine.execTimeFupMessage c f s
  | .canTxreq c m v => Sys2Proof.Machine.execCanTxreq c m v s
  | .canTxBufferWrite c m b w v => Sys2Proof.Machine.execCanTxBufferWrite c m b w v s
  | .canTxcancel c m v => Sys2Proof.Machine.execCanTxcancel c m v s
  | .canTxEligible c b => Sys2Proof.Machine.execCanTxEligible c b s
  | .canTxLate c b => Sys2Proof.Machine.execCanTxLate c b s
  | .canTxSuccess c b sof => Sys2Proof.Machine.execCanTxSuccess c b sof s
  | .canTxLost c b error => Sys2Proof.Machine.execCanTxLost c b error s
  | .canErrorPassive c tec rec => Sys2Proof.Machine.execCanErrorPassive c tec rec s
  | .canBusOff c tec => Sys2Proof.Machine.execCanBusOff c tec s
  | .canRecover c m => Sys2Proof.Machine.execCanRecover c m s
  | .canRecoveryDone c => Sys2Proof.Machine.execCanRecoveryDone c s
  | .canRxqRel c q m n => Sys2Proof.Machine.execCanRxqRel c q m n s
  | .canModeWrite c m mode => Sys2Proof.Machine.execCanModeWrite c m mode s
  | .canIntegrated c => Sys2Proof.Machine.execCanIntegrated c s
  | .canTxdTimeout c => Sys2Proof.Machine.execCanTxdTimeout c s
  | .powerOn scan => Sys2Proof.Machine.execPowerOn scan s
  | .seedSectionApply hashOk data => Sys2Proof.Machine.execSeedSectionApply hashOk data s
  | .endOfBoot keysOk => Sys2Proof.Machine.execEndOfBoot keysOk s
  | .seedCardRemoved => Sys2Proof.Machine.execSeedCardRemoved s
  | .seedCardInserted uniqueId => Sys2Proof.Machine.execSeedCardInserted uniqueId s
  | .runCmdStart m => Sys2Proof.Machine.execRunCmdStart m s
  | .runCmdStop m => Sys2Proof.Machine.execRunCmdStop m s
  | .crownWatchdogExpire core => Sys2Proof.Machine.execCrownWatchdogExpire core s
  | .powerLoss => Sys2Proof.Machine.execPowerLoss s
  | .thermalSample readings => Sys2Proof.Machine.execThermalSample readings s
  | .throttleInterval => Sys2Proof.Machine.execThrottleInterval s
  | .thermalCooled => Sys2Proof.Machine.execThermalCooled s
  | .railSample in5 in10 => Sys2Proof.Machine.execRailSample in5 in10 s
  | .registerWrite m addr width v => Sys2Proof.Machine.execRegisterWrite m addr width v s
  | .registerRead m addr width => Sys2Proof.Machine.execRegisterRead m addr width s
  | .graftLaneLock lane => Sys2Proof.Machine.execGraftLaneLock lane s
  | .nodeBlockLockGain r p port => Sys2Proof.Machine.execNodeBlockLockGain r p port s
  | .masterLostAgreement r p => Sys2Proof.Machine.execMasterLostAgreement r p s
  | .sv24Restored => Sys2Proof.Machine.execSv24Restored s
  | .tpsRecovered n => Sys2Proof.Machine.execTpsRecovered n s
  | .outputReturnTimeout o => Sys2Proof.Machine.execOutputReturnTimeout o s
  | .scrubPassOverdue => Sys2Proof.Machine.execScrubPassOverdue s
  | .crownLockstepMismatch core => Sys2Proof.Machine.execCrownLockstepMismatch core s
  | .fabricHandshakeTimeout => Sys2Proof.Machine.execFabricHandshakeTimeout s
  | .factoryJumperFitted => Sys2Proof.Machine.execFactoryJumperFitted s
  | .canTxdRecessive c => Sys2Proof.Machine.execCanTxdRecessive c s
  | .sapBootDone => Sys2Proof.Machine.execSapBootDone s
  | .switchReady => Sys2Proof.Machine.execSwitchReady s

end Sys2Proof.Machine
end

