-- ==== Sys2Proof/Safety.lean ====
section
/-! DEFINITION. The terms in which the statements about the block are written: what a command gives, a state in which no
event waits, room in the journal, and the invariant of a step. -/

namespace Sys2Proof.Machine

/-- Command `c` on state `s` answers a next state, and `P` holds of it. -/
def Gives (c : Instr) (s : State) (P : State → Prop) : Prop := ∃ t, exec c s = .next t ∧ P t

/-- No event waits for the router, no pulse stands (R333, R340), and the journal's entries are in their order (R316): what every step
leaves behind. -/
def State.Settled (s : State) : Prop :=
  s.evr.posted = [] ∧ s.evr.fired = [] ∧ s.jnl.mark = (s.reg JNL_HEAD).toNat

/-- The journal's ring takes `n` more entries before it overwrites one that is not copied, and has lost none that the copier
has not accounted for (R318). -/
def State.Room (s : State) (n : Nat) : Prop :=
  s.jnl.ovr = 0 ∧ (s.reg JNL_HEAD).toNat - (s.reg JNL_COPIED).toNat + n ≤ 8192

/-- A state in which a command that causes no event and makes at most `n` journal entries has its own effect and no other. -/
def State.Calm (s : State) (n : Nat) : Prop := s.Settled ∧ s.Room n

/-- No source of the event router is routed anywhere or guarded (R334, R338): an event is counted, and nothing follows from it. -/
def State.Unrouted (s : State) : Prop :=
  ∀ src, src < 256 → s.reg (EVR_SRC_DST_LO src) = 0 ∧ s.reg (EVR_SRC_DST_HI src) = 0 ∧ s.fld (EVR_SRC_CFG src) 31 24 = 0

/-- No fault is recorded, and none persists (R304). -/
def State.Faultless (s : State) : Prop :=
  s.flt.causes = [] ∧ s.flt.order = [] ∧ ∀ r, r < 64 → s.recUsed r = false

/-- A state without recorded faults whose events lead nowhere: what a command does is its own effect, and a raise opens record 13,
the first that any block may open (R304). -/
def State.Quiet (s : State) : Prop := s.Unrouted ∧ s.Calm 128 ∧ s.Faultless ∧ s.duplex = false

/-- A state whose events lead nowhere and whose recorded faults, if any, lie in the 64 records of R304. -/
def State.Tame (s : State) : Prop := s.Unrouted ∧ s.Calm 128 ∧ s.duplex = false ∧ ∀ r ∈ s.flt.order, r < 64

/-- The fault that a raise in a quiet state has recorded (R303, R304): its code and its unit. -/
def State.Recorded (t : State) (code unit : Nat) : Prop :=
  t.flt.order = [13] ∧ t.fld (FLT_REC_STAT 13) 15 0 = code ∧ t.bit (FLT_REC_STAT 13) 31 = true ∧
  t.bit (FLT_REC_STAT 13) 30 = false ∧ t.reg (FLT_REC_SRC 13) = BitVec.ofNat 32 (2 ^ unit)

/-- `c` is the request of header `h` with operation `op`, which takes at least the role `least` (R388). -/
def IsRequest (c : Instr) (h : MgmtHdr) (op least : Nat) : Prop :=
  match c with
  | .closeSession g => g = h ∧ op = 0x02 ∧ least = 0
  | .keepalive g => g = h ∧ op = 0x03 ∧ least = 0
  | .subscribe g _ => g = h ∧ op = 0x04 ∧ least = 0
  | .mgmtRead g _ _ => g = h ∧ op = 0x10 ∧ least = 0
  | .mgmtWrite g _ _ => g = h ∧ op = 0x11 ∧ least = 0
  | .journalRead g _ _ _ => g = h ∧ op = 0x20 ∧ least = 0
  | .captureRead g _ _ => g = h ∧ op = 0x21 ∧ least = 0
  | .cmdStart g => g = h ∧ op = 0x30 ∧ least = 1
  | .cmdStop g => g = h ∧ op = 0x30 ∧ least = 1
  | .hostmsg g _ => g = h ∧ op = 0x31 ∧ least = 1
  | .safetyParam g _ => g = h ∧ op = 0x40 ∧ least = 3
  | .seedBegin g _ _ => g = h ∧ op = 0x50 ∧ least = 2
  | .seedData g _ _ => g = h ∧ op = 0x51 ∧ least = 2
  | .seedCommit g => g = h ∧ op = 0x52 ∧ least = 2
  | .seedAbort g => g = h ∧ op = 0x53 ∧ least = 2
  | _ => False

/-- A request of header `h` is accepted in session `x`: the session is open with one of the five
roles, the tag verifies and SEQ is above H (R386, R387). -/
def State.Accepts (s : State) (h : MgmtHdr) (x : Session) : Prop :=
  3 ≤ s.stage ∧ s.sess h.session = some x ∧ x.role < 5 ∧ h.tagOk = true ∧ x.high < h.seq.toNat

/-- No frame waits at a line port or is on its way out of one (R374). -/
def State.LinesIdle (s : State) : Prop := s.eth.ports = []

/-- Frame `o p` has left every line port `p` that can send (R373). -/
def State.Sent (t : State) (o : Nat → Output) : Prop := ∀ p, p < 4 → t.portUp p = true → o p ∈ t.out

/-- The request of header `h` has been answered with a status and data: the reply is cached at its SEQ, and has been sent on every
line port that can send (R373, R387). -/
def State.Replied (t : State) (h : MgmtHdr) (op status : Nat) (data : List Word) : Prop :=
  let r : MgmtReply := { op := 128 + op, seq := h.seq.toNat, status := status, data := data }
  (∃ y, t.sess h.session = some y ∧ y.high = h.seq.toNat ∧ y.reply = some r) ∧ t.Sent fun p => .mgmtReply p h.session r

/-- `r` is `v` over `2 ^ sh` rounded to the nearest integer, a tie to the even one (R158). -/
def RoundsTo (v : Int) (sh : Nat) (r : Int) : Prop :=
  2 * (v - r * 2 ^ sh).natAbs ≤ 2 ^ sh ∧ (2 * (v - r * 2 ^ sh).natAbs = 2 ^ sh → r % 2 = 0)

/-- `w` is `v` over `2 ^ sh`, rounded first and then saturated to `n` bits (R128). -/
def Narrowed (v : Int) (sh n : Nat) (w : Int) : Prop :=
  ∃ r, RoundsTo v sh r ∧ w = max (-(2 ^ (n - 1))) (min (2 ^ (n - 1) - 1) r)

/-- The value `v` over `2 ^ sh`, rounded, lies outside `n` bits (R128). -/
def Leaves (v : Int) (sh n : Nat) : Prop := ∃ r, RoundsTo v sh r ∧ (r < -(2 ^ (n - 1)) ∨ 2 ^ (n - 1) ≤ r)

/-- A sum in the Q6.57 accumulator (R156). -/
def inAcc (v : Int) : Int := max (-(2 ^ 63)) (min (2 ^ 63 - 1) v)

/-- The next pick of engine `e` has opcode `opc`, in a pass that waits for nothing, and reads no poisoned word (R125, R136). -/
def State.PickNext (s : State) (e opc : Nat) : Prop := s.pickReady e opc = true ∧ s.badRead e = none

/-- What a pick of engine `e` that costs `cost` clocks leaves (R136, R142, R155): the signal words `ws` and the states' shadows
`sts` are written and no other, the pass goes on, and no other engine or part of the machine changes. -/
def PickRan (s t : State) (e : Fin 8) (cost : Nat) (ws : List (Nat × Word)) (sts : List (Nat × Int)) : Prop :=
  (∀ w, sigGet (t.eng e) w = match ws.find? (fun p => p.1 == w) with
    | some p => p.2
    | none => sigGet (s.eng e) w) ∧
  (∀ i, Sparse.get (fun _ => none) (t.eng e).stNew i = match sts.find? (fun p => p.1 == i) with
    | some p => some (BitVec.ofInt 48 p.2)
    | none => Sparse.get (fun _ => none) (s.eng e).stNew i) ∧
  ((t.eng e).idx, (t.eng e).clocks) = s.nextPick e 16 ((s.eng e).idx + 1) ((s.eng e).clocks + cost) ∧
  (t.eng e).st = (s.eng e).st ∧ (t.eng e).pub = (s.eng e).pub ∧ (t.eng e).coef = (s.eng e).coef ∧
  (∀ k : Fin 8, k ≠ e → t.eng k = s.eng k) ∧
  t.pending = s.pending ∧ t.tbs = s.tbs ∧ t.rings = s.rings ∧ t.nodes = s.nodes ∧ t.wvr = s.wvr ∧ t.crown = s.crown

/-- The saturation map after the current pick of engine `e` (R129): its bit is set where `b` holds; else nothing is noted. -/
def SatShown (s t : State) (e : Fin 8) (b : Prop) : Prop :=
  let i := (s.eng e).idx
  (b → i < 2048 → t.bit (HDL_SATMAP e (i / 32)) (i % 32) = true) ∧
  (¬ b → ∀ a, a < 0x34000000 → a ≠ TIM_EVENTS → t.reg a = s.reg a)

end Sys2Proof.Machine
end

