-- ==== Sys2Proof/Certificates/Slice0/Obligations.lean ====
section
/-! DEFINITION. The statements for the provers. `Gives c s P` says that command `c` answers a next state on `s` and that `P` holds of it. -/

open Sys2Proof Sys2Proof.Machine

/-! ## The queue -/

/-- A step on a state whose queue has a command in front is that command's effect on the state with the rest of the queue; an
empty queue lets one clock of the time bases and of the egress ports pass (the model's choice: log entries 2 and 49). -/
def Obligations.StepRunsTheFrontCommand : Prop :=
  (∀ (c : Instr) (q : List Instr) (s : State), step { s with pending := c :: q } = exec c { s with pending := q }) ∧
  (∀ s : State, s.pending = [] → step s = s.tick.ethClock.done)

/-! ## Time bases -/

/-- R39: at the wrap a counter goes on from 0 with no other effect on any base; its epoch register counts wraps modulo 2^32; no fault is
raised, no event reaches the router and nothing leaves the module. -/
def Obligations.CounterWrapHasNoOtherEffect : Prop :=
  (∀ (n : Fin 4) (s : State), s.Calm 1 → Gives (.tbWrap n) s fun t =>
    t.tb n = { s.tb n with cnt := 0 } ∧ t.reg (TIM_TB_EPOCH n) = s.reg (TIM_TB_EPOCH n) + 1 ∧
    (∀ k : Fin 4, k ≠ n → t.tb k = s.tb k ∧ t.reg (TIM_TB_EPOCH k) = s.reg (TIM_TB_EPOCH k)) ∧
    t.flt = s.flt ∧ t.evr = s.evr ∧ t.out = s.out)

/-- R47: an accepted sample within the base's correction threshold sets I and F of the base, and FREQ_LIMITED where F was clamped. A sample
is accepted where the outlier gate lets it pass or has rejected GATE_N samples in a row (R48). The samples of TB0 from TB2 and of a base in
holdover have rules of their own (R49, R50, R55). -/
def Obligations.ServoSampleSetsIAndF : Prop :=
  ∀ (n : Fin 4) (e : Time) (s : State), s.sourced n = true → (s.tb n).slewTo = none →
    (s.gated n e.toInt = false ∨ max 1 (s.fld (TIM_TB_GATE n) 19 16) ≤ (s.tb n).rej) → s.inHold n = false →
    (n = 0 → s.src 0 ≠ 1 ∨ s.inHold 2 = false) → (n = 2 → s.src 0 ≠ 1) → (e.toInt.natAbs : Int) ≤ s.thr n →
    Gives (.servoSample n e) s fun t =>
      let i := clampI (-s.flim n) (s.flim n) ((s.tb n).integ + (s.reg (TIM_TB_KI n)).toNat * e.toInt)
      let f := (s.reg (TIM_TB_KP n)).toNat * e.toInt + i
      (t.tb n).integ = i ∧ (t.tb n).f = clampI (-s.flim n) (s.flim n) f ∧
      t.bit (TIM_TB_STATUS n) 5 = decide (f < -s.flim n ∨ s.flim n < f) ∧ (∀ k : Fin 4, k ≠ n → t.tb k = s.tb k)

/-- R53: an accepted sample of TB2 or TB3 beyond the step threshold steps the base by e where STEP_EN is set, and slews it at ±FLIM where
it is clear, I held in both, without a fault; an explicit correction of TB2 or TB3, absolute or relative, is applied as a step of any
size. -/
def Obligations.FarmAndTurbineTimeStep : Prop :=
  (∀ (n : Fin 4) (e : Time) (s : State), s.Calm 0 → 2 ≤ n.val → s.sourced n = true → (s.tb n).slewTo = none →
    s.gated n e.toInt = false → (s.tb n).rej < max 1 (s.fld (TIM_TB_GATE n) 19 16) → s.inHold n = false → (n = 2 → s.src 0 ≠ 1) → s.thr n < e.toInt.natAbs →
    Gives (.servoSample n e) s fun t =>
      (t.tb n).integ = (s.tb n).integ ∧
      if s.bit (TIM_TB_CTRL n) 4 then
        ((t.now n : Int) - s.now n - e.toInt) % 2 ^ 64 = 0 ∧
        (s.reg (CAN_TXPEND 0) = 0 → s.reg (CAN_TXPEND 1) = 0 → t.flt = s.flt)
      else
        (t.tb n).cnt = (s.tb n).cnt ∧ (t.tb n).f = (if e.toInt < 0 then -s.flim n else s.flim n) ∧
        t.bit (TIM_TB_STATUS n) 2 = true ∧ t.flt = s.flt) ∧
  (∀ (n : Fin 4) (m : Master) (v : Time) (s : State), 2 ≤ n.val →
    Gives (.tbLoad n m v) s fun t => t.now n = v.toNat ∧ (t.tb n).integ = (s.tb n).integ) ∧
  (∀ (n : Fin 4) (m : Master) (d : Word) (s : State), 2 ≤ n.val →
    Gives (.tbAdj n m d) s fun t => ((t.now n : Int) - s.now n - d.toInt * 256) % 2 ^ 64 = 0)

/-- R46, R51, R52, R56: a load or an adjustment of the unarmed TB0 of any size sets TB0 and TB1 and restarts the grid; TB1 is locked after
the end of boot; any other load or adjustment of TB0 or TB1 steps the base where it is within the threshold, and else slews it towards the
value; when a slew is done the base stands at its value, with LOCKED and SLEWING clear. A good temperature sets the compensation C(T),
limited to 50 ppm; one that is missing, out of range or too far from the one before keeps it and clears COMP_ACTIVE. The offset of TB1 and
the deviation of the rates show in their registers, and one out of its limit, or an oscillator that has stopped, clears XCHK_OK; each of
these faults is held. -/
def Obligations.ReferenceCorrectionsAndCrossChecks : Prop :=
  ((∀ (m : Master) (v : Time) (s : State), s.armed = false → Gives (.tbLoad 0 m v) s fun t =>
    t.now 0 = v.toNat ∧ t.now 1 = v.toNat ∧ t.tim.nextB = (v.toNat + ns s.tcyc) % 2 ^ 64 ∧ t.tim.nextK = 0 ∧ t.tim.origin = none) ∧
  (∀ (m : Master) (d : Word) (s : State), s.armed = false → Gives (.tbAdj 0 m d) s fun t =>
    ((t.now 0 : Int) - s.now 0 - d.toInt * 256) % 2 ^ 64 = 0 ∧ t.now 1 = t.now 0 ∧
    t.tim.nextB = (t.now 0 + ns s.tcyc) % 2 ^ 64 ∧ t.tim.nextK = 0 ∧ t.tim.origin = none) ∧
  (∀ (m : Master) (v : Time) (d : Word) (s : State), s.booted = true →
    (Gives (.tbLoad 1 m v) s fun t => t.tbs = s.tbs ∧ t.acc = 6) ∧ (Gives (.tbAdj 1 m d) s fun t => t.tbs = s.tbs ∧ t.acc = 6)) ∧
  (∀ (n : Fin 4) (m : Master) (v : Time) (s : State), n.val < 2 → (n = 0 → s.armed = true) → (n = 1 → s.booted = false) →
    Gives (.tbLoad n m v) s fun t =>
      if ((tdiff v.toNat (s.now n)).natAbs : Int) ≤ s.thr n then t.now n = v.toNat ∧ (t.tb n).slewTo = none
      else (t.tb n).cnt = (s.tb n).cnt ∧ (t.tb n).slewTo = some (BitVec.ofNat 80 (v.toNat * 2 ^ 16)) ∧
        t.bit (TIM_TB_STATUS n) 2 = true) ∧
  (∀ (n : Fin 4) (m : Master) (d : Word) (s : State), n.val < 2 → (n = 0 → s.armed = true) → (n = 1 → s.booted = false) →
    Gives (.tbAdj n m d) s fun t =>
      if ((d.toInt * 256).natAbs : Int) ≤ s.thr n then
        ((t.now n : Int) - s.now n - d.toInt * 256) % 2 ^ 64 = 0 ∧ (t.tb n).slewTo = none
      else (t.tb n).cnt = (s.tb n).cnt ∧ t.bit (TIM_TB_STATUS n) 2 = true ∧
        ∃ v : Time, ((v.toNat : Int) - s.now n - d.toInt * 256) % 2 ^ 64 = 0 ∧
          (t.tb n).slewTo = some (BitVec.ofNat 80 (v.toNat * 2 ^ 16))) ∧
  (∀ (n : Fin 4) (s : State), Gives (.slewDone n) s fun t => match (s.tb n).slewTo with
    | some v => (t.tb n).cnt = v ∧ (t.tb n).slewTo = none ∧ t.bit (TIM_TB_STATUS n) 1 = false ∧ t.bit (TIM_TB_STATUS n) 2 = false
    | none => t.tbs = s.tbs)) ∧
  ((∀ (x : Option (BitVec 16)) (s : State), Gives (.compSample x) s fun t =>
    let ok := ∃ w, x = some w ∧ -7040 ≤ w.toInt ∧ w.toInt ≤ 19200 ∧ ∀ p, s.tim.lastTemp = some p → (w.toInt - p).natAbs ≤ 640
    (ok → t.bit TIM_STATUS 3 = s.bit TIM_COMP_CTRL 0 ∧ ∀ w, x = some w →
      let d := w.toInt - 3200
      let lim := 50000 * 2 ^ 37
      t.reg TIM_COMP_TEMP = BitVec.ofNat 32 w.toNat ∧ t.tim.lastTemp = some w.toInt ∧
      t.tim.comp = max (-lim) (min lim ((s.reg (TIM_COMP_C 0)).toInt * 2 ^ 21 + (s.reg (TIM_COMP_C 1)).toInt * d * 2 ^ 14 +
        (s.reg (TIM_COMP_C 2)).toInt * d ^ 2 * 2 ^ 7 + (s.reg (TIM_COMP_C 3)).toInt * d ^ 3)) ∧
      (t.reg TIM_COMP_PPB).toInt = t.tim.comp / 2 ^ 29) ∧
    (¬ ok → t.tim.comp = s.tim.comp ∧ t.bit TIM_STATUS 3 = false ∧ (0x010A, 31) ∈ t.flt.causes)) ∧
  (∀ s : State, Gives .xchkSample s fun t =>
    let d := tdiff (s.now 1) (s.now 0)
    (t.reg TIM_XCHK_OFFSET).toInt = max (-(2 ^ 31)) (min (2 ^ 31 - 1) (d / 65536)) ∧ t.tbs = s.tbs ∧
    (ns (s.fld TIM_XCHK_LIMIT 15 0) < d.natAbs → t.bit TIM_STATUS 4 = false ∧ (0x0108, 31) ∈ t.flt.causes) ∧
    (d.natAbs ≤ ns (s.fld TIM_XCHK_LIMIT 15 0) → (∀ c ∈ s.flt.causes, c.1 ≠ 0x0108 ∧ c.1 ≠ 0x0109) → t.bit TIM_STATUS 4 = true)) ∧
  (∀ (dev : Word) (s : State), Gives (.rateCheck dev) s fun t => t.reg TIM_XCHK_RATE = dev ∧ t.tbs = s.tbs ∧
    (256000 < dev.toInt.natAbs → t.bit TIM_STATUS 4 = false ∧ (0x0109, 31) ∈ t.flt.causes) ∧
    (dev.toInt.natAbs ≤ 256000 → (∀ c ∈ s.flt.causes, c.1 ≠ 0x0108 ∧ c.1 ≠ 0x0109) → t.bit TIM_STATUS 4 = true)) ∧
  (∀ (o : Fin 2) (s : State), Gives (.oscStopped o) s fun t => t.tbs = s.tbs ∧
    t.bit TIM_STATUS (1 + o) = false ∧ t.bit TIM_STATUS 4 = false ∧ (0x0109, 31) ∈ t.flt.causes))

/-- R55, R58, R62: the holdover of a sourced TB2 or TB3 and its limit; the simultaneous stamps; the servos' integrators. And, in
the clock that a step on an empty queue lets pass (the model's choice: log entry 2), the counter of each base whose oscillator runs goes on
modulo 2^80, 16 bits below the visible 48.16 value, with I and F as before; a base whose oscillator has stopped stays; no fault is raised
and no event reaches the router. -/
def Obligations.HoldoverStampsAndReset : Prop :=
  (∀ (b : Fin 2) (s : State), Gives (.holdoverTimeout b) s fun t =>
    if s.sourced (2 + b) = true ∧ s.inHold (2 + b) = false then
      t.inHold (2 + b) = true ∧ t.bit (TIM_TB_STATUS (2 + b)) 1 = false ∧ t.reg (TIM_TB_HOLD_S (2 + b)) = 0 ∧
      (t.tb (2 + b)).cnt = (s.tb (2 + b)).cnt ∧ (t.tb (2 + b)).integ = (s.tb (2 + b)).integ
    else t.tbs = s.tbs ∧ t.reg (TIM_TB_STATUS (2 + b)) = s.reg (TIM_TB_STATUS (2 + b))) ∧
  (∀ (b : Fin 2) (s : State), s.inHold (2 + b) = true → s.reg (TIM_TB_HOLD_LIM (2 + b)) ≠ 0 → Gives (.holdoverLimit b) s fun t =>
    t.bit (TIM_TB_STATUS (2 + b)) 4 = true ∧ t.tbs = s.tbs ∧
    (s.bit (TIM_TB_STATUS (2 + b)) 4 = false → t.reg (TIM_TB_HOLD_S (2 + b)) = s.reg (TIM_TB_HOLD_LIM (2 + b)))) ∧
  (∀ (m : Master) (s : State), s.Calm 1 → Gives (.xstampTrig m) s fun t => t.tbs = s.tbs ∧ bit (t.current TIM_XSTAMP_CTRL) 8 = true ∧
    ∀ n : Fin 4, join64 (t.current (TIM_XSTAMP_TB_LO n)) (t.current (TIM_XSTAMP_TB_LO n + 4)) = s.now n) ∧
  (∀ (m : Master) (mask : BitVec 4) (s : State), Gives (.servoResetI m mask) s fun t => ∀ n : Fin 4,
    t.tb n = { s.tb n with integ := if mask.getLsbD n then 0 else (s.tb n).integ }) ∧
  (∀ s : State, s.Calm 1 → s.pending = [] → ∃ t, step s = .next t ∧ t.flt = s.flt ∧ t.evr = s.evr ∧ ∀ n : Fin 4,
    (s.bit (TIM_TB_STATUS n) 0 = true →
      let next := (s.tb n).cnt.toNat + ((s.tb n).rem + s.addend n) / 16000000000
      (t.tb n).cnt.toNat = next % 2 ^ 80 ∧ (t.tb n).integ = (s.tb n).integ ∧ (t.tb n).f = (s.tb n).f ∧
      t.reg (TIM_TB_EPOCH n) = if next < 2 ^ 80 then s.reg (TIM_TB_EPOCH n) else s.reg (TIM_TB_EPOCH n) + 1) ∧
    (s.bit (TIM_TB_STATUS n) 0 = false → t.tb n = s.tb n ∧ t.reg (TIM_TB_EPOCH n) = s.reg (TIM_TB_EPOCH n)))

/-- R29, R42, R44, R52: a pending time that is due acts: the grid goes on from its origin, the capture is triggered at the next t_out, the
transmit buffer may be sent. A write of the grid origin within its bounds, of T_cyc, T_IN or T_OUT that passes the checks of R29 waits for
its time, and what is in force stays until then; DISARM in the stopped state with SPB held and no cell enabled makes TB0 unarmed. A write
that is refused changes none of this. -/
def Obligations.GridSettings : Prop :=
  (∀ s : State, (∀ v, s.tim.origin = some v → Gives (.pendingTimeDue .gridOrigin) s fun t =>
      t.tim.origin = none ∧ t.tim.nextB = v ∧ t.tim.nextK = 0) ∧
    (s.cap.trig.isSome = true → s.Calm 0 → Gives (.pendingTimeDue .captureTrigger) s fun t => t.cap.due = true ∧ t.cap.trig = none) ∧
    ∀ (c : Fin 2) (b : Fin 32), s.Calm 0 → s.bufSt c b = 2 → Gives (.pendingTimeDue (.canBuffer c b)) s fun t =>
      (t.txb c b).eligible = true ∧ (t.txb c b).due = none ∧ t.canMem = s.canMem) ∧
  (∀ (m : Master) (v : Time) (s : State), Gives (.gridOriginWrite m v) s fun t =>
    let d := tdiff v.toNat (s.now 0)
    if s.armed = false ∧ ns 1000 ≤ d ∧ d ≤ ns 1000000000 then
      t.tim = { s.tim with origin := some v.toNat } ∧ t.pair TIM_GRID_ORIGIN_LO = v.toNat ∧ t.acc = s.acc
    else t.tim = s.tim ∧ t.acc = 3 ∧ (s.Quiet → t.Recorded 0x010B 31)) ∧
  (∀ (m : Master) (s : State), Gives (.disarm m) s fun t =>
    if s.stopped = true ∧ s.spb = true ∧ s.cellOn = false then t.armed = false else t.armed = s.armed ∧ t.acc = 3) ∧
  (∀ (m : Master) (v : BitVec 2) (s : State), Gives (.tcycWrite m v) s fun t =>
    t.reg TIM_CYCLE_CFG = s.reg TIM_CYCLE_CFG ∧
    if s.stopped = true ∧ s.spb = true ∧ s.cellOn = false ∧ s.tcycFits v.toNat = true then
      t.tim = { s.tim with tcyc := some (v.toNat, s.originOf m) }
    else t.tim = s.tim ∧ t.acc = 3) ∧
  (∀ (m : Master) (isOut : Bool) (v : BitVec 17) (s : State), s.mirrorBars m = false → m ≠ .mirror →
    Gives (.tinToutWrite m isOut v) s fun t =>
      let tin := if isOut then s.pendingOr s.tim.tin TIM_T_IN else v.toNat
      let tout := if isOut then v.toNat else s.pendingOr s.tim.tout TIM_T_OUT
      t.reg TIM_T_IN = s.reg TIM_T_IN ∧ t.reg TIM_T_OUT = s.reg TIM_T_OUT ∧
      if s.timesFit tin tout then
        (if isOut then t.tim.tout else t.tim.tin) = some (v.toNat, s.originOf m) ∧
        (if isOut then t.tim.tin = s.tim.tin else t.tim.tout = s.tim.tout)
      else t.tim = s.tim ∧ t.acc = 3)

/-- R22 to R26, R43, R95, R130 to R133, R135, R146, R205, R265: the events of a cycle. A boundary stands at its time and number, and the
next one T_cyc later; every ring in control launches its COLLECT frame; at the input cut word 0 of every engine is the cycle number, and
an engine that runs starts its pass with its shadow as published; no pass outlives t_out; the banks of the Draft swap where the Weaver has
finished; a newer mandate makes the module in control yield. -/
def Obligations.CycleEvents : Prop :=
  (∀ s : State, s.duplex = false → s.tim.tcyc = none → Gives .cycleBoundary s fun t => t.cyc = CycleUnit.reset ∧
    t.pair TIM_BOUNDARY_LO = s.tim.nextB % 2 ^ 64 ∧ t.reg TIM_CYCLE_NUM = BitVec.ofNat 32 s.tim.nextK ∧
    t.tim.nextB = (s.tim.nextB + ns s.tcyc) % 2 ^ 64 ∧ t.tim.nextK = (s.tim.nextK + 1) % 2 ^ 32) ∧
  (∀ s : State, Gives .collectLaunch s fun t => ∀ r ∈ s.ringsUp,
    (t.ring r).sent = true ∧ (t.ring r).collects = (s.ring r).collects + 1 ∧
    .warpTx (2 * r) (formed (s.collectFrame r .cw)) ∈ t.out ∧ .warpTx (2 * r + 1) (formed (s.collectFrame r .ccw)) ∈ t.out) ∧
  (∀ s : State, Gives .inputCut s fun t => t.cyc.cutDone = true ∧ ∀ e : Fin 8,
    (t.eng e).did = false ∧ sigGet (t.eng e) 0 = s.reg TIM_CYCLE_NUM ∧ (t.eng e).pub = (s.eng e).pub ∧
    (s.duplex = false → s.hdlState e = 2 → (t.eng e).inRun = true ∧ (t.eng e).atEnd = false ∧
      (t.eng e).shadow = (s.eng e).pub ∧ (t.eng e).stNew = [] ∧ ((t.eng e).idx, (t.eng e).clocks) = s.nextPick e 16 0 0)) ∧
  (∀ s : State, Gives .tOut s fun t => t.cyc.outDone = true ∧ ∀ e : Fin 8, (t.eng e).inRun = false) ∧
  (∀ (finished : Bool) (s : State), Gives (.draftHandover finished) s fun t => t.wvr.built = false ∧
    t.bit WVR_STATUS 0 = (if s.wvr.built && finished then !s.bit WVR_STATUS 0 else s.bit WVR_STATUS 0)) ∧
  (∀ (r : Fin 4) (mandate : BitVec 16) (s : State), s.controls = true → ringUp (s.ring r) = true →
    newer mandate.toNat (s.mandate r) = true → s.gft.hoPhase < 2 → Gives (.yield r mandate) s fun t =>
      t.gft.yielding = true ∧ t.rings = s.rings)


/-! ## Warp rings -/

/-- R95, R98 to R100, R113, R115: enabling a ring that is not enabled brings it up from its map, past the opening at once where both ports
have block lock, or passes where a duplex module is not in control; disabling stops it; block lock shows in its state and ends the opening
once both ports have it, and the bypass shows where it has moved to; the time-out of the opening goes on wrapped with one port and fails the
ring with none. A ring that closes is no longer wrapped and its checks wait for the next exchange; a node that the map places is lost until it
is readmitted, and READMIT takes back only a node that is present and has passed its checks; any other is refused with 0x020A. -/
def Obligations.RingsOpenCloseAndLoseNodes : Prop :=
  ((∀ (r : Fin 4) (m : Master) (s : State), Gives (.ringEnable r m) s fun t => t.ringEn r = true ∧
    (s.ringEn r = true → t.rings = s.rings) ∧
    (s.ringEn r = false → (t.ring r).map = (s.ring r).map ∧ (t.ring r).txq = [] ∧ (t.ring r).wrapped = false ∧ (t.ring r).conv = false ∧
      (t.ring r).step = if s.duplex && s.role != 4 then 8
        else if s.bit (WRP_RING_STATE r) 9 && s.bit (WRP_RING_STATE r) 10 then 2 else 1)) ∧
  (∀ (r : Fin 4) (m : Master) (s : State), Gives (.ringDisable r m) s fun t =>
    t.ringEn r = false ∧ (t.ring r).step = 0 ∧ (t.ring r).map = (s.ring r).map ∧ (t.ring r).txq = [] ∧
    (t.ring r).wrapped = false) ∧
  (∀ (p : Fin 8) (locked : Bool) (s : State), Gives (.blockLockChange p locked) s fun t =>
    let r := p.val / 2
    t.bit (WRP_RING_STATE r) (9 + p.val % 2) = locked ∧
    (t.ring r).step = if (s.ring r).step = 1 ∧ locked = true ∧ s.bit (WRP_RING_STATE r) (10 - p.val % 2) = true then 2
      else (s.ring r).step) ∧
  (∀ (r : Fin 4) (s : State), Gives (.bypassMoveDone r) s fun t =>
    t.bit (WRP_RING_STATE r) 8 = !s.ringEn r ∧ t.rings = s.rings) ∧
  (∀ (r : Fin 4) (s : State), (s.ring r).step = 1 → Gives (.ringLockTimeout r) s fun t =>
    if s.bit (WRP_RING_STATE r) 9 || s.bit (WRP_RING_STATE r) 10 then
      (t.ring r).step = 2 ∧ (t.ring r).wrapped = true ∧ (0x0201, r.val) ∈ t.flt.causes
    else (t.ring r).step = 9 ∧ (0x0206, r.val) ∈ t.flt.causes)) ∧
  ((∀ (r : Fin 4) (s : State), (s.ring r).wrapped = true → Gives (.ringClose r) s fun t =>
    (t.ring r).wrapped = false ∧ (t.ring r).recheck = true ∧ (t.ring r).upSeen = 0 ∧ (t.ring r).dnSeen = 0) ∧
  (∀ (r : Fin 4) (a : Fin 64) (s : State), (mapEntry (s.ring r) a).isSome = true → (s.rnode r a).lost = false →
    Gives (.nodeLoss r a) s fun t => (t.rnode r a).lost = true ∧ (t.rnode r a).admitted = false ∧
      nbit (t.ring r).last a = false ∧ (0x0203, nodeTag r a) ∈ t.flt.causes) ∧
  (∀ (r : Fin 4) (a : Fin 64) (m : Master) (s : State), Gives (.readmit r a m) s fun t =>
    if (s.rnode r a).lost && (s.rnode r a).waiting && nbit (s.ring r).last a then
      (t.rnode r a).lost = false ∧ (t.rnode r a).admitted = true ∧ (t.rnode r a).waiting = false
    else t.rings = s.rings ∧ t.acc ≠ 0 ∧ (s.Quiet → t.Recorded 0x020A r)))

/-- R24, R82, R89, R90, R105, R110, R118, R265: the first valid status record of the current boundary that comes before the cut is taken; any
other leaves the record that is held; a COLLECT frame that comes back is noted, and a returning one wraps the ring; a frame of a lower
mandate does neither. The module launches SYNC frames both ways and numbers the exchanges; a copy that returns on a closed ring gives the
ring delay of its direction, and two delays of one exchange the mean link delay, which the model rounds down (log entry 27); a converged ring
runs; one that does not converge in time raises 0x0206; RESYNC starts convergence again. -/
def Obligations.StatusRecordsReturnsAndSync : Prop :=
  ((∀ (r : Fin 4) (hdr : FrameHdr) (bk : Time) (returning : Bool) (rec : List Word) (s : State),
    let a := Sys2Proof.fld (nth rec 0 0) 5 0
    Gives (.statusRecordReceive r hdr bk returning rec) s fun t =>
      if hdr.hcrcOk = true ∧ s.lowFrame r hdr = false ∧ recordOk rec = true ∧ s.ringEn r = true ∧ 1 ≤ a ∧ a ≤ 40 ∧ bk.toNat = s.bk ∧
          s.cyc.cutDone = false ∧ nbit (s.ring r).got a = false then
        (t.rnode r a).record = rec ∧ nbit (t.ring r).got a = true
      else (∀ b, t.rnode r b = s.rnode r b) ∧ (t.ring r).got = (s.ring r).got) ∧
  (∀ (r : Fin 4) (port : Fin 2) (f : CollectFrame) (s : State), f.hdr.hcrcOk = true → ringUp (s.ring r) = true →
    Gives (.collectFrameReturn r port f) s fun t =>
      if s.lowFrame r f.hdr = true then t.rings = s.rings
      else if f.hdr.dir = .cw ∧ port = 0 ∨ f.hdr.dir = .ccw ∧ port = 1 then
        (t.ring r).wrapped = true ∧ nbit (t.ring r).back 2 = true
      else if f.bk.toNat = s.bk then nbit (t.ring r).back (if f.hdr.dir = .cw then 0 else 1) = true
      else t.rings = s.rings)) ∧
  ((∀ (r : Fin 4) (s : State), s.controls = true → s.silent = false → ((s.ring r).step = 6 ∨ (s.ring r).step = 7) →
    Gives (.syncLaunch r) s fun t => (t.ring r).sseq = ((s.ring r).sseq + 1) % 65536 ∧
      .warpTx (2 * r) (formed (s.syncFrame r .cw)) ∈ t.out ∧ .warpTx (2 * r + 1) (formed (s.syncFrame r .ccw)) ∈ t.out) ∧
  (∀ (r : Fin 4) (port : Fin 2) (f : SyncFrame) (s : State), frameValid (.sync f) = true → ringUp (s.ring r) = true →
    (s.ring r).wrapped = false → f.hdr.mandate.toNat = s.mandate r → isReturning port f.hdr.dir = false →
    Gives (.syncFrameReturn ⟨r, port⟩ f) s fun t =>
      let d := some (f.hdr.seq.toNat, tdiff (s.stamp 0) f.origin.toNat - f.hdr.corr.toInt)
      (match f.hdr.dir with
      | .cw => (t.ring r).dcw = d ∧ (t.ring r).dccw = (s.ring r).dccw
      | .ccw => (t.ring r).dccw = d ∧ (t.ring r).dcw = (s.ring r).dcw) ∧
      ∀ q a b, (t.ring r).dcw = some (q, a) → (t.ring r).dccw = some (q, b) →
        ((t.pair (WRP_RING_PATH_LO r) : Int) - (a + b) / 2) % 2 ^ 64 = 0) ∧
  (∀ (r : Fin 4) (s : State), (s.ring r).step = 6 → Gives (.ringConverged r) s fun t =>
    (t.ring r).step = 7 ∧ (t.ring r).conv = true) ∧
  (∀ (r : Fin 4) (s : State), (s.ring r).step = 6 → Gives (.convergeTimeout r) s fun t =>
    (t.ring r).step = 6 ∧ (0x0206, r.val) ∈ t.flt.causes) ∧
  (∀ (r : Fin 4) (m : Master) (s : State), Gives (.resync r m) s fun t =>
    (t.ring r).conv = false ∧ (t.ring r).step = (s.ring r).step))

/-- R91, R92, R97, R103, R116: a transaction goes out on its side or both ways under the next number, and waits for its reply, but for a
WRITE of NODE_ADDR, which is over once sent; a copy that a node has answered ends it, or the second that none has, and a busy one has it sent
again with a larger NPAD. On a closed ring a HELLO from an unassigned node is kept until its second copy, which gives its position: a lost one
of the map is given its address and verified, and any other node is a stranger, as it is on a wrapped ring. A module in pass mode sends on
what it receives. -/
def Obligations.RingTransactions : Prop :=
  (∀ (r : Fin 4) (s : State) (x : MgmtTx) (q : List MgmtTx), s.controls = true → s.silent = false →
    ringUp (s.ring r) = true → (s.ring r).txq = x :: q → x.seq = none →
    Gives (.mgmtTransactionSend r) s fun t =>
      (t.ring r).mseq = ((s.ring r).mseq + 1) % 65536 ∧
      (x.purpose ≠ .address → (t.ring r).txq = { x with seq := some (s.ring r).mseq, blanks := 0 } :: q) ∧
      (x.purpose = .address → (s.ring r).step = 7 → (t.ring r).txq = q) ∧
      (x.side ≠ some .ccw → .warpTx (2 * r) (formed (s.mgmtFrame r (s.ring r).mseq x .cw)) ∈ t.out) ∧
      (x.side ≠ some .cw → .warpTx (2 * r + 1) (formed (s.mgmtFrame r (s.ring r).mseq x .ccw)) ∈ t.out)) ∧
  (∀ (r : Fin 4) (port : Fin 2) (f : MgmtFrame) (s : State) (x : MgmtTx) (q : List MgmtTx), frameValid (.mgmt f) = true →
    (s.ring r).step = 7 → f.hdr.mandate.toNat = s.mandate r → (s.ring r).txq = x :: q → x.seq = some f.hdr.seq.toNat →
    Gives (.mgmtReplyReceive ⟨r, port⟩ f) s fun t => (t.ring r).step = 7 ∧
      if f.status = 0 ∧ x.blanks = 0 then (t.ring r).txq = { x with blanks := 1 } :: q
      else if f.status = 4 ∧ x.purpose ≠ .bypass then
        (t.ring r).txq = { x with seq := none, npad := min 255 (2 * x.npad) } :: q
      else x.purpose = .scales → (t.ring r).txq = q) ∧
  (∀ (r : Fin 4) (port : Fin 2) (f : HelloFrame) (s : State), frameValid (.hello f) = true → (s.ring r).step = 7 →
    f.hstate.getLsbD 0 = true → Gives (.helloReceive r port f) s fun t =>
      let n := f.serial.toNat
      let q := f.hdr.seq.toNat
      let hops := f.hdr.hops.toNat
      ((s.ring r).wrapped = true → n ∈ (t.ring r).aliens) ∧
      ((s.ring r).wrapped = false → (s.ring r).hello = none →
        (t.ring r).hello = some (n, q, port.val, hops) ∧ (t.ring r).aliens = (s.ring r).aliens) ∧
      ∀ p h, (s.ring r).wrapped = false → (s.ring r).hello = some (n, q, p, h) → p ≠ port.val →
        let a := (if port.val = 0 then hops else h) + 1
        (t.ring r).hello = none ∧
        if h + hops + 1 = mapCount (s.ring r) ∧ (mapEntry (s.ring r) a).isSome = true ∧ (s.rnode r a).lost = true then
          (t.ring r).txq = (s.ring r).txq ++ [addrTx 62 0, identityRead (.verify n) a]
        else n ∈ (t.ring r).aliens) ∧
  (∀ (r : Fin 4) (dir : Dir) (residence : Time) (f : WarpFrame) (s : State), (s.ring r).step = 8 →
    Gives (.passForward r dir residence f) s fun t =>
      .passTx r dir (s.passFrame residence f) ∈ t.out ∧ t.rings = s.rings)

/-! ## Nodes -/

/-- R68, R79, R82, R108, R113, R117: a node's own reset; a control block outside a frame that is BLK by its type byte or by its other seven
bytes puts the node into BLOCKED with every target in HOLD, and goes on; an IDLE block changes nothing; any other block goes on, and is counted
where it is a data block or invalid. Loss and gain of block lock, the end of the turned copies, the master timer, and the loss of sync. -/
def Obligations.NodeResetAndBlocks : Prop :=
  (∀ (r : Fin 4) (p : Fin 64) (make : NodeMake) (s : State), Gives (.nodeReset r p make) s fun t =>
    t.node r p = Node.fresh make ∧
    ∀ (r' : Fin 4) (p' : Fin 64), (r', p') ≠ (r, p) → t.node r' p' = s.node r' p') ∧
  (∀ (r : Fin 4) (p : Fin 64) (port : Fin 2) (control : Bool) (b : BitVec 64) (s : State),
    Gives (.nodeBlkReceive r p ⟨port, control, b⟩) s fun t =>
      if control = true ∧ (b.toNat % 256 = 0x4B ∨ b.toNat / 256 = 0xF069A53C96C35A) then
        (t.node r p).blocked = true ∧ (t.node r p).chosen = [] ∧ (∀ k, (legOf (t.node r p) k).hold = true) ∧
        (t.node r p).held = (s.node r p).held ∧ .nodeBlock r p (1 - port.val) true b ∈ t.out
      else if control = true ∧ b.toNat % 256 = 0x1E then t.nodes = s.nodes
      else .nodeBlock r p (1 - port.val) control b ∈ t.out ∧
        if control = true ∧ blockBad b = false then t.nodes = s.nodes
        else t.node r p = { s.node r p with invalid := min 65535 ((s.node r p).invalid + 1) }) ∧
  (∀ (r : Fin 4) (p : Fin 64) (port : Fin 2) (s : State), Gives (.nodePortLockLoss r p port) s fun t =>
    (t.node r p).lock.getLsbD port = false ∧ (t.node r p).turned.getLsbD port = true) ∧
  (∀ (r : Fin 4) (p : Fin 64) (port : Fin 2) (s : State), Gives (.nodeBlockLockGain r p port) s fun t =>
    (t.node r p).lock.getLsbD port = true ∧ (t.node r p).turned = (s.node r p).turned) ∧
  (∀ (r : Fin 4) (p : Fin 64) (port : Fin 2) (s : State), Gives (.nodeWrapEnd r p port) s fun t =>
    (t.node r p).turned.getLsbD port = ((s.node r p).turned.getLsbD port && !(s.node r p).lock.getLsbD port)) ∧
  (∀ (r : Fin 4) (p : Fin 64) (s : State), Gives (.nodeMasterTimeout r p) s fun t => (t.node r p).lost = true) ∧
  (∀ (r : Fin 4) (p : Fin 64) (s : State), Gives (.masterLostAgreement r p) s fun t =>
    (t.node r p).agreed = ((s.node r p).lost || (s.node r p).agreed)) ∧
  (∀ (r : Fin 4) (p : Fin 64) (s : State), Gives (.nodeSyncTimeout r p) s fun t =>
    (t.node r p).syncOk = false ∧ (t.node r p).syncRun = 0)

/-- R73, R74, R76, R80, R92 to R94, R96, R101, R109: a node sends a frame on out of its other port, one hop further, with its residence in
CORR where TIMED is set, STOMP where the frame is invalid, HCRC formed again where it was right, and nothing else changed; past 63 hops, and
its own HELLO, it does not. A returning frame, or one on the port that its direction does not belong to, is sent on without STOMP and leaves
the node as it was. A node answers a READ of its NODE_ID, takes its address by HOPS and direction from a broadcast WRITE while it holds no
set, and originates a HELLO on both ports unless it holds a set; before it knows its near port, port 0 counts as near (the model's choice: log
entry 30). -/
def Obligations.NodeForwardingAndAnswers : Prop :=
  ((∀ (r : Fin 4) (p : Fin 64) (port : Fin 2) (res : Time) (f : WarpFrame) (h : FrameHdr) (s : State),
    frameHdr f = some h → wrongPort (s.node r p) h port = false → ownRow (s.node r p) f = false →
    Gives (.nodeFrameReceive r p port res f) s fun t =>
      (h.hops = 63 ∨ ownHello (s.node r p) f = true → s.Calm 0 → t.out = s.out) ∧
      (h.hops ≠ 63 → ownHello (s.node r p) f = false → ∃ c : Word, (h.hcrcOk = true → c = hcrcOf { h with
          hops := h.hops + 1, corr := if h.timed then h.corr + res else h.corr, stomp := h.stomp || !frameValid f }) ∧
        .nodeTx r p (1 - port.val) (mapHdr (fun _ => { h with hops := h.hops + 1, corr := if h.timed then h.corr + res else h.corr,
                                                              stomp := h.stomp || !frameValid f, hcrc := c }) f) ∈ t.out)) ∧
  (∀ (r : Fin 4) (p : Fin 64) (port : Fin 2) (res : Time) (f : WarpFrame) (h : FrameHdr) (s : State),
    frameHdr f = some h → h.hops ≠ 63 →
    let gone := fun (t : State) => t.nodes = s.nodes ∧ ∃ c : Word, (h.hcrcOk = true → c = hcrcOf { h with
        hops := h.hops + 1, corr := if h.timed then h.corr + res else h.corr }) ∧
      .nodeTx r p (1 - port.val) (mapHdr (fun _ => { h with hops := h.hops + 1, corr := if h.timed then h.corr + res else h.corr,
                                                            hcrc := c }) f) ∈ t.out
    Gives (.nodeReturningFrame r p port res f) s gone ∧
    (wrongPort (s.node r p) h port = true → Gives (.nodeFrameReceive r p port res f) s gone))) ∧
  ((∀ (r : Fin 4) (p : Fin 64) (f : MgmtFrame) (w : Word) (s : State), frameValid (.mgmt f) = true → f.hdr.hops ≠ 63 →
    f.hdr.dst.toNat = (s.node r p).addr → (s.node r p).addr ≠ 63 → f.op = 1 → f.req = [0] → f.rpl = [w] →
    Gives (.nodeMgmtReceive r p true f) s fun t =>
      ∃ port g, .nodeTx r p port (.mgmt g) ∈ t.out ∧ g.status = 1 ∧ g.hdr.seq = f.hdr.seq ∧ g.hdr.hops = f.hdr.hops + 1 ∧
        g.hdr.fcrc = fcrcOf (.mgmt g) ∧
        g.rpl = [w32 ((s.node r p).make.maker.toNat * 65536 + (s.node r p).make.product.toNat)]) ∧
  (∀ (r : Fin 4) (p : Fin 64) (inTime : Bool) (f : MgmtFrame) (v : Word) (s : State), frameValid (.mgmt f) = true →
    f.hdr.dst = 63 → f.op = 2 → f.req = [0x14, v] → lowMandate (s.node r p) f.hdr.mandate.toNat = false →
    remembered (s.node r p) f = none → Gives (.nodeMgmtReceive r p inTime f) s fun t =>
      let h := f.hdr.hops.toNat
      (t.node r p).addr =
        if (s.node r p).held ≠ [] then (s.node r p).addr
        else match f.hdr.dir with
          | .cw => if v = 0 then (if h < 40 then h + 1 else 62) else (s.node r p).addr
          | .ccw => if 1 ≤ v.toNat ∧ v.toNat ≤ 40 then (if h < v.toNat then v.toNat - h else 62) else (s.node r p).addr) ∧
  (∀ (r : Fin 4) (p : Fin 64) (s : State), Gives (.nodeHelloSend r p) s fun t =>
    if (s.node r p).held = [] ∧ (s.node r p).chosen = [] then
      (t.node r p).hello = ((s.node r p).hello + 1) % 65536 ∧
      ∀ port : Fin 2, ((s.node r p).near = none ∨ (s.node r p).near = some 0 ∨ (s.node r p).near = some 1) →
        ∃ g, .nodeTx r p port (.hello g) ∈ t.out ∧ g.serial = (s.node r p).make.serial ∧
          (g.hdr.dir = .ccw ↔ (s.node r p).near.getD 0 = port.val)
    else t.nodes = s.nodes))

/-- R71, R73, R83, R85, R88 to R90: a CYCLE or SYNC frame that is not valid, or for a reserved DST, leaves the node as it was; one of a lower
mandate is counted and ignored; a CYCLE frame without a valid permit blocks the node; a node with an address appends a valid status record to
a COLLECT frame, which is 8 blocks longer; a SYNC frame is kept for its direction. -/
def Obligations.NodeMasterFrames : Prop :=
  (∀ (r : Fin 4) (p : Fin 64) (f : CycleFrame) (s : State), Gives (.nodeCycleFrameReceive r p f) s fun t =>
    if frameValid (.cycle f) = false ∨ (41 ≤ f.hdr.dst.toNat ∧ f.hdr.dst.toNat ≤ 61) then t.nodes = s.nodes
    else if lowMandate (s.node r p) f.hdr.mandate.toNat then
      t.node r p = { s.node r p with low := min 65535 ((s.node r p).low + 1) }
    else (t.node r p).lost = false ∧ (t.node r p).tcyc = f.tcyc.toNat ∧
      (t.node r p).blocked = ((s.node r p).blocked || !permitOk f)) ∧
  (∀ (r : Fin 4) (p : Fin 64) (res : Time) (f : CollectFrame) (raw : List Word) (x : NodeInputs) (s : State),
    (s.node r p).addr ≠ 62 → f.hdr.hops ≠ 63 → (f.hdr.dst.toNat < 41 ∨ 61 < f.hdr.dst.toNat) →
    Gives (.nodeCollectAppend r p res f raw x) s fun t =>
      let n := { s.node r p with nfault := x.nfault.toNat, bypass := x.closed }
      (∃ port g w, .nodeTx r p port (.collect g) ∈ t.out ∧ g.bk = f.bk ∧ g.records = f.records ++ [w] ∧ recordOk w = true ∧
        g.hdr.len = f.hdr.len + 8 ∧ g.hdr.hops = f.hdr.hops + 1 ∧ g.hdr.fcrc = fcrcOf (.collect g) ∧
        g.hdr.stomp = (f.hdr.stomp || !frameValid (.collect f)) ∧
        nth w 0 0 = w32 (n.addr + n.make.role % 4 * 64 + nodeState n * 256 + n.xseq % 65536 * 65536)) ∧
      (t.node r p).lateRec = 0 ∧ (t.node r p).errRec = 0) ∧
  (∀ (r : Fin 4) (p : Fin 64) (stamp : Time) (f : SyncFrame) (s : State), Gives (.nodeSyncReceive r p stamp f) s fun t =>
    let x := some (f.hdr.seq.toNat, stamp.toNat, (f.origin + f.hdr.corr).toNat)
    if frameValid (.sync f) = false ∨ (41 ≤ f.hdr.dst.toNat ∧ f.hdr.dst.toNat ≤ 61) then t.nodes = s.nodes
    else if lowMandate (s.node r p) f.hdr.mandate.toNat then
      t.node r p = { s.node r p with low := min 65535 ((s.node r p).low + 1) }
    else match f.hdr.dir with
      | .cw => (t.node r p).syncCw = x ∧ (t.node r p).syncCcw = (s.node r p).syncCcw
      | .ccw => (t.node r p).syncCcw = x ∧ (t.node r p).syncCw = (s.node r p).syncCw)

/-- R31, R32, R85, R104, R193: at the decision a node chooses only sets of the coming slot that may run, all of the highest mandate held for it
(the model's choice where the sets of two targets differ: log entry 30), and none while it is blocked; at the adoption the chosen sets become
current and none stays chosen; an entry that is due executes and leaves the list. -/
def Obligations.NodeSlots : Prop :=
  (∀ (r : Fin 4) (p : Fin 64) (slot : Time) (s : State), Gives (.nodeSlotDecision r p slot) s fun t =>
    (t.node r p).slot = some slot.toNat ∧
    (∀ h ∈ (t.node r p).chosen, h ∈ (s.node r p).held ∧ h.slot = slot.toNat ∧
      ((s.node r p).syncOk = true ∨ isHold h = true) ∧ (h.firm = true ∨ (s.node r p).tHold.getLsbD h.tgt = false) ∧
      h.mand = (t.node r p).mandHi) ∧
    ((s.node r p).blocked = true → permitPair (s.node r p) = false →
      (t.node r p).chosen = [] ∧ (t.node r p).blocked = true)) ∧
  (∀ (r : Fin 4) (p : Fin 64) (slot : Time) (s : State), Gives (.nodeAdoption r p slot) s fun t =>
    if (s.node r p).blocked = false ∧ (s.node r p).slot = some slot.toNat then
      (t.node r p).chosen = [] ∧ (t.node r p).hold = (s.node r p).chosen.isEmpty
    else t.nodes = s.nodes) ∧
  (∀ (r : Fin 4) (p : Fin 64) (k : Fin 8) (e : Entry) (es : List Entry) (s : State),
    (legOf (s.node r p) k).todo = e :: es → Gives (.nodeEntryDue r p k) s fun t =>
      (legOf (t.node r p) k).todo = es ∧ (legOf (t.node r p) k).pat = none ∧
      (legOf (t.node r p) k).hold = (entryType e == 0) ∧
      (entryType e ≠ 0 → (legOf (t.node r p) k).level = nbit (entryParam e) 0))

/-- The frame of every command that a node's row names: nothing but the nodes, what has been sent, the lines it is sent on and the free values
used changes, and of the nodes only the one named. -/
def Obligations.NodeCommandsChangeOnlyTheirNode : Prop :=
  ∀ (r : Fin 4) (p : Fin 64) (c : Instr) (s : State), s.Calm 0 →
    (∃ (make : NodeMake) (port : Fin 2) (res stamp slot : Time) (f : WarpFrame) (cy : CycleFrame) (co : CollectFrame)
      (sy : SyncFrame) (mg : MgmtFrame) (raw : List Word) (x : NodeInputs) (b : BlockIn) (k : Fin 8) (inTime : Bool),
      c ∈ [.nodeReset r p make, .nodeFrameReceive r p port res f, .nodeReturningFrame r p port res f,
        .nodeBlkReceive r p b, .nodeCycleFrameReceive r p cy, .nodeCollectAppend r p res co raw x,
        .nodeSyncReceive r p stamp sy, .nodeMgmtReceive r p inTime mg, .nodeHelloSend r p, .nodeSlotDecision r p slot,
        .nodeAdoption r p slot, .nodeEntryDue r p k, .nodeMasterTimeout r p, .nodeSyncTimeout r p, .nodePortLockLoss r p port,
        .nodeBlockLockGain r p port, .nodeWrapEnd r p port, .masterLostAgreement r p]) →
    Gives c s fun t =>
      { t with nodes := s.nodes, out := s.out, lines := s.lines, freeCtr := s.freeCtr } = s ∧ (∃ l, t.out = l ++ s.out) ∧
      ∀ (r' : Fin 4) (p' : Fin 64), (r', p') ≠ (r, p) → t.node r' p' = s.node r' p'
/-! ## Picks: every pick is stated where it is the next of its engine's pass and reads no poisoned word -/

/-- R159: LDC writes the coefficient to D, converted to Q3.28; with RAW it copies the 32 bits; it never saturates. -/
def Obligations.LdcConvertsOrCopies : Prop :=
  ∀ (e : Fin 8) (s : State), s.PickNext e 0x04 → Gives (.ldc e) s fun t =>
    let k := s.curPick e
    let c := coefBank (s.eng e) (s.activeBank e) k.p
    SatShown s t e False ∧
    if pflag k 0 then PickRan s t e 1 [(k.d, c)] []
    else ∃ r, RoundsTo c.toInt 1 r ∧ PickRan s t e 1 [(k.d, BitVec.ofInt 32 r)] []

/-- R162: MUL writes A × B, with NEG its negation, rounded to Q3.28, and saturates outside that range. -/
def Obligations.MulRoundsAndSaturates : Prop :=
  ∀ (e : Fin 8) (s : State), s.PickNext e 0x07 → Gives (.mul e) s fun t =>
    let k := s.curPick e
    let p := (sigGet (s.eng e) k.a).toInt * (sigGet (s.eng e) k.b).toInt
    let v := if pflag k 0 then -p else p
    SatShown s t e (Leaves v 28 32) ∧ ∃ w, Narrowed v 28 32 w ∧ PickRan s t e 1 [(k.d, BitVec.ofInt 32 w)] []

/-- R163: DIV writes the value nearest to A / B, ties to even, saturated; a magnitude that reaches 8 and a divisor of 0 count as
saturated. -/
def Obligations.DivQuotient : Prop :=
  ∀ (e : Fin 8) (s : State), s.PickNext e 0x08 → Gives (.div e) s fun t =>
    let k := s.curPick e
    let a := (sigGet (s.eng e) k.a).toInt
    let b := (sigGet (s.eng e) k.b).toInt
    (b = 0 → SatShown s t e True ∧
      PickRan s t e 8 [(k.d, if a = 0 then 0 else if 0 < a then 0x7FFFFFFF else 0x80000000)] []) ∧
    (b ≠ 0 → ∃ r : Int, 2 * (a * 2 ^ 28 - r * b).natAbs ≤ b.natAbs ∧
      (2 * (a * 2 ^ 28 - r * b).natAbs = b.natAbs → r % 2 = 0) ∧
      SatShown s t e (8 * b.natAbs ≤ a.natAbs ∨ 2 ^ 31 ≤ r) ∧
      PickRan s t e 8 [(k.d, BitVec.ofInt 32 (max (-(2 ^ 31)) (min (2 ^ 31 - 1) r)))] [])

/-- R160, R161, R164: GAIN with and without ADDB; SUM with its signs, its coefficient and its angle form, whose bits are the
rounded sum modulo one turn; LIM, where hi prevails and a clamp with REP shows in the map. -/
def Obligations.ArithmeticPicks : Prop :=
  (∀ (e : Fin 8) (s : State), s.PickNext e 0x05 → Gives (.gain e) s fun t =>
    let k := s.curPick e
    let sg := fun w => (sigGet (s.eng e) w).toInt
    let v := sg k.a * (coefBank (s.eng e) (s.activeBank e) k.p).toInt + (if pflag k 0 then sg k.b * 2 ^ 29 else 0)
    SatShown s t e (Leaves v 29 32) ∧ ∃ w, Narrowed v 29 32 w ∧ PickRan s t e 1 [(k.d, BitVec.ofInt 32 w)] []) ∧
  (∀ (e : Fin 8) (s : State), s.PickNext e 0x06 → Gives (.sum e) s fun t =>
    let k := s.curPick e
    let sg := fun w => (sigGet (s.eng e) w).toInt
    let x := if pflag k 2 then (coefBank (s.eng e) (s.activeBank e) k.p).toInt else 2 * sg k.b
    let v := (if pflag k 0 then -(2 * sg k.a) else 2 * sg k.a) + (if pflag k 1 then -x else x)
    if pflag k 3 then SatShown s t e False ∧ ∃ r w : Int, RoundsTo v 1 r ∧ -(2 ^ 27) ≤ w ∧ w < 2 ^ 27 ∧ (w - r) % 2 ^ 28 = 0 ∧
      PickRan s t e 1 [(k.d, BitVec.ofInt 32 w)] []
    else SatShown s t e (Leaves v 1 32) ∧ ∃ w, Narrowed v 1 32 w ∧ PickRan s t e 1 [(k.d, BitVec.ofInt 32 w)] []) ∧
  (∀ (e : Fin 8) (s : State), s.PickNext e 0x09 → Gives (.lim e) s fun t =>
    let k := s.curPick e
    let sg := fun w => 2 * (sigGet (s.eng e) w).toInt
    let co := fun c => (coefBank (s.eng e) (s.activeBank e) c).toInt
    let hi := if pflag k 1 then sg k.b else co k.p
    let lo := if pflag k 0 then -hi else if pflag k 1 then sg (k.b + 1) else co (k.p + 1)
    let v := min (max (sg k.a) lo) hi
    (pflag k 2 = true → v ≠ sg k.a → (s.eng e).idx < 2048 →
      t.bit (HDL_SATMAP e ((s.eng e).idx / 32)) ((s.eng e).idx % 32) = true) ∧
    ∃ w, Narrowed v 1 32 w ∧ PickRan s t e 1 [(k.d, BitVec.ofInt 32 w)] [])

/-- R165 to R169: RAT, BIQ, TRK, XFD and HLD, with what each writes to its states' shadows; the sums are formed in the accumulator
one addition at a time. -/
def Obligations.DynamicPicks : Prop :=
  (∀ (e : Fin 8) (s : State), s.PickNext e 0x0A → Gives (.rat e) s fun t =>
    let k := s.curPick e
    let co := fun c => (coefBank (s.eng e) (s.activeBank e) c).toInt * 2 ^ 28
    let y0 := (stGet (s.eng e) k.b).toInt * 2 ^ 13
    let up := max (co k.p) 0
    let dn := max (co (k.p + 1)) 0
    let y := y0 + max (-dn) (min up ((sigGet (s.eng e) k.a).toInt * 2 ^ 29 - y0))
    ∃ w st, Narrowed y 29 32 w ∧ Narrowed y 13 48 st ∧ PickRan s t e 2 [(k.d, BitVec.ofInt 32 w)] [(k.b, st)]) ∧
  (∀ (e : Fin 8) (s : State), s.PickNext e 0x0C → Gives (.biq e) s fun t =>
    let k := s.curPick e
    let co := fun c => (coefBank (s.eng e) (s.activeBank e) c).toInt
    let x := (sigGet (s.eng e) k.a).toInt
    let acc := co k.p * x + (stGet (s.eng e) k.b).toInt * 2 ^ 13
    ∃ w y p1 p2 st1 st2, Narrowed acc 29 32 w ∧ Narrowed acc 13 48 y ∧ RoundsTo (co (k.p + 3) * y) 16 p1 ∧
      RoundsTo (co (k.p + 4) * y) 16 p2 ∧
      Narrowed (inAcc (inAcc (co (k.p + 1) * x - p1) + (stGet (s.eng e) (k.b + 1)).toInt * 2 ^ 13)) 13 48 st1 ∧
      Narrowed (inAcc (co (k.p + 2) * x - p2)) 13 48 st2 ∧
      PickRan s t e 2 [(k.d, BitVec.ofInt 32 w)] [(k.b, st1), (k.b + 1, st2)]) ∧
  (∀ (e : Fin 8) (s : State), s.PickNext e 0x0D → Gives (.trk e) s fun t =>
    let k := s.curPick e
    let b := pickOf (patGet (s.eng e) k.p)
    let co := fun c => (coefBank (s.eng e) (s.activeBank e) c).toInt
    let x := (sigGet (s.eng e) k.a).toInt
    let y := (sigGet (s.eng e) k.b).toInt
    ∃ w st1 st2, Narrowed (y * 2 ^ 29 - (co b.p * x + (stGet (s.eng e) b.b).toInt * 2 ^ 13)) 29 32 w ∧
      Narrowed (y * 2 ^ 29 - co b.p * x) 13 48 st1 ∧ Narrowed (inAcc (co (b.p + 2) * x - co (b.p + 4) * y)) 13 48 st2 ∧
      PickRan s t e 2 [(k.d, BitVec.ofInt 32 w)] [(b.b, st1), (b.b + 1, st2)]) ∧
  (∀ (e : Fin 8) (s : State), s.PickNext e 0x0E → Gives (.xfd e) s fun t =>
    let k := s.curPick e
    let lam := max 0 (min (2 ^ 44) (stGet (s.eng e) k.p).toInt)
    let a := (sigGet (s.eng e) k.a).toInt
    let next := max 0 (min (2 ^ 44) (lam + (stGet (s.eng e) (k.p + 1)).toInt))
    ∃ r w l, RoundsTo (lam * ((sigGet (s.eng e) k.b).toInt - a)) 15 r ∧ Narrowed (a * 2 ^ 29 + r) 29 32 w ∧ RoundsTo lam 16 l ∧
      PickRan s t e 2 ((k.d, BitVec.ofInt 32 w) :: if pflag k 0 then [(k.d + 1, BitVec.ofInt 32 l)] else []) [(k.p, next)]) ∧
  (∀ (e : Fin 8) (s : State), s.PickNext e 0x10 → Gives (.hld e) s fun t =>
    let k := s.curPick e
    let a := sigGet (s.eng e) k.a
    let put := [(k.p, a.toInt * 2 ^ 16)]
    if pflag k 0 = false ∧ sigGet (s.eng e) k.b ≠ 0 then PickRan s t e 1 [(k.d, a)] put
    else ∃ w, Narrowed (stGet (s.eng e) k.p).toInt 16 32 w ∧
      PickRan s t e 1 [(k.d, BitVec.ofInt 32 w)] (if pflag k 0 then put else []))

/-- R170 to R172: SEL copies the word its condition chooses; CMP writes the truth value of its relation; LUT interpolates, and beyond
its span writes an end point and counts as saturated. -/
def Obligations.LogicPicks : Prop :=
  (∀ (e : Fin 8) (s : State), s.PickNext e 0x11 → Gives (.sel e) s fun t =>
    let k := s.curPick e
    SatShown s t e False ∧
    if sigGet (s.eng e) k.b ≠ 0 then PickRan s t e 1 [(k.d, sigGet (s.eng e) k.a)] []
    else if pflag k 0 then
      ∃ r, RoundsTo (coefBank (s.eng e) (s.activeBank e) k.p).toInt 1 r ∧ PickRan s t e 1 [(k.d, BitVec.ofInt 32 r)] []
    else PickRan s t e 1 [(k.d, sigGet (s.eng e) (k.a + 1))] []) ∧
  (∀ (e : Fin 8) (s : State), s.PickNext e 0x12 → Gives (.cmp e) s fun t =>
    let k := s.curPick e
    let a := sigGet (s.eng e) k.a
    let b := sigGet (s.eng e) k.b
    let c := coefBank (s.eng e) (s.activeBank e) k.p
    -- the difference A − X: of the bits with RAW, else of the values in units of 2^-29
    let d : Int := if pflag k 4 then (a - (if pflag k 3 then c else b)).toInt
      else 2 * a.toInt - (if pflag k 3 then c.toInt else 2 * b.toInt)
    SatShown s t e False ∧ ∀ r : Bool, (match k.flg % 8 with
      | 0 => r = decide (0 < d)
      | 1 => r = decide (0 ≤ d)
      | 2 => r = decide (d < 0)
      | 3 => r = decide (d ≤ 0)
      | 4 => r = decide (d = 0)
      | 5 => r = decide (d ≠ 0)
      | _ => False) → PickRan s t e 1 [(k.d, if r then 0x10000000 else 0)] []) ∧
  (∀ (e : Fin 8) (s : State), s.PickNext e 0x13 → Gives (.lut e) s fun t =>
    let k := s.curPick e
    let m := k.flg % 16
    let sp := k.flg / 16 % 4
    let p := fun i => (coefBank (s.eng e) (s.activeBank e) (k.p + i)).toInt
    let u := (sigGet (s.eng e) k.a).toInt + 2 ^ (28 + sp)
    let sh := 29 + sp - m
    (u < 0 → SatShown s t e True ∧ ∃ r, RoundsTo (p 0) 1 r ∧ PickRan s t e 2 [(k.d, BitVec.ofInt 32 r)] []) ∧
    (2 ^ (29 + sp) ≤ u → SatShown s t e True ∧
      ∃ r, RoundsTo (p (2 ^ m)) 1 r ∧ PickRan s t e 2 [(k.d, BitVec.ofInt 32 r)] []) ∧
    (∀ (i : Nat) (f : Int), u < 2 ^ (29 + sp) → u = i * 2 ^ sh + f → 0 ≤ f → f < 2 ^ sh → 1 ≤ m → m ≤ 9 →
      ∃ w, Narrowed (p i * 2 ^ sh + f * (p (i + 1) - p i)) (sh + 1) 32 w ∧ PickRan s t e 2 [(k.d, BitVec.ofInt 32 w)] []))

/-- R174 to R176: the Clarke and Park transforms as sums of exact products rounded once, CSIN, CMAG within 2^-27 of the root, and CANG
in [−0.5, 0.5) turn, 0 at the origin and within 2^-26 turn on the axes. The sine unit's pair and which value within a bound are
free: the statement holds for every one. -/
def Obligations.VectorPicks : Prop :=
  (∀ (e : Fin 8) (s : State), s.PickNext e 0x14 → Gives (.clk e) s fun t =>
    let k := s.curPick e
    let a := (sigGet (s.eng e) k.a).toInt
    let b := (sigGet (s.eng e) (k.a + 1)).toInt
    let c := if pflag k 1 then -a - b else (sigGet (s.eng e) (k.a + 2)).toInt
    ∃ al be z, Narrowed (357913941 * a - 178956971 * (b + c)) 29 32 al ∧ Narrowed (309962566 * (b - c)) 29 32 be ∧
      Narrowed (178956971 * (a + b + c)) 29 32 z ∧ PickRan s t e 2 ([(k.d, BitVec.ofInt 32 al), (k.d + 1, BitVec.ofInt 32 be)]
        ++ if pflag k 0 then [(k.d + 2, BitVec.ofInt 32 z)] else []) []) ∧
  (∀ (e : Fin 8) (s : State), s.PickNext e 0x15 → Gives (.iclk e) s fun t =>
    let k := s.curPick e
    let al := (sigGet (s.eng e) k.a).toInt
    let be := (sigGet (s.eng e) (k.a + 1)).toInt
    let z := if pflag k 0 then (sigGet (s.eng e) (k.a + 2)).toInt * 2 ^ 29 else 0
    ∃ a b c, Narrowed (al * 2 ^ 29 + z) 29 32 a ∧ Narrowed (-(268435456 * al) + 464943848 * be + z) 29 32 b ∧
      Narrowed (-(268435456 * al) - 464943848 * be + z) 29 32 c ∧
      PickRan s t e 2 [(k.d, BitVec.ofInt 32 a), (k.d + 1, BitVec.ofInt 32 b), (k.d + 2, BitVec.ofInt 32 c)] []) ∧
  (∀ (e : Fin 8) (s : State), s.PickNext e 0x16 → Gives (.prk e) s fun t =>
    let k := s.curPick e
    let x := (sigGet (s.eng e) k.a).toInt
    let y := (sigGet (s.eng e) (k.a + 1)).toInt
    let (sn, cs) := sineOf (sigGet (s.eng e) k.b)
    ∃ d q, Narrowed (x * cs + y * sn) 29 32 d ∧ Narrowed (-(x * sn) + y * cs) 29 32 q ∧
      PickRan s t e 2 [(k.d, BitVec.ofInt 32 d), (k.d + 1, BitVec.ofInt 32 q)] []) ∧
  (∀ (e : Fin 8) (s : State), s.PickNext e 0x17 → Gives (.iprk e) s fun t =>
    let k := s.curPick e
    let d := (sigGet (s.eng e) k.a).toInt
    let q := (sigGet (s.eng e) (k.a + 1)).toInt
    let (sn, cs) := sineOf (sigGet (s.eng e) k.b)
    ∃ x y, Narrowed (d * cs - q * sn) 29 32 x ∧ Narrowed (d * sn + q * cs) 29 32 y ∧
      PickRan s t e 2 [(k.d, BitVec.ofInt 32 x), (k.d + 1, BitVec.ofInt 32 y)] []) ∧
  (∀ (e : Fin 8) (s : State), s.PickNext e 0x18 → Gives (.cmag e) s fun t =>
    let k := s.curPick e
    let x := (sigGet (s.eng e) k.a).toInt
    let y := (sigGet (s.eng e) k.b).toInt
    ∃ w : Int, (w < 2 ∨ (w - 2) ^ 2 ≤ x ^ 2 + y ^ 2) ∧ (w < 2 ^ 31 - 1 → x ^ 2 + y ^ 2 ≤ (w + 2) ^ 2) ∧ -2 ≤ w ∧ w < 2 ^ 31 ∧
      PickRan s t e 4 [(k.d, BitVec.ofInt 32 w)] []) ∧
  (∀ (e : Fin 8) (s : State), s.PickNext e 0x19 → Gives (.cang e) s fun t =>
    let k := s.curPick e
    let x := (sigGet (s.eng e) k.a).toInt
    let y := (sigGet (s.eng e) k.b).toInt
    SatShown s t e False ∧ ∃ w : Int, -(2 ^ 27) ≤ w ∧ w < 2 ^ 27 ∧ (x = 0 → y = 0 → w = 0) ∧
      (0 < x → y = 0 → w.natAbs ≤ 4) ∧ (x = 0 → 0 < y → (w - 2 ^ 26).natAbs ≤ 4) ∧
      (x = 0 → y < 0 → (w + 2 ^ 26).natAbs ≤ 4) ∧ PickRan s t e 4 [(k.d, BitVec.ofInt 32 w)] []) ∧
  (∀ (e : Fin 8) (s : State), s.PickNext e 0x1A → Gives (.csin e) s fun t =>
    let k := s.curPick e
    let (sn, cs) := sineOf (sigGet (s.eng e) k.a)
    let b := if pflag k 0 then (sigGet (s.eng e) k.b).toInt else 2 ^ 28
    ∃ x y, Narrowed (sn * b) 29 32 x ∧ Narrowed (cs * b) 29 32 y ∧
      PickRan s t e 2 [(k.d, BitVec.ofInt 32 x), (k.d + 1, BitVec.ofInt 32 y)] [])

/-- R177 to R180: INJ without a signal, with the binary sequence, with the table and with the chirp; RLY. -/
def Obligations.TestSignalPicks : Prop :=
  (∀ (e : Fin 8) (s : State), s.PickNext e 0x1C → Gives (.inj e) s fun t =>
    let k := s.curPick e
    let a := (sigGet (s.eng e) k.a).toInt * 2 ^ 29
    let c := fun i => coefBank (s.eng e) (s.activeBank e) (k.p + i)
    let amp := (c 0).toInt
    let lo := (stGet (s.eng e) k.b).toNat % 2 ^ 32
    (k.flg % 4 = 0 → PickRan s t e 2 [(k.d, sigGet (s.eng e) k.a)] []) ∧
    (∀ (len tap reg : Nat), k.flg % 4 = 1 →
      (len, tap) = (match (c 1).toNat % 8 with
        | 0 => (7, 6)
        | 1 => (9, 5)
        | 2 => (11, 9)
        | 3 => (15, 14)
        | 4 => (23, 18)
        | _ => (31, 28)) →
      reg = max 1 ((stGet (s.eng e) k.b).toNat % 2 ^ len) →
      let cnt := (stGet (s.eng e) k.b).toNat / 2 ^ 32 % 256
      let new := if reg / 2 ^ (len - 1) % 2 = reg / 2 ^ (tap - 1) % 2 then 0 else 1
      let reg' := if cnt = 0 then (2 * reg + new) % 2 ^ len else reg
      let cnt' := if cnt = 0 then max 1 ((c 1).toNat / 256 % 256) - 1 else cnt - 1
      ∃ w, Narrowed (if reg' % 2 = 1 then a + amp * 2 ^ 28 else a - amp * 2 ^ 28) 29 32 w ∧
        PickRan s t e 2 [(k.d, BitVec.ofInt 32 w)] [(k.b, (reg' + cnt' * 2 ^ 32 : Nat))]) ∧
    (k.flg % 4 = 2 → ∃ r w,
      RoundsTo (amp * (coefBank (s.eng e) (s.activeBank e) (((c 1).toNat + lo / 2 ^ 24) % 2048)).toInt) 1 r ∧
      Narrowed (a + r) 29 32 w ∧ PickRan s t e 2 [(k.d, BitVec.ofInt 32 w)] [(k.b, ((lo + (c 2).toNat) % 2 ^ 32 : Nat))]) ∧
    (k.flg % 4 = 3 →
      let raw := (stGet (s.eng e) (k.b + 1)).toNat
      let phi := if raw = 0 then (c 1).toNat else raw % 2 ^ 32
      let next : Int := phi + (c 2).toInt
      let passed := (0 < (c 2).toInt ∧ (c 3).toNat < next) ∨ ((c 2).toInt < 0 ∧ next < (c 3).toNat)
      ∃ r w, RoundsTo (amp * (sineUnit lo).1) 1 r ∧ Narrowed (a + r) 29 32 w ∧ PickRan s t e 2 [(k.d, BitVec.ofInt 32 w)]
        [(k.b, ((lo + phi) % 2 ^ 32 : Nat)), (k.b + 1, if passed then ((c 1).toNat : Int) else next % 2 ^ 32)])) ∧
  (∀ (e : Fin 8) (s : State), s.PickNext e 0x1D → Gives (.rly e) s fun t =>
    let k := s.curPick e
    let co := fun i => (coefBank (s.eng e) (s.activeBank e) (k.p + i)).toInt
    let a := 2 * (sigGet (s.eng e) k.a).toInt
    let old := (stGet (s.eng e) k.b).toNat % 2
    let h := max 0 (co 0)
    let eps := max 0 (co 1)
    let new : Nat := if old = 1 ∧ a < -eps then 0 else if old = 0 ∧ eps < a then 1 else old
    (∃ w, Narrowed (if new = 1 then co 2 + h else co 2 - h) 1 32 w ∧ PickRan s t e 1 [(k.d, BitVec.ofInt 32 w)] [(k.b, new)]) ∧
    (pflag k 2 = true → (t.relay e (k.flg % 4)).feed = some { a := (sigGet (s.eng e) k.a).toInt, sig := new == 1, h := h, eps := eps }))

/-- R125, R147, R149, R181 to R183, R212, R213: SRT hands its values to the sorter and waits; a checked result of the request at the front is
the list of ranks or of indices in rank order with the excluded last, any other withholds it and ends the run; WEV binds its words; NOP does
nothing; END waits for the members of its group that run, and alone commits. Any pick that reads a poisoned word ends the run without a
commit, and counts as an ECC abort. -/
def Obligations.SorterAndEndPicks : Prop :=
  (∀ (e : Fin 8) (s : State), s.PickNext e 0x1E → Gives (.srt e) s fun t =>
    let k := s.curPick e
    ∃ q, t.eng e = { s.eng e with sort := some q } ∧ q.n = k.p % 64 ∧ q.dst = k.d ∧ q.desc = pflag k 2 ∧ q.ord = pflag k 3 ∧
      q.vals.length = q.n ∧ (∀ i, i < q.n → q.vals.getD i 0 = sigGet (s.eng e) (k.a + i)) ∧
      ∀ i, i < q.n → nbit q.excl i = (pflag k 4 && nbit (sigGet (s.eng e) k.b).toNat i)) ∧
  (∀ (e : Fin 8) (fail late : Bool) (q : SortReq) (s : State), (s.eng e).sort = some q → s.sortFront = some e.val →
    Gives (.sortComplete e fail late) s fun t =>
      if fail = false ∧ late = false then
        ∃ order : List Nat, order.Perm (List.range q.n) ∧
          (order.Pairwise fun i j =>
            let x := (q.vals.getD i 0).toInt
            let y := (q.vals.getD j 0).toInt
            (nbit q.excl i = false ∧ nbit q.excl j = true) ∨ (nbit q.excl i = true ∧ nbit q.excl j = true ∧ i < j) ∨
            (nbit q.excl i = false ∧ nbit q.excl j = false ∧ (x = y ∧ i < j ∨ x ≠ y ∧ if q.desc then y < x else x < y))) ∧
          PickRan s t e 224 ((List.range q.n).map fun i => (q.dst + i,
            if q.ord then BitVec.ofNat 32 (order.getD i 0)
            else if nbit q.excl i then 0xFFFFFFFF else BitVec.ofNat 32 (order.idxOf i))) [] ∧
          (t.eng e).sort = none
      else t.bit SRT_EVENTS (if fail then 1 else 0) = true ∧ ((s.eng e).inRun = true →
        (t.eng e).inRun = false ∧ (t.eng e).sort = none ∧ (t.eng e).stNew = [] ∧ (t.eng e).st = (s.eng e).st ∧
        (t.eng e).pub = (s.eng e).pub)) ∧
  (∀ (e : Fin 8) (s : State), s.PickNext e 0x1F → Gives (.wev e) s fun t =>
    let k := s.curPick e
    PickRan s t e 1 [] [] ∧ (k.p, k.a, k.b) ∈ (t.eng e).binds ∧
    ∀ b : Nat × Nat × Nat, b.1 ≠ k.p → (b ∈ (t.eng e).binds ↔ b ∈ (s.eng e).binds)) ∧
  (∀ (e : Fin 8) (s : State), s.PickNext e 0x01 → Gives (.nop e) s fun t =>
    SatShown s t e False ∧ PickRan s t e 1 [] []) ∧
  (∀ (e : Fin 8) (s : State), s.PickNext e 0x02 →
    ((∃ x ∈ s.group e, x ≠ e.val ∧ (s.eng x).atEnd = false ∧ s.hdlState x = 2) → Gives (.endPass e) s fun t =>
      t.eng e = { s.eng e with atEnd := true, clocks := (s.eng e).clocks + 1 }) ∧
    (s.group e = [e.val] → (s.eng e).presets = [] → s.hovPhase e = 0 → (s.eng e).hovRes = 0 →
      Sparse.wf (fun _ => none) (s.eng e).stNew = true → Gives (.endPass e) s fun t =>
      (t.eng e).pub = (s.eng e).shadow ∧ (t.eng e).bound = (s.eng e).binds ∧ (t.eng e).stNew = [] ∧
      (t.eng e).inRun = false ∧ (t.eng e).did = true ∧ ∀ i, stGet (t.eng e) i =
        (Sparse.get (fun _ => none) (s.eng e).stNew i).getD (stGet (s.eng e) i))) ∧
  (∀ (e : Fin 8) (c : Instr) (opc a : Nat) (s : State),
    (c, opc) ∈ [(.nop e, 0x01), (.endPass e, 0x02), (.ldc e, 0x04), (.gain e, 0x05), (.sum e, 0x06), (.mul e, 0x07), (.div e, 0x08),
      (.lim e, 0x09), (.rat e, 0x0A), (.biq e, 0x0C), (.trk e, 0x0D), (.xfd e, 0x0E), (.hld e, 0x10), (.sel e, 0x11),
      (.cmp e, 0x12), (.lut e, 0x13), (.clk e, 0x14), (.iclk e, 0x15), (.prk e, 0x16), (.iprk e, 0x17), (.cmag e, 0x18),
      (.cang e, 0x19), (.csin e, 0x1A), (.inj e, 0x1C), (.rly e, 0x1D), (.srt e, 0x1E), (.wev e, 0x1F)] →
    s.pickReady e opc = true → s.badRead e = some a → Gives c s fun t =>
      (t.eng e).inRun = false ∧ (t.eng e).stNew = [] ∧ (t.eng e).pub = (s.eng e).pub ∧ t.bit (HDL_EVENTS e) 4 = true)

/-! ## Heddle engines -/

/-- R138, R139, R154, R158: a check runs and ends with its reason; one during which the pattern was written fails with 8 and INDEX 0.
In a pattern without valid segment ranges whose first END comes after pick 0, a pick 0 whose opcode is reserved, or that sets a
field or flag its opcode does not use or forbids, makes the check fail with reason 1 at 0; so does unloaded pattern memory. A
pattern without an END fails with reason 4 at 2,047. A check that finds nothing sets PAT_OK and shows the worst case. -/
def Obligations.PatternCheck : Prop :=
  (∀ (e : Fin 8) (m : Master) (s : State), Gives (.patternCheck e m) s fun t =>
    (t.eng e).check = some false ∧ t.reg (HDL_PAT_STATUS e) = 0x40000000) ∧
  (∀ (e : Fin 8) (s : State), (s.eng e).check = some true → Gives (.patternCheckDone e) s fun t =>
    (t.eng e).check = none ∧ t.fld (HDL_PAT_STATUS e) 31 30 = 3 ∧ t.fld (HDL_PAT_STATUS e) 23 16 = 8 ∧
    t.fld (HDL_PAT_STATUS e) 10 0 = 0 ∧ t.bit (HDL_STATUS e) 3 = false) ∧
  (∀ (e : Fin 8) (s : State), (s.eng e).check = some false → (∀ i, i < 2048 → (pickOf (patGet (s.eng e) i)).opc ≠ 2) →
    Gives (.patternCheckDone e) s fun t => t.bit (HDL_STATUS e) 3 = false ∧ t.fld (HDL_PAT_STATUS e) 31 30 = 3 ∧
      (((s.eng e).pat = [] → t.fld (HDL_PAT_STATUS e) 23 16 = 1 ∧ t.fld (HDL_PAT_STATUS e) 10 0 = 0) ∧
      ((s.eng e).pat ≠ [] → t.fld (HDL_PAT_STATUS e) 23 16 = 4 ∧ t.fld (HDL_PAT_STATUS e) 10 0 = 2047))) ∧
  (∀ (e : Fin 8) (last : Nat) (s : State), (s.eng e).check = some false → 0 < last → last < 2048 →
    (pickOf (patGet (s.eng e) last)).opc = 2 → (∀ i, i < last → (pickOf (patGet (s.eng e) i)).opc ≠ 2) →
    (∀ n, n < 16 → s.segValid e n = false) →
    let k := pickOf (patGet (s.eng e) 0)
    let on := pflag k
    (k.opc ∈ [0x00, 0x03, 0x0B, 0x0F, 0x1B] ∨ 0x1F < k.opc ∨ (k.opc = 0x01 ∧ (k.flg, k.d, k.a, k.b, k.p) ≠ (0, 0, 0, 0, 0)) ∨
      (k.opc = 0x04 ∧ (1 < k.flg ∨ k.a ≠ 0 ∨ k.b ≠ 0)) ∨ (k.opc = 0x05 ∧ (1 < k.flg ∨ on 0 = false ∧ k.b ≠ 0)) ∨
      (k.opc = 0x06 ∧ (15 < k.flg ∨ (if on 2 then k.b else k.p) ≠ 0)) ∨ (k.opc = 0x07 ∧ (1 < k.flg ∨ k.p ≠ 0)) ∨
      (k.opc = 0x09 ∧ (7 < k.flg ∨ (if on 1 then k.p else k.b) ≠ 0)) ∨ (k.opc ∈ [0x0A, 0x0C, 0x0D] ∧ k.flg ≠ 0) ∨
      (k.opc = 0x0E ∧ 1 < k.flg) ∨ (k.opc = 0x10 ∧ (1 < k.flg ∨ on 0 = true ∧ k.b ≠ 0)) ∨
      (k.opc = 0x11 ∧ (1 < k.flg ∨ on 0 = false ∧ k.p ≠ 0)) ∨
      (k.opc = 0x12 ∧ (31 < k.flg ∨ 5 < k.flg % 8 ∨ (if on 3 then k.b else k.p) ≠ 0)) ∨
      (k.opc = 0x13 ∧ (k.flg % 16 = 0 ∨ 9 < k.flg % 16 ∨ k.b ≠ 0)) ∨ (k.opc = 0x14 ∧ (2 < k.flg ∨ k.b ≠ 0 ∨ k.p ≠ 0)) ∨
      (k.opc = 0x15 ∧ (1 < k.flg ∨ k.b ≠ 0 ∨ k.p ≠ 0)) ∨ (k.opc ∈ [0x08, 0x16, 0x17, 0x18, 0x19] ∧ (k.flg ≠ 0 ∨ k.p ≠ 0)) ∨
      (k.opc = 0x1A ∧ (1 < k.flg ∨ k.p ≠ 0 ∨ on 0 = false ∧ k.b ≠ 0)) ∨
      (k.opc = 0x1C ∧ (3 < k.flg ∨ k.flg = 0 ∧ k.b ≠ 0)) ∨ (k.opc = 0x1D ∧ (7 < k.flg ∨ on 2 = false ∧ k.flg ≠ 0)) ∨
      (k.opc = 0x1E ∧ (31 < k.flg ∨ on 4 = false ∧ k.b ≠ 0)) ∨ (k.opc = 0x1F ∧ (k.flg ≠ 0 ∨ k.d ≠ 0))) →
    Gives (.patternCheckDone e) s fun t => t.bit (HDL_STATUS e) 3 = false ∧ t.fld (HDL_PAT_STATUS e) 31 30 = 3 ∧
      t.fld (HDL_PAT_STATUS e) 23 16 = 1 ∧ t.fld (HDL_PAT_STATUS e) 10 0 = 0) ∧
  (∀ (e : Fin 8) (w : Nat) (s : State), (s.eng e).check = some false → s.checkPattern e = (w, none) →
    Gives (.patternCheckDone e) s fun t => t.bit (HDL_STATUS e) 3 = true ∧ t.reg (HDL_PAT_STATUS e) = 0x80000000 ∧
      t.reg (HDL_WCET e) = BitVec.ofNat 32 w)

/-- R139, R145, R149, R150: RUN acts on the whole lock group and needs PAT_OK of every member; it is not cleared while the Weaver has an
enabled target fed from the group; CLR_STATES, LOCK_GRP and COUNT only as their rules allow. A refused write ends with status 3. -/
def Obligations.EngineControl : Prop :=
  (∀ (e : Fin 8) (m : Master) (s : State), Gives (.hdlRunSet e m) s fun t =>
    if (s.group e).all (fun x => s.bit (HDL_STATUS x) 3) then
      ∀ x ∈ s.group e, t.bit (HDL_CTRL x) 0 = true ∧ (t.eng x).stopReq = false ∧
        t.hdlState x = (if s.hdlState x = 0 then 1 else s.hdlState x)
    else t.engines = s.engines ∧ (∀ x : Fin 8, t.reg (HDL_CTRL x) = s.reg (HDL_CTRL x)) ∧ t.acc = 3) ∧
  (∀ (e : Fin 8) (m : Master) (s : State), Gives (.hdlRunClear e m) s fun t =>
    if (s.group e).any s.engineFeeds then
      t.engines = s.engines ∧ (∀ x : Fin 8, t.reg (HDL_CTRL x) = s.reg (HDL_CTRL x)) ∧ t.acc = 3
    else ∀ x ∈ s.group e, t.bit (HDL_CTRL x) 0 = false ∧ t.hdlState x = s.hdlState x ∧
      ((t.eng x).stopReq = true ∨ s.hdlState x = 0)) ∧
  (∀ (e : Fin 8) (m : Master) (s : State), Gives (.clrStates e m) s fun t =>
    if s.engRuns e then t.engines = s.engines ∧ t.acc = 3 else t.eng e = { s.eng e with st := [] }) ∧
  (∀ (e : Fin 8) (m : Master) (g : BitVec 3) (s : State), Gives (.lockGrpWrite e m g) s fun t => t.engines = s.engines ∧
    if s.engRuns e = true ∨ 4 < g.toNat then t.reg (HDL_CTRL e) = s.reg (HDL_CTRL e) ∧ t.acc = 3
    else t.fld (HDL_CTRL e) 10 8 = g.toNat ∧ t.fld (HDL_CTRL e) 7 0 = s.fld (HDL_CTRL e) 7 0) ∧
  (∀ (e : Fin 8) (m : Master) (n : BitVec 11) (s : State), Gives (.imgCountWrite e m n) s fun t => t.engines = s.engines ∧
    if 1024 < n.toNat ∨ imageLimit s.tcyc < imageBytes (s.sumCount e n.toNat) then
      t.reg (HDL_IMG e) = s.reg (HDL_IMG e) ∧ t.acc = 3
    else t.reg (HDL_IMG e) = BitVec.ofNat 32 n.toNat)

/-- R133, R137, R139, R140, R141, R242, R260: swap requests and withdrawals reach the whole lock group; SWAP_AT takes a cycle after
the current one within 2^30. A segment is not enabled while PAT_OK is 0, nor are the hand-over unit's segments touched while it
is busy; a range is written while the engine runs only where its segment is disabled and its old and new picks lie idle, and
clears PAT_OK. An input map entry whose node is not 1 to 40 is stored disabled. A standby refuses all of them to firmware and
host; a mirrored segment write is taken as the active module has accepted it. -/
def Obligations.EngineSettings : Prop :=
  (∀ (e : Fin 8) (m : Master) (s : State), s.mirrorBars m = false →
    (Gives (.swap e m) s fun t => ∀ x ∈ s.group e, (t.eng x).swap = some none ∧ t.bit (HDL_COEF_CTRL x) 8 = true) ∧
    (Gives (.cancel e m) s fun t => ∀ x ∈ s.group e, (t.eng x).swap = none ∧ t.bit (HDL_COEF_CTRL x) 8 = false) ∧
    Gives (.swapAt e m) s fun t =>
      let k := (s.reg (HDL_COEF_SWAP_CYC e)).toNat
      let d := sext 32 (k + 2 ^ 32 - s.k)
      if 0 < d ∧ d ≤ 2 ^ 30 then ∀ x ∈ s.group e, (t.eng x).swap = some (some k) ∧ t.bit (HDL_COEF_CTRL x) 8 = true
      else t.engines = s.engines ∧ t.acc = 3) ∧
  (∀ (e : Fin 8) (m : Master) (v : BitVec 16) (n : Fin 16) (j : Fin 464) (w : Word) (s : State), s.mirrorBars m = true →
    ∀ c ∈ [Instr.swap e m, .cancel e m, .swapAt e m, .segEnWrite e m v, .segRangeWrite e m n w, .inMapWrite e m j w],
    Gives c s fun t => t.engines = s.engines ∧ t.acc = 3 ∧ t.reg (HDL_SEG_EN e) = s.reg (HDL_SEG_EN e) ∧
      t.reg (HDL_SEG_RANGE e n) = s.reg (HDL_SEG_RANGE e n) ∧ t.reg (HDL_IN_MAP e j) = s.reg (HDL_IN_MAP e j)) ∧
  (∀ (e : Fin 8) (s : State), Gives (.coefCopyDone e) s fun t => t.bit (HDL_COEF_CTRL e) 9 = false ∧ t.engines = s.engines) ∧
  (∀ (e : Fin 8) (m : Master) (v : BitVec 16) (s : State), s.mirrorBars m = false →
    Gives (.segEnWrite e m v) s fun t =>
      let old := s.fld (HDL_SEG_EN e) 15 0
      if m ≠ .mirror ∧ (s.bit (HDL_STATUS e) 3 = false ∧ (∃ n ∈ List.range 16, v.getLsbD n = true ∧ s.bit (HDL_SEG_EN e) n = false) ∨
          s.hovPhase e ≠ 0 ∧ ∃ i ∈ List.range 4, v.getLsbD (s.hovSeg e i) ≠ old.testBit (s.hovSeg e i)) then
        t.reg (HDL_SEG_EN e) = s.reg (HDL_SEG_EN e) ∧ t.acc = 3
      else t.reg (HDL_SEG_EN e) = BitVec.ofNat 32 v.toNat ∧ t.reg (HDL_SEG_ACT e) = s.reg (HDL_SEG_ACT e)) ∧
  (∀ (e : Fin 8) (m : Master) (n : Fin 16) (v : Word) (s : State), s.mirrorBars m = false →
    Gives (.segRangeWrite e m n v) s fun t =>
      let w := v &&& 0x07FF87FF
      if m ≠ .mirror ∧ (s.hovPhase e ≠ 0 ∨ s.engRuns e = true ∧ ¬ (s.segOff e n = true ∧
          s.rangeIdle e (s.reg (HDL_SEG_RANGE e n)) = true ∧ s.rangeIdle e w = true)) then
        t.reg (HDL_SEG_RANGE e n) = s.reg (HDL_SEG_RANGE e n) ∧ t.bit (HDL_STATUS e) 3 = s.bit (HDL_STATUS e) 3 ∧ t.acc = 3
      else t.reg (HDL_SEG_RANGE e n) = w ∧ t.bit (HDL_STATUS e) 3 = false) ∧
  (∀ (e : Fin 8) (m : Master) (j : Fin 464) (v : Word) (s : State), s.mirrorBars m = false → Gives (.inMapWrite e m j v) s fun t =>
    t.engines = s.engines ∧ ∀ h : Fin 2,
      let e1 := v.toNat / 2 ^ (16 * h.val) % 2 ^ 16
      let e2 := (t.reg (HDL_IN_MAP e j)).toNat / 2 ^ (16 * h.val) % 2 ^ 16
      e2 / 8 % 2 ^ 12 = e1 / 8 % 2 ^ 12 ∧ e2 % 8 = 0 ∧
      (e2 / 2 ^ 15 = 1 ↔ e1 / 2 ^ 15 = 1 ∧ 1 ≤ e1 / 2 ^ 7 % 64 ∧ e1 / 2 ^ 7 % 64 ≤ 40))

/-- R124, R126, R132, R145, R242, R260, R336: the writes of an engine's memories. A refused write changes no engine; a pick is written
with its held high word and clears PAT_OK; mailbox words are staged but for the one the router assigns; the active bank is
written only while the engine is stopped; states of a running engine become presets, 64 at most; output words go to both
copies. A standby refuses firmware and host the mirrored stores. -/
def Obligations.EngineMemoryWrites : Prop :=
  (∀ (e : Fin 8) (m : Master) (i : Fin 2048) (lo : Word) (s : State), s.mirrorBars m = false →
    Gives (.patternWrite e m i lo) s fun t =>
      if m ≠ .mirror ∧ (s.engRuns e = true ∧ s.pickIdle e i = false ∨ s.hovPhase e ≠ 0) then t.engines = s.engines ∧ t.acc = 3
      else
        (∀ j, patGet (t.eng e) j = if j = i.val then join64 lo (s.heldHi (pickAddr e i) (hi32 (patGet (s.eng e) i)))
          else patGet (s.eng e) j) ∧
        t.bit (HDL_STATUS e) 3 = false ∧ (∀ k : Fin 8, k ≠ e → t.eng k = s.eng k)) ∧
  (∀ (e : Fin 8) (m : Master) (bank : Fin 2) (c : Fin 2048) (v : Word) (s : State), s.mirrorBars m = false →
    Gives (.coefWrite e m bank c v) s fun t =>
      if s.engRuns e = true ∧ bank.val = s.activeBank e then t.engines = s.engines ∧ t.acc = 3
      else (∀ k : Fin 8, k ≠ e → t.eng k = s.eng k) ∧ ∀ (b : Fin 2) (x : Fin 2048), coefBank (t.eng e) b x =
        if b = bank ∧ x = c then v else coefBank (s.eng e) b x) ∧
  (∀ (e : Fin 8) (m : Master) (w : Fin 32) (v : Word) (s : State), s.mirrorBars m = false → Gives (.mailboxWrite e m w v) s fun t =>
    if s.bit (EVR_HDL e) 31 = true ∧ s.fld (EVR_HDL e) 4 0 = w.val then t.engines = s.engines ∧ t.acc = 3
    else (t.eng e).sig = (s.eng e).sig ∧ (∀ k : Fin 8, k ≠ e → t.eng k = s.eng k) ∧ ∀ x, Sparse.get (fun _ => 0) (t.eng e).box x =
      if x = w.val then v else Sparse.get (fun _ => 0) (s.eng e).box x) ∧
  (∀ (e : Fin 8) (m : Master) (i c : Fin 2048) (bank : Fin 2) (w : Fin 32) (v : Word) (s : State), s.mirrorBars m = true →
    ∀ x ∈ [Instr.patternWrite e m i v, .coefWrite e m bank c v, .mailboxWrite e m w v],
    Gives x s fun t => t.engines = s.engines ∧ t.acc = 3) ∧
  (∀ (e : Fin 8) (m : Master) (w : Fin 32) (v : Word) (s : State),
    exec (.signalWrite e m ⟨992 + w.val, by omega⟩ v) s = exec (.mailboxWrite e m w v) s) ∧
  (∀ (e : Fin 8) (m : Master) (w : Fin 8192) (v : Word) (s : State), ¬ (992 ≤ w.val ∧ w.val < 1024) →
    Gives (.signalWrite e m w v) s fun t =>
      if s.engRuns e then t.engines = s.engines ∧ t.acc = 3
      else (∀ k : Fin 8, k ≠ e → t.eng k = s.eng k) ∧ ∀ x, sigRead (t.eng e) x = (if x = w.val then v else sigRead (s.eng e) x) ∧
        sigGet (t.eng e) x = if x = w.val then v else sigGet (s.eng e) x) ∧
  (∀ (e : Fin 8) (m : Master) (i : Fin 1024) (lo : Word) (s : State), Gives (.stateWrite e m i lo) s fun t =>
    let old := (stGet (s.eng e) i).toNat
    let hi := s.heldHi (stateAddr e i) (BitVec.ofNat 32 (old / 2 ^ 32)) &&& 0xFFFF
    if s.engRuns e then
      if 64 ≤ (s.eng e).presets.length then t.engines = s.engines ∧ t.acc = 3
      else t.eng e = { s.eng e with presets := (s.eng e).presets ++
          [{ idx := i, hi := hi, lo := lo, origin := s.originOf m }] } ∧
        t.reg (HDL_PRESET e) = BitVec.ofNat 32 ((s.eng e).presets.length + 1)
    else ∀ x, (stGet (t.eng e) x).toNat = if x = i.val then lo.toNat + hi.toNat * 2 ^ 32 else (stGet (s.eng e) x).toNat)

/-- R229, R233 to R235, R238, R241, R242: hand-over, relay measurement and capture start, stop and abort. A START begins the units of
the lock group that have VALID set, all of them or none; a relay START clears the unit's results; ARM is refused while the unit
is busy or its trigger time lies out of range, and takes a time that has passed as due. -/
def Obligations.TuningUnits : Prop :=
  (∀ (e : Fin 8) (m : Master) (s : State),
    let ms := (s.group e).filter fun x => x == e.val || s.bit (HDL_HOV_SEGS x) 31
    Gives (.hovStart e m) s fun t =>
      if ms.all (fun x => s.hovReady x && s.fld (HDL_HOV_CFG x) 31 16 == s.fld (HDL_HOV_CFG e) 31 16) then
        (∀ x ∈ ms, t.hovPhase x = 1 ∧ t.bit (HDL_SEG_EN x) (s.hovSeg x 0) = false ∧
          t.bit (HDL_SEG_EN x) (s.hovSeg x 2) = true ∧ t.fld (HDL_HOV_STATUS x) 15 8 = 0) ∧
        ∀ x : Fin 8, t.reg (HDL_SEG_ACT x) = s.reg (HDL_SEG_ACT x)
      else t.engines = s.engines ∧ t.acc = 3 ∧
        ∀ x : Fin 8, t.hovPhase x = s.hovPhase x ∧ t.reg (HDL_SEG_EN x) = s.reg (HDL_SEG_EN x)) ∧
  (∀ (e : Fin 8) (m : Master) (s : State), Gives (.hovAbort e m) s fun t => ∀ x ∈ s.group e,
    t.eng x = { s.eng x with hovAbt := (s.eng x).hovAbt || s.hovPhase x != 0 }) ∧
  (∀ (e : Fin 8) (u : Fin 4) (m : Master) (s : State), Gives (.rlyStart e u m) s fun t =>
    t.reg (HDL_RLY_STAT e u) = (if s.fld (HDL_RLY_CTRL e u) 7 4 = 0 then 2 else 1) ∧
    (∀ i, i < 5 → t.reg (relayReg e u i) = 0) ∧ (t.relay e u).window = [] ∧
    (t.relay e u).skip = s.fld (HDL_RLY_CTRL e u) 7 4) ∧
  (∀ (e : Fin 8) (u : Fin 4) (m : Master) (s : State), Gives (.rlyStop e u m) s fun t =>
    let st := s.fld (HDL_RLY_STAT e u) 2 0
    t.engines = s.engines ∧ t.fld (HDL_RLY_STAT e u) 2 0 = if st = 1 ∨ st = 2 then 6 else st) ∧
  (∀ (m : Master) (s : State), s.Calm 8 → Gives (.capArm m) s fun t =>
    if s.capBusy = true ∨ s.capFar = true then t.fld CAP_STATUS 2 0 = s.fld CAP_STATUS 2 0 ∧ t.cap = s.cap ∧ t.acc = 3
    else t.capState = 1 ∧ t.reg CAP_WPTR = 0 ∧ t.cap.stop = false ∧ t.cap.buf = s.cap.buf ∧
      (s.fld CAP_CTRL 9 8 = 0 → if tdiff (s.pair CAP_TRIG_LO) (s.now 0) ≤ 0 then t.cap.due = true
        else t.cap.due = false ∧ t.cap.trig = some (s.pair CAP_TRIG_LO)) ∧
      (s.fld CAP_CTRL 9 8 = 1 → t.cap.due = false) ∧ (s.fld CAP_CTRL 9 8 = 2 → t.cap.due = true)) ∧
  (∀ (m : Master) (s : State), s.Calm 8 → Gives (.capStop m) s fun t =>
    t.cap = { s.cap with stop := s.cap.stop || s.capBusy } ∧ t.capState = s.capState) ∧
  (∀ (m : Master) (halves : BitVec 2) (s : State), Gives (.capRelease m halves) s fun t => ∀ h : Fin 2,
    t.bit CAP_STATUS (4 + h) = (s.bit CAP_STATUS (4 + h) && !halves.getLsbD h))

/-! ## Weaver and Draft -/

/-- R30, R187, R205, R207, R218 to R220: marks and returns wait in the Weaver's shadow for t_out; the Draft takes no write; t_out applies the
shadow and builds the back bank, whose frames fit the limit unless only the sets of slot k+3 are left in. While a bypass command is due,
BYPASS_COMMAND sends it both ways as a WRITE of the close or open word to WVR_BYP_ADDR of the cell's node under the next SEQ, at most eight
times and never to a lost node. Its time limit ends the task, and ends a return that has not been completed. -/
def Obligations.WeaverShadowDraftAndBypass : Prop :=
  ((∀ (i : Fin 3) (m : Master) (v : Word) (s : State), (∀ k, m ≠ .loader k) →
    (Gives (.oosSet i m v) s fun t => t.reg (WVR_STR_OOS i) = s.reg (WVR_STR_OOS i) ∧
      if s.mirrorBars m then t.wvr = s.wvr ∧ t.acc = 3
      else t.wvr = { s.wvr with shadow := s.wvr.shadow ++ [{ addr := WVR_STR_OOS_SET i, val := v, m := m }] }) ∧
    Gives (.oosClr i m v) s fun t => t.reg (WVR_STR_OOS i) = s.reg (WVR_STR_OOS i) ∧
      if s.mirrorBars m then t.wvr = s.wvr ∧ t.acc = 3
      else t.wvr = { s.wvr with shadow := s.wvr.shadow ++ [{ addr := WVR_STR_OOS_CLR i, val := v, m := m }] }) ∧
  (∀ (m : Master) (addr v : Word) (s : State), Gives (.draftWrite m addr v) s fun t => t.wvr = s.wvr ∧ t.acc = 3) ∧
  (∀ s : State, s.duplex = false → Gives .tOut s fun t => t.wvr.built = true ∧ t.wvr.shadow = [] ∧
    ∀ h ∈ t.wvr.back, h.bytes ≤ t.frameLimit ∨ (h.flags % 2 = 1 ∧ ∀ x ∈ h.runs, x.2.1 = 3))) ∧
  ((∀ (i : Fin 3) (p : Fin 32) (x : BypTask) (a : Nat) (s : State),
    let c := 32 * i.val + p.val
    s.bypTask c = some x → s.cellAddr c = some a → s.controls = true → s.silent = false →
    ringUp (s.ring i) = true → Gives (.bypassCommand i p) s fun t =>
      if x.taken = false ∧ x.tries < 8 ∧ (s.rnode i a).lost = false then
        t.bypTask c = some { x with tries := x.tries + 1 } ∧ (t.ring i).mseq = ((s.ring i).mseq + 1) % 65536 ∧
        ∀ d : Dir, ∃ f : MgmtFrame, .warpTx (match d with | .cw => 2 * i | .ccw => 2 * i + 1) (.mgmt f) ∈ t.out ∧
          f.hdr.dir = d ∧ f.hdr.dst = BitVec.ofNat 6 a ∧ f.hdr.seq = BitVec.ofNat 16 (s.ring i).mseq ∧ f.op = 2 ∧
          f.npad = BitVec.ofNat 8 x.npad ∧
          f.req = [s.reg WVR_BYP_ADDR, if x.isOpen then s.reg WVR_BYP_OPEN else s.reg WVR_BYP_CLOSE]
      else t.wvr = s.wvr ∧ t.rings = s.rings) ∧
  (∀ (i : Fin 3) (p : Fin 32) (x : BypTask) (s : State),
    let c := 32 * i.val + p.val
    s.bypTask c = some x → Gives (.bypassTimeout i p) s fun t => t.bypTask c = none ∧
      t.bit (WVR_STR_RET i) p = (s.bit (WVR_STR_RET i) p && !x.isOpen) ∧ t.reg (WVR_STR_OOS i) = s.reg (WVR_STR_OOS i)))

/-! ## Duplex and Graft -/

/-- R251, R252, R254, R257, R259 to R262, R269: the lanes, and the fault of one that is out; STATUS both ways and its timeout; a valid
image is kept for its boundary where it is next in order, of this configuration and size, not ahead of the mirror, and in time,
else counted; MIRROR frames carry up to 64 writes in order, and a standby applies the one that follows, here the write of a
coefficient. What is sent is valid. -/
def Obligations.GraftFrames : Prop :=
  (∀ (lane : Fin 2) (s : State), (Gives (.graftLaneLoss lane) s fun t =>
      t.bit GFT_STATUS (4 + lane) = false ∧ (s.duplex = true → (0x0501, 31) ∈ t.flt.causes)) ∧
    Gives (.graftLaneLock lane) s fun t => t.bit GFT_STATUS (4 + lane) = true ∧
      (s.duplex = true → s.bit GFT_STATUS (4 + (1 - lane)) = false → (0x0501, 31) ∈ t.flt.causes)) ∧
  (∀ s : State, s.duplex = true → s.linkUp = true → Gives .graftStatusSend s fun t => ∃ f, .graftStatus f ∈ t.out ∧ statusOk f = true ∧
    f.pos = s.bit GFT_CFG 0 ∧ f.role = s.role ∧ f.k = s.reg TIM_CYCLE_NUM ∧ f.origin = BitVec.ofNat 64 (s.stamp 0) ∧ f.bk.toNat = s.bk % 2 ^ 64 ∧
    f.configId = s.reg GFT_CONFIG_ID) ∧
  (∀ (f : GraftStatus) (s : State), s.duplex = true → statusOk f = true → Gives (.graftStatusReceive f) s fun t =>
    t.gft.peer = some f ∧ t.gft.peerAt = s.stamp 0 ∧ t.bit GFT_STATUS 6 = true ∧ t.fld GFT_STATUS 10 8 = f.role % 8 ∧
    t.reg GFT_PEER_ID = f.configId) ∧
  (∀ s : State, s.duplex = true → Gives .peerStatusTimeout s fun t => t.bit GFT_STATUS 6 = false ∧ (0x0502, 31) ∈ t.flt.causes) ∧
  (∀ (img : Image) (s : State), s.duplex = true → s.isStandby = true → Gives (.graftImageReceive img) s fun t =>
    if imageOk img = true ∧ (∀ k, s.gft.lastK = some k → img.k.toNat = (k + 1) % 2 ^ 32) ∧
        img.configId = s.reg GFT_CONFIG_ID ∧ img.size ≤ imageLimit s.tcyc ∧
        sext 32 (img.mirrorSeq.toNat + 2 ^ 32 - (s.reg GFT_MSEQ).toNat) ≤ 0 then
      t.gft.lastK = some img.k.toNat ∧ t.gft.images =
        if img.k.toNat = s.k ∨ ((img.k.toNat + 1) % 2 ^ 32 = s.k ∧ s.cyc.outDone = false) then s.gft.images ++ [img]
        else s.gft.images
    else t.gft.images = s.gft.images ∧ t.fld GFT_CNT0 31 16 = min 65535 (s.fld GFT_CNT0 31 16 + 1)) ∧
  (∀ s : State, s.duplex = true → s.role = 4 → s.linkUp = true → s.gft.copyQ = [] → s.gft.mirrorQ ≠ [] →
    Gives .graftMirrorSend s fun t =>
      (∃ f, .graftMirror f ∈ t.out ∧ mirrorOk f = true ∧ f.mseq = s.reg GFT_MSEQ + 1 ∧ f.writes = s.gft.mirrorQ.take 64) ∧
      t.gft.mirrorQ = s.gft.mirrorQ.drop 64 ∧
      t.reg GFT_MSEQ = s.reg GFT_MSEQ + BitVec.ofNat 32 (s.gft.mirrorQ.take 64).length) ∧
  (∀ (f : MirrorFrame) (e : Fin 8) (bank : Fin 2) (c : Fin 2048) (v : Word) (s : State), s.standby = true →
    s.engRuns e = false → mirrorOk f = true → f.writes = [(BitVec.ofNat 32 (coefAddr e bank c), v)] →
    Gives (.graftMirrorReceive f.line f.mseq f.writes) s fun t =>
      if s.gft.gapQ = true ∨ f.mseq = s.reg GFT_MSEQ + 1 then t.reg GFT_MSEQ = f.mseq ∧ coefBank (t.eng e) bank c = v
      else t.reg GFT_MSEQ = s.reg GFT_MSEQ ∧ t.engines = s.engines)

/-- R249, R256, R261, R263, R264, R267 to R269: a standby asks for a resync. A hand-off is taken from firmware or an Engineer on an active
module whose peer is synchronized, at once or, while a hand-over unit is busy, later, and else refused. After its hold-off a preferred
synchronized standby asks for the revert, with both preferred only in position B. An unqualified standby takes control cold, every enable
cleared. A module whose start wait ends without a peer takes control, waits as a standby where traffic passed or it is faulted, and
stays where its peer has shown its own position. -/
def Obligations.ControlOfTheRings : Prop :=
  (∀ (m : Master) (s : State), s.standby = true → Gives (.gftResync m) s fun t => t.gft.wantRs = true ∧ t.gft.copied = false ∧ t.gft.gapQ = true) ∧
  (∀ (m : Master) (s : State), s.gft.hoPhase = 0 → s.gft.hoReq = 0 → s.Calm 8 → Gives (.gftHandoff m) s fun t =>
    if mayHandoff m = true ∧ s.duplex = true ∧ s.role = 4 ∧ s.fld GFT_STATUS 10 8 = 3 then
      if (upTo 0 8).all (fun e => s.hovPhase e == 0) then t.gft.hoPhase = 1 ∧ t.gft.hoReq = 0
      else t.gft.hoReq = 1 ∧ t.gft.hoPhase = 0
    else t.gft.hoPhase = 0 ∧ t.gft.hoReq = 0 ∧ t.acc = 3) ∧
  (∀ m : Master, mayHandoff m = true ↔ (∃ c, m = .crown c) ∨ ∃ x r y, m = .host x r y ∧ 2 ≤ r.val) ∧
  (∀ s : State, Gives .revertHoldoffExpire s fun t =>
    if s.duplex = true ∧ s.role = 3 ∧ s.bit GFT_CFG 1 = true ∧ s.fld GFT_REVERT 15 0 ≠ 0 ∧
        (s.bit GFT_CFG 0 = true ∨ ∀ p, s.gft.peer = some p → p.flags.getLsbD 1 = false) then
      t.gft.revert = true ∧ t.gft.revAt = none
    else t.gft.revert = s.gft.revert) ∧
  (∀ s : State, s.duplex = true → s.role = 1 → s.bit GFT_CTRL 2 = true → s.samePos = false → s.faulted = false →
    Gives .coldTakeover s fun t => t.role = 4 ∧ t.anyEn = false ∧
      (∀ i : Fin 3, t.reg (WVR_STR_EN i) = 0) ∧ ∀ q : Fin 24, t.fld (WVR_QUAD_CFG q) 1 0 = 0) ∧
  (∀ s : State, s.duplex = true → s.role = 0 → s.bit GFT_STATUS 6 = false → Gives .startWaitExpire s fun t =>
    if s.gft.passed = true ∨ s.faulted = true then t.role = 1 ∧ t.gft.wantRs = true
    else if s.samePos then t.role = 0 ∧ t.rings = s.rings else t.role = 4)

/-! ## Safety functions -/

/-- R276, R279 to R283, R287, R301: a channel in PERMIT that goes low or toggles demands; where its function is SPB or SMT and it did not
demand, SPB is latched with its BLK, SMT too for a channel of SMT, and the event is stamped at its first low sample, or at the first
change of a toggling input, which raises 0x0606. A channel permits again once its test pulses have returned. A pulse shows the levels
sampled; a channel that was high and shows no low sample in the window has missed its return and is in DEMAND. Channels of a pair that
differ latch it. A test-pulse source switches off, on again, and its fault ends. -/
def Obligations.SafeInputs : Prop :=
  (∀ (ch : Fin 8) (toggling : Bool) (run : Nat) (s : State), s.Quiet → s.permits ch = true →
    Gives (.safeInputDemand ch ⟨toggling, run⟩) s fun t =>
    t.permits ch = false ∧ (t.chan ch).returned = 0 ∧ t.bit SAF_IN ch = (toggling && s.bit SAF_IN ch) ∧
    (toggling = true → t.Recorded 0x0606 ch) ∧
    ((s.chanFn ch = 1 ∨ s.chanFn ch = 2) → s.bit SAF_DEMAND ch = false → t.bit SAF_DEMAND ch = true ∧ t.spb = true ∧
      (s.chanFn ch = 2 → t.bit SAF_STATUS 1 = true) ∧
      (let back := if toggling then min (ns (10 * run)) s.filterTime
        else max s.filterTime (min (ns (10 * run)) (if s.tested ch then s.testWindow else 0))
      t.pair SAF_LAST_LO = (s.stamp 1 + 2 ^ 64 - back) % 2 ^ 64) ∧
      (s.spb = false → ∀ r ∈ s.ringsEn, .blk (2 * r) ∈ t.out ∧ .blk (2 * r + 1) ∈ t.out))) ∧
  (∀ (ch : Fin 8) (s : State), s.Quiet → Gives (.safeInputPermit ch) s fun t =>
    if s.permits ch = false ∧ (if (s.chan ch).repeated then 2 ≤ (s.chan ch).returned
        else s.tested ch = true → 1 ≤ (s.chan ch).returned) then
      t.permits ch = true ∧ t.bit SAF_IN ch = true ∧ t.bit SAF_IN (16 + ch) = false ∧ (t.chan ch).repeated = false
    else t.permits ch = s.permits ch ∧ t.saf.chans = s.saf.chans) ∧
  (∀ (n : Fin 4) (levels : BitVec 8) (s : State), s.Quiet → Gives (.testPulse ⟨n, levels⟩) s fun t =>
    t.fld SAF_IN 7 0 = levels.toNat ∧
    if s.saf.tpsOff.getLsbD n then t.saf = s.saf
    else t.saf.tpsPulse.getLsbD n = true ∧ ∀ c ∈ s.fedBy n, (t.chan c).missNow = false ∧ (t.chan c).high = levels.getLsbD c) ∧
  (∀ (n : Fin 4) (sawLow lowAtEnd : BitVec 8) (s : State), s.Quiet → s.saf.tpsPulse.getLsbD n = true →
    Gives (.testWindowEnd n sawLow lowAtEnd) s fun t => t.saf.tpsPulse.getLsbD n = false ∧
      ∀ c ∈ s.fedBy n, t.bit SAF_IN c = !lowAtEnd.getLsbD c ∧
        ((s.chan c).high = true → lowAtEnd.getLsbD c = false → sawLow.getLsbD c = false →
          t.permits c = false ∧ t.bit SAF_IN (16 + c) = true) ∧
        ((s.chan c).high = true → lowAtEnd.getLsbD c = false → sawLow.getLsbD c = true → (s.chan c).repeated = false →
          s.paired (c / 2) = false → (t.chan c).returned = (s.chan c).returned + 1)) ∧
  (∀ (i : Fin 4) (s : State), s.Quiet → s.paired i = true → s.pairLatched i = false →
    s.permits (2 * i) ≠ s.permits (2 * i + 1) → Gives (.pairDiscrepancy i) s fun t =>
      t.pairLatched i = true ∧ (0x0603, i.val) ∈ t.flt.causes ∧ t.Recorded 0x0603 i) ∧
  (∀ (n : Fin 4) (s : State), s.Quiet → (Gives (.tpsOverload n) s fun t =>
      t.saf.tpsOff.getLsbD n = true ∧ t.saf.tpsPulse.getLsbD n = false ∧ t.Recorded 0x0613 n ∧
      ∀ c ∈ s.fedBy n, t.bit SAF_IN c = false) ∧
    Gives (.tpsRestart n) s fun t => t.saf = { s.saf with tpsOff := t.saf.tpsOff } ∧ t.saf.tpsOff.getLsbD n = false) ∧
  (∀ (n : Fin 4) (s : State), s.Tame → s.saf.tpsOff.getLsbD n = false → Gives (.tpsRecovered n) s fun t =>
    (0x0613, n.val) ∉ t.flt.causes)

/-- R275 to R277, R281, R284 to R287, R289, R300: an acknowledgement, by the reset input or at the end of AR_DELAY, releases SMT where no
source demands it, with the outputs on, and SPB where none demands, but not in the safe start-up state. The test of an output opens
one of its switches; without a demand in the pulse it is judged, and one that did not fall is 0x0607; with one it is discarded and
counted. An overload and a missing return turn the output off and demand SPB and SMT. SV24, the comparison of the cores and the
self-test. BLK is repeated on every enabled ring while SPB is latched. -/
def Obligations.SafeOutputsAndVoter : Prop :=
  (∀ (ch : Fin 8) (s : State), s.Quiet → s.chanFn ch = 3 → s.manual = true → s.saf.testOut = none →
    Gives (.resetInputAck ch) s fun t =>
      if s.fld SED_STATUS 18 16 = 7 then t.spb = s.spb ∧ t.bit SAF_STATUS 1 = s.bit SAF_STATUS 1
      else t.spb = (s.spb && s.reg SAF_DEMAND != 0) ∧
        t.bit SAF_STATUS 1 = (s.bit SAF_STATUS 1 && s.anySmt (s.reg SAF_DEMAND).toNat) ∧
        (s.bit SAF_STATUS 1 = true → t.bit SAF_STATUS 1 = false → t.fld SAF_OUT 1 0 = 3)) ∧
  (∀ s : State, s.Quiet → s.saf.arRunning = true → s.saf.valid = true → s.manual = false → s.saf.testOut = none →
    Gives .arDelayExpire s fun t =>
      if s.fld SED_STATUS 18 16 = 7 then t.spb = s.spb ∧ t.bit SAF_STATUS 1 = s.bit SAF_STATUS 1
      else t.spb = (s.spb && s.reg SAF_DEMAND != 0) ∧
        t.bit SAF_STATUS 1 = (s.bit SAF_STATUS 1 && s.anySmt (s.reg SAF_DEMAND).toNat) ∧
        (s.bit SAF_STATUS 1 = true → t.bit SAF_STATUS 1 = false → t.fld SAF_OUT 1 0 = 3)) ∧
  (∀ (o : Fin 2) (s : State), s.Quiet → s.bit SAF_OUT o = true → s.saf.testOut = none → Gives (.outputTest o) s fun t =>
    t.saf.testOut = some o ∧ t.bit SAF_OUT 8 = true ∧ t.bit SAF_OUT o = false ∧
    t.bit SAF_OUT (4 + 2 * o + (s.saf.testSb.getLsbD o).toNat) = false) ∧
  (∀ (o : Fin 2) (fell : Bool) (s : State), s.Quiet → s.saf.testOut = some o → s.saf.ackPend = false →
    Gives (.outputTestEnd o fell) s fun t => t.saf.testOut = none ∧ t.bit SAF_OUT 8 = false ∧
      t.saf.testSb.getLsbD o = !s.saf.testSb.getLsbD o ∧
      (s.saf.hitInTest = true → t.fld SAF_CNT1 15 0 = min 65535 (s.fld SAF_CNT1 15 0 + 1) ∧ t.saf.cond = s.saf.cond) ∧
      (s.saf.hitInTest = false ∧ fell = true ∧ s.bit SAF_STATUS 1 = false →
        t.bit SAF_OUT (4 + 2 * o + (s.saf.testSb.getLsbD o).toNat) = true) ∧
      (s.saf.hitInTest = false ∧ fell = false → t.bit SAF_OUT (2 + o) = true ∧ (0x0607, o.val) ∈ t.flt.causes ∧
        nbit t.saf.cond 19 = true)) ∧
  (∀ (o : Fin 2) (s : State), s.Quiet → ∀ c ∈ [Instr.outputOverload o, .outputReturnTimeout o], Gives c s fun t =>
    t.bit SAF_OUT o = false ∧ t.bit SAF_OUT (2 + o) = true ∧ (0x0608, o.val) ∈ t.flt.causes ∧ t.spb = true ∧
    t.bit SAF_STATUS 1 = true) ∧
  (∀ s : State, s.Quiet → (Gives .sv24OutOfRange s fun t => t.bit SAF_OUT 9 = false ∧ (0x0609, 31) ∈ t.flt.causes ∧
      nbit t.saf.cond 20 = true ∧ (s.bit SAF_DEMAND 20 = false → t.spb = true ∧ t.bit SAF_STATUS 1 = true)) ∧
    (Gives .sv24Restored s fun t => t.bit SAF_OUT 9 = true ∧ nbit t.saf.cond 20 = false) ∧
    (Gives .coreDisagree s fun t => (∃ core : Fin 2, t.saf.coreOff.getLsbD core = true) ∧ (0x060F, 31) ∈ t.flt.causes ∧
      nbit t.saf.cond 21 = true) ∧
    (Gives (.selftestDone true) s fun t =>
      if s.saf.testFail then t.saf = s.saf else t.bit SAF_STATUS 3 = true ∧ nbit t.saf.cond 15 = false) ∧
    Gives (.selftestDone false) s fun t => (0x0610, 31) ∈ t.flt.causes ∧ t.spb = true ∧ t.bit SAF_STATUS 1 = true ∧
      t.saf.testFail = true) ∧
  (∀ s : State, s.spb = true → (s.controls = true ∨ s.machineDemand = true) → Gives .blkRepeat s fun t =>
    ∀ r ∈ s.ringsEn, .blk (2 * r) ∈ t.out ∧ .blk (2 * r + 1) ∈ t.out)

/-- R294 to R299, with a block that enables REMOTE: a copy that is not sound, repeats a LAN, or is no newer than what was acted on is
counted invalid. The first copy of a PSEQ waits; STOP and TRIP demand with it. The other copy makes a pair: alike, it ends the
difference and, as PERMIT, the remote demands, and sixteen in a row end the degraded state; unlike, it demands. A PERMIT copy that
waited alone is taken as a single copy, in the degraded state. The watchdog demands. The degraded state's limit. The seal bank shows
its code and poles, and Safety Edit demands. A parameter block is in force only where it is valid and its code is the one on S1. -/
def Obligations.RemotePermitsAndSeal : Prop :=
  (∀ (p : SafetyPdu) (s : State), s.Quiet → s.remote = true → Gives (.safetyPduReceive p) s fun t =>
    let n := pduSeq p
    let waits := s.saf.pend.find? fun q => pduSeq q == n
    let newer := decide (0 < sext 32 (n + 2 ^ 32 - (s.reg SAF_REMOTE).toNat))
    let invalid := t.fld SAF_CNT0 31 16 = min 65535 (s.fld SAF_CNT0 31 16 + 1) ∧ t.saf.pend = s.saf.pend ∧ t.saf.cond = s.saf.cond
    (s.pduSound p = false → invalid) ∧
    (s.pduSound p = true → waits = none →
      if newer then
        if pduCode p = 0xA55A then
          t.saf.pend = s.saf.pend ++ [p] ∧ t.saf.cond = s.saf.cond ∧ t.reg SAF_REMOTE = s.reg SAF_REMOTE
        else p ∈ t.saf.pend ∧ nbit t.saf.cond (if pduCode p = 0x0FF0 then 9 else 8) = true ∧
          t.reg SAF_REMOTE = BitVec.ofNat 32 n
      else if s.saf.singles.contains n then
        t.fld SAF_CNT0 15 0 = min 65535 (s.fld SAF_CNT0 15 0 + 1) ∧ t.saf.singles = s.saf.singles.erase n ∧
        t.saf.cond = s.saf.cond
      else invalid) ∧
    (∀ q, s.pduSound p = true → waits = some q →
      if q.lanB = p.lanB then invalid
      else (∀ x ∈ t.saf.pend, pduSeq x ≠ n) ∧ (newer = true → t.reg SAF_REMOTE = BitVec.ofNat 32 n) ∧
        if q.bytes.take 28 = p.bytes.take 28 then nbit t.saf.cond 11 = false ∧
          (15 ≤ s.saf.pairRun → t.bit SAF_STATUS 5 = false) ∧
          (pduCode p = 0xA55A → nbit t.saf.cond 8 = false ∧ nbit t.saf.cond 9 = false ∧ nbit t.saf.cond 10 = false)
        else nbit t.saf.cond 11 = true ∧ (0x060A, 31) ∈ t.flt.causes ∧ t.saf.pairRun = 0)) ∧
  (∀ (p : SafetyPdu) (ps : List SafetyPdu) (s : State), s.Quiet → s.saf.pend = p :: ps → Gives .safetyWinExpire s fun t =>
    t.saf.pairRun = 0 ∧
    if pduCode p = 0xA55A then (∀ x ∈ t.saf.pend, x ∈ ps) ∧ pduSeq p ∈ t.saf.singles ∧
      (0 < sext 32 (pduSeq p + 2 ^ 32 - (s.reg SAF_REMOTE).toNat) → t.reg SAF_REMOTE = BitVec.ofNat 32 (pduSeq p)) ∧
      (blkAt s.saf.block 0x28 4 ≠ 0 → s.saf.degOver = false → t.bit SAF_STATUS 5 = true ∧ nbit t.saf.cond 10 = false)
    else t.saf.pend = ps ∧ t.saf.cond = s.saf.cond) ∧
  (∀ s : State, s.Quiet → s.remote = true → Gives .remoteWatchdogExpire s fun t =>
    nbit t.saf.cond 10 = true ∧ (0x060B, 31) ∈ t.flt.causes) ∧
  (∀ s : State, s.Quiet → s.bit SAF_STATUS 5 = true → s.saf.degOver = false → Gives .degradedExpire s fun t =>
    t.saf.degOver = true ∧ t.current SAF_DEG_LEFT = 0 ∧ t.Recorded 0x060D 31) ∧
  (∀ (code : BitVec 16) (a b : Bool) (s : State), s.Quiet → Gives (.sealBankRead code a b) s fun t =>
    let on := if a ≠ b then a else s.bit SAF_SEAL 16 || s.bit SAF_SEAL 17
    t.fld SAF_SEAL 15 0 = code.toNat ∧ t.bit SAF_SEAL 17 = (a == b) ∧ t.bit SAF_SEAL 16 = on ∧
    (on = true → nbit t.saf.cond 13 = true ∧ (0x0602, 31) ∈ t.flt.causes) ∧
    (t.saf.valid = true → setCode t.saf.block ≠ code.toNat → nbit t.saf.cond 12 = true ∧ (0x0601, 31) ∈ t.flt.causes)) ∧
  (∀ (b : SafetyBlock) (s : State), s.Quiet → Gives (.safetyBlockLoad b) s fun t => t.saf.card = b ∧
    if blockReason b = 0 ∧ setCode b = s.s1Code then
      t.saf.valid = true ∧ t.saf.block = b ∧ t.reg SAF_PARAM_ID = BitVec.ofNat 32 (blockCrc b)
    else t.saf.valid = false ∧ t.reg SAF_PARAM_ID = 0 ∧ nbit t.saf.cond 14 = true ∧ (0x0611, 31) ∈ t.flt.causes ∧
      t.fld SAF_SEAL 31 24 = (if blockReason b = 0 then 6 else blockReason b))

/-! ## Faults and the journal -/

/-- R15, R303 to R307, R424: a raise opens a record with its code, class, unit and stamps, or is merged into the newest
unacknowledged record of its block; the class shows in FLT_STATUS, and Bough and Trunk stop RUN; a code that no table lists is not
raised. -/
def Obligations.FaultRaises : Prop :=
  (∀ (code : BitVec 16) (u : Fin 32) (stamp : Time) (p : Bool) (s : State), s.Quiet → classOf code.toNat ≠ 0 →
    s.reg FLT_STATUS = 0 → Gives (.faultRaise code u stamp p none) s fun t =>
      let c := classOf code.toNat
      t.Recorded code.toNat u ∧ t.fld (FLT_REC_STAT 13) 26 24 = c ∧ t.pair (FLT_REC_FIRST_LO 13) = stamp.toNat ∧
      t.pair (FLT_REC_LAST_LO 13) = stamp.toNat ∧ t.flt.causes = (if p then [(code.toNat, u.val)] else []) ∧
      t.bit (FLT_REC_ACTIVE 13) (code.toNat % 256) = p ∧ t.fld FLT_STATUS 10 8 = c ∧ t.bit FLT_STATUS 1 = decide (4 ≤ c) ∧
      t.run = (if c < 4 then s.run else if s.run = 2 ∨ s.run = 3 then 3 else 0)) ∧
  (∀ (code : BitVec 16) (u : Fin 32) (stamp : Time) (p : Bool) (cap : Option Capture) (s : State), s.Calm 0 →
    classOf code.toNat = 0 → Gives (.faultRaise code u stamp p cap) s fun t => t.flt = s.flt ∧ t.regs = s.regs) ∧
  (∀ (code : BitVec 16) (u : Fin 32) (stamp : Time) (p : Bool) (cap : Option Capture) (r : Nat) (s : State),
    s.Unrouted → s.Calm 128 → s.duplex = false → classOf code.toNat ≠ 0 → r < 64 →
    s.newestRec (code.toNat / 256) false = some r → s.pair (FLT_REC_FIRST_LO r) ≠ stamp.toNat →
    Gives (.faultRaise code u stamp p cap) s fun t =>
      t.flt.order = s.flt.order ∧ t.bit (FLT_REC_CODES r) (code.toNat % 256) = true ∧ t.bit (FLT_REC_SRC r) u = true ∧
      t.pair (FLT_REC_FIRST_LO r) = s.pair (FLT_REC_FIRST_LO r) ∧ t.pair (FLT_REC_LAST_LO r) = stamp.toNat ∧
      t.fld (FLT_REC_MERGE r) 15 0 = min 65535 (s.fld (FLT_REC_MERGE r) 15 0 + 1) ∧
      t.recClass r = max (s.recClass r) (classOf code.toNat))

/-- R304, R307, R308: the end of a cause leaves none of its code, but for those of the router's own 0x0801 and 0x0802; an acknowledged
record of class below Bough with no active cause is freed, and any other stays; a Bough record is cleared by an Engineer once it is
acknowledged and inactive; who may not, or what is not there, is refused and counted. -/
def Obligations.AcknowledgeAndClear : Prop :=
  (∀ (code : BitVec 16) (s : State), Gives (.faultCauseEnd code) s fun t =>
    ∀ u, (code.toNat, u) ∈ t.flt.causes → code.toNat = 0x0801 ∨ code.toNat = 0x0802) ∧
  (∀ (m : Master) (n : Fin 64) (s : State), s.Unrouted → s.Calm 128 → Gives (.fltAck m n) s fun t =>
    if mayBy true 1 m = true ∧ s.recUsed n = true then
      (s.recAcked n = false → if s.recClass n < 4 ∧ s.reg (FLT_REC_ACTIVE n) = 0 then
          t.reg (FLT_REC_STAT n) = 0 ∧ n.val ∉ t.flt.order
        else t.recUsed n = true ∧ t.recAcked n = true ∧ t.flt.order = s.flt.order) ∧
      t.flt.causes = s.flt.causes
    else t.flt = s.flt ∧ t.fld FLT_CNT 15 0 = min 65535 (s.fld FLT_CNT 15 0 + 1) ∧ t.acc = 3) ∧
  (∀ (m : Master) (n : Fin 64) (s : State), s.Unrouted → s.Calm 128 → Gives (.fltClear m n) s fun t =>
    if mayBy false 2 m = true ∧ s.recUsed n = true ∧ s.recClass n = 4 ∧ s.recAcked n = true ∧ s.reg (FLT_REC_ACTIVE n) = 0 then
      t.reg (FLT_REC_STAT n) = 0 ∧ n.val ∉ t.flt.order
    else t.flt = s.flt ∧ t.fld FLT_CNT 15 0 = min 65535 (s.fld FLT_CNT 15 0 + 1) ∧ t.acc = 3)

/-- R7, R34, R125, R309 to R313, R423: an uncorrectable error poisons its word; a fabric access to it ends in a bus error with the master's
code; a word of Crown SRAM raises 0x0D04, a dirty pattern or coefficient word 0x0D05, a clean one waits for its reload, and a read by
the Weaver or a Shuttle engine raises 0x0D03; one that a Heddle engine reads ends its run, and a state becomes 0. A reload ends the
error with 0x0D02, and without the card it stays. A scrub pass finds what is poisoned and counts. Faults of the platform; FLT_INJ only
in factory test mode. -/
def Obligations.MemoryAndPlatformFaults : Prop :=
  (∀ (addr : Word) (finder : Byte) (access width : BitVec 2) (s : State),
    let a := addr.toNat / 4 * 4
    ¬ (0x10 ≤ finder.toNat ∧ finder.toNat ≤ 0x17) → Gives (.eccUncorrectable addr ⟨finder, access, width⟩) s fun t =>
      t.poisoned a = true ∧ (finder = 0x18 ∨ finder = 0x20 ∨ finder = 0x21 → (0x0D03, wordTag a) ∈ t.flt.causes) ∧
      (finder = 0 ∨ finder = 1 ∨ finder = 0x30 → t.acc = 4) ∧
      (0x10000000 ≤ a → a < 0x10400000 → (0x0D04, wordTag a) ∈ t.flt.causes) ∧
      (cardStore a = true → s.isDirty a = true ∨ s.seed.cardOk = false → (0x0D05, wordTag a) ∈ t.flt.causes) ∧
      (s.Quiet → cardStore a = true → s.isDirty a = false → s.seed.cardOk = true → ∃ c ∈ t.flt.reloads, c.addr.toNat = a)) ∧
  (∀ (e : Fin 8) (i : Fin 1024) (access width : BitVec 2) (s : State), (s.eng e).inRun = true →
    Gives (.eccUncorrectable (BitVec.ofNat 32 (stAddr e i)) ⟨BitVec.ofNat 8 (0x10 + e.val), access, width⟩) s fun t =>
      stGet (t.eng e) i = 0 ∧ (t.eng e).inRun = false ∧ (t.eng e).pub = (s.eng e).pub ∧ t.poisoned (stAddr e i) = false) ∧
  (∀ (addr : Word) (s : State),
    let a := addr.toNat / 4 * 4
    cardStore a = true → s.poisoned a = true → s.isDirty a = false → (∃ c ∈ s.flt.reloads, c.addr.toNat = a) →
    Gives (.eccReloadDone addr) s fun t => t.engines = s.engines ∧
      if s.seed.cardOk then t.poisoned a = false ∧ (s.Quiet → t.Recorded 0x0D02 ((a - 0x20000000) / 0x40000))
      else t.poisoned a = true ∧ (0x0D05, wordTag a) ∈ t.flt.causes) ∧
  (∀ (n : Nat) (heddle : List Nat) (s : State), (Gives (.scrubPass ⟨n, heddle⟩) s fun t =>
      (s.Tame → (0x0D0B, 31) ∉ t.flt.causes) ∧ (s.Quiet → s.poison = [] → 64 < n → t.Recorded 0x0D01 31) ∧
      (∀ e : Fin 8, t.fld (HDL_ECC_CNT e) 15 0 = min 65535 (s.fld (HDL_ECC_CNT e) 15 0 + nth heddle e 0)) ∧
      ∀ a, s.poisoned a = true → 0x10000000 ≤ a → a < 0x10400000 → (0x0D04, wordTag a) ∈ t.flt.causes) ∧
    Gives .scrubPassOverdue s fun t => (0x0D0B, 31) ∈ t.flt.causes) ∧
  (∀ (m : Byte) (addr : Word) (access width : BitVec 2) (s : State), s.Quiet → Gives (.busError m addr access width) s fun t =>
    t.acc = 4 ∧ t.Recorded 0x0D06 31 ∧ t.reg (FLT_REC_FEC_ADDR 13) = addr ∧
    t.reg (FLT_REC_FEC_INFO 13) = BitVec.ofNat 32 (m.toNat * 2 ^ 24 + access.toNat * 2 ^ 16 + width.toNat * 2 ^ 12)) ∧
  (∀ (c : Fin 2) (s : State), s.Quiet → (Gives (.crownLockstepMismatch c) s fun t => t.Recorded 0x0D08 c) ∧
    (Gives .fabricHandshakeTimeout s fun t => t.Recorded 0x0D0A 31) ∧
    Gives .factoryJumperFitted s fun t => t.bit SED_FACTORY 1 = true ∧ t.bit SED_FACTORY 0 = s.bit SED_FACTORY 0 ∧
      (s.bit SED_FACTORY 0 = false → t.Recorded 0x0B09 31)) ∧
  (∀ (m : Master) (v : Word) (s : State), s.Quiet → Gives (.fltInj m v) s fun t =>
    if s.injAllowed m then t.acc = s.acc ∧
      (fld v 31 28 = 0 → classOf (fld v 15 0) ≠ 0 → t.Recorded (fld v 15 0) 31) ∧
      (fld v 31 28 = 1 → t.poisoned (0x10000000 + fld v 27 16 * 1024) = true) ∧
      (fld v 31 28 ≠ 0 → fld v 27 16 * 1024 < nth partBytes (fld v 31 28 - 1) 0 →
        t.poisoned (partAddr (fld v 31 28 - 1) (fld v 27 16 * 1024)) = true)
    else t.acc = 4 ∧ t.poison = s.poison ∧ t.Recorded 0x0D06 31)

/-- R314 to R316, R318 to R321, R323: an entry takes the next sequence number and its place in the ring, and a safety core's is followed
by its STAMP; the copier moves up to a page of seven to the card in order; a block that fails is marked bad, and its entries go on in
the next erased one; a card that does not respond is 0x0B05. It erases the oldest block ahead of it while nothing waits, and starts
again once two blocks are usable. A flush that ends counts what remains as lost, with a LOSS entry on the card. -/
def Obligations.JournalCopier : Prop :=
  (∀ (origin : BitVec 16) (type : Byte) (refused : Bool) (target old new : Word) (s : State), s.Calm 2 →
    Gives (.journalEntry origin type refused target old new) s fun t =>
      let e := Sparse.get (fun _ => JEntry.none) t.jnl.ring ((s.reg JNL_HEAD).toNat % 8192)
      let safe := origin.toNat / 4096 = 3
      t.reg JNL_HEAD = s.reg JNL_HEAD + (if safe then 2 else 1) ∧ e.origin = origin ∧ e.type = type ∧ e.target = target ∧
      e.old = old ∧ e.new = new ∧ e.t0.toNat = s.now 0 ∧ e.flags.getLsbD 0 = refused ∧ e.flags.getLsbD 3 = decide safe ∧
      ∀ i, i ≠ (s.reg JNL_HEAD).toNat % 8192 → i ≠ ((s.reg JNL_HEAD).toNat + 1) % 8192 →
        Sparse.get (fun _ => JEntry.none) t.jnl.ring i = Sparse.get (fun _ => JEntry.none) s.jnl.ring i) ∧
  (∀ (c : Fin 2) (v : Word) (s : State), s.Calm 1 → Gives (.jnlNote (.crown c) v) s fun t =>
    let e := Sparse.get (fun _ => JEntry.none) t.jnl.ring ((s.reg JNL_HEAD).toNat % 8192)
    e.type = 8 ∧ e.origin.toNat = 0x1000 + c.val ∧ e.target = s.reg JNL_NOTE_TGT ∧ e.old = s.reg JNL_NOTE_OLD ∧ e.new = v) ∧
  (∀ s : State, s.Calm 0 → s.jRuns = true → s.jnl.lost = none → (s.jblk s.jnl.cur).bad = false → 0 < s.jPending → s.jPending ≤ 8192 →
    (s.jblk s.jnl.cur).entries.length + 7 ≤ 1785 → Gives (.journalCopy (some true)) s fun t =>
      t.reg JNL_COPIED = BitVec.ofNat 32 ((s.reg JNL_COPIED).toNat + min 7 s.jPending) ∧ t.reg JNL_HEAD = s.reg JNL_HEAD ∧
      (t.jblk t.jnl.cur).entries = (s.jblk s.jnl.cur).entries ++
        (List.range (min 7 s.jPending)).map fun i => slotOf (s.ringEntry ((s.reg JNL_COPIED).toNat + i))) ∧
  (∀ (i : Nat) (l : List Nat) (s : State), s.jRuns = true → 0 < s.jPending → (s.jblk s.jnl.cur).erased = false →
    s.jErased = i :: l → (Gives (.journalCopy (some false)) s fun t => t.jnl.cur = i ∧ (t.jblk s.jnl.cur).bad = true ∧
      (t.jblk i).entries = (s.jblk s.jnl.cur).entries) ∧
    Gives (.journalCopy none) s fun t => t.bit JNL_STATUS 0 = false ∧ (0x0B05, 31) ∈ t.flt.causes ∧ t.jnl.blocks = s.jnl.blocks) ∧
  (∀ (i : Nat) (s : State), s.Calm 2 → s.jRuns = true → s.jnl.flushing = false → s.jPending = 0 →
    s.jErased.length < 2 → s.jOldest = some i → Gives (.journalEraseDone (some true)) s fun t => (t.jblk i).erased = true ∧ (t.jblk i).entries = [] ∧
      (t.jblk i).erases = (s.jblk i).erases + 1) ∧
  (∀ s : State, s.Unrouted → s.Calm 128 → s.jnl.started = true → s.bit JNL_STATUS 0 = false →
    (∀ r ∈ s.flt.order, r < 64) → 2 ≤ (s.jUsable.filter (fun j => j != s.jnl.cur)).length → Gives (.journalRetry true) s fun t =>
      t.bit JNL_STATUS 0 = true ∧ (0x0B05, 31) ∉ t.flt.causes) ∧
  (∀ s : State, s.Calm 0 → s.jnl.flushing = true → 0 < s.jPending → Gives .journalFlushEnd s fun t => t.jnl.flushing = false ∧
    t.reg JNL_COPIED = s.reg JNL_HEAD ∧ t.fld JNL_LOST 31 0 = min (2 ^ 32 - 1) (s.fld JNL_LOST 31 0 + s.jPending) ∧
    (s.jRuns = true → (s.jblk s.jnl.cur).bad = false → (s.jblk s.jnl.cur).entries.length < 1785 →
      ∃ x, (t.jblk s.jnl.cur).entries = (s.jblk s.jnl.cur).entries ++ [x] ∧ slotValid x = true ∧ x.entry.type = 7 ∧
        x.entry.old = s.reg JNL_COPIED ∧ x.entry.new = BitVec.ofNat 32 s.jPending))

/-! ## Event router, comparators, gate drive and cell supply -/

/-- R333 to R335, R338: an event of a source that pulses, or that asserts where its level may, is counted at its source and reaches the
destination it is routed to: a Crown interrupt, or the hold-off of a gate group. A masked source delivers none. The event after the
STORM_N-th of a window is not delivered and masks its source. -/
def Obligations.RouterDelivers : Prop :=
  (∀ (src : Fin 256) (j : Fin 26) (s : State), s.Calm 0 →
    pulseSource src = true ∨ (s.bit (EVR_SRC_STAT src) 2 = false ∧ s.srcMay src = true) → s.bit (EVR_SRC_STAT src) 0 = false →
    s.fld (EVR_SRC_CFG src) 31 24 = 0 → join64 (s.reg (EVR_SRC_DST_LO src)) (s.reg (EVR_SRC_DST_HI src)) = 2 ^ (30 + j.val) →
    Gives (.routerEvent src) s fun t => t.bit EVR_IRQ j = true ∧
      t.fld (EVR_DST_CNT (30 + j)) 15 0 = min 65535 (s.fld (EVR_DST_CNT (30 + j)) 15 0 + 1) ∧
      t.fld (EVR_SRC_STAT src) 31 16 = min 65535 (s.fld (EVR_SRC_STAT src) 31 16 + 1) ∧
      t.out = (if s.bit EVR_IRQ_EN j then .crownIrq j (s.bit EVR_IRQ_CORE j) :: s.out else s.out) ∧ t.gate = s.gate) ∧
  (∀ (src : Fin 256) (g : Fin 4) (s : State), s.Calm 0 →
    pulseSource src = true ∨ (s.bit (EVR_SRC_STAT src) 2 = false ∧ s.srcMay src = true) → s.bit (EVR_SRC_STAT src) 0 = false →
    s.fld (EVR_SRC_CFG src) 31 24 = 0 → join64 (s.reg (EVR_SRC_DST_LO src)) (s.reg (EVR_SRC_DST_HI src)) = 2 ^ g.val →
    s.bit GDR_STATUS (8 + g) = false → Gives (.routerEvent src) s fun t => t.bit EVR_GDIS g = true ∧
      (∀ ch, ch / 4 = g.val → (t.gch ch).out = 0) ∧ (∀ ch, ch / 4 ≠ g.val → t.gch ch = s.gch ch) ∧ t.groupOn g = false) ∧
  (∀ (src : Fin 256) (s : State), s.Calm 0 → s.bit (EVR_SRC_STAT src) 0 = true →
    Gives (.routerEvent src) s fun t => t.gate = s.gate ∧ t.evr = s.evr ∧ t.out = s.out ∧
      (∀ a, a ≠ EVR_SRC_STAT src → a ≠ SAP_FLAGS → t.reg a = s.reg a) ∧
      (pulseSource src = true → t.fld (EVR_SRC_STAT src) 31 16 = min 65535 (s.fld (EVR_SRC_STAT src) 31 16 + 1))) ∧
  (∀ (src : Fin 256) (t0 : Nat) (s : State), s.Quiet →
    pulseSource src = true ∨ (s.bit (EVR_SRC_STAT src) 2 = false ∧ s.srcMay src = true) → s.bit (EVR_SRC_STAT src) 0 = false →
    (s.guard src).t0 = some t0 → tdiff (s.stamp 0) (t0 + ns (2 ^ s.fld (EVR_SRC_CFG src) 23 20 * 1000)) < 0 →
    ∀ cfg : Word, (s.guard src).count = fld cfg 31 24 → fld cfg 31 24 ≠ 0 → fld cfg 23 20 = s.fld (EVR_SRC_CFG src) 23 20 →
    Gives (.routerEvent src) (s.setReg (EVR_SRC_CFG src) cfg) fun t => t.bit (EVR_SRC_STAT src) 0 = true ∧
      t.bit (EVR_MASKED (src / 32)) (src % 32) = true ∧ (0x0801, src.val) ∈ t.flt.causes)

/-- R333, R335, R338, R339: an unmask delivers again and closes the window; a stuck source; the release of gate groups, refused
while a routed source is asserted; a software trigger pulses its sources. -/
def Obligations.RouterCommands : Prop :=
  (∀ (m : Master) (src : Fin 256) (s : State), s.Tame → Gives (.evrUnmask m src) s fun t =>
    t.bit (EVR_SRC_STAT src) 0 = false ∧ t.bit (EVR_MASKED (src / 32)) (src % 32) = false ∧ (t.guard src).t0 = none ∧
    (0x0801, src.val) ∉ t.flt.causes) ∧
  (∀ (src : Fin 256) (s : State), s.Quiet → Gives (.sourceStuck src) s fun t =>
    if s.bit (EVR_SRC_STAT src) 2 = true ∧ pulseSource src = false ∧ s.fld (EVR_SRC_CFG src) 15 0 ≠ 0 then
      t.bit (EVR_SRC_STAT src) 1 = true ∧ t.bit (EVR_STUCK (src / 32)) (src % 32) = true ∧ (0x0802, src.val) ∈ t.flt.causes
    else t = s) ∧
  (∀ (m : Master) (v : BitVec 4) (s : State), s.Quiet → Gives (.evrGdisRel m v) s fun t =>
    if ∃ g : Fin 4, v.getLsbD g = true ∧ s.routedAsserted g = true then
      t.reg EVR_GDIS = s.reg EVR_GDIS ∧ t.acc = 3 ∧ t.Recorded 0x0805 31 ∧ t.reg (FLT_REC_FEC_ADDR 13) = w32 EVR_GDIS_REL
    else ∀ g, g < 4 → t.bit EVR_GDIS g = (s.bit EVR_GDIS g && !v.getLsbD g)) ∧
  (∀ (m : Master) (hi : Bool) (v : Word) (s : State), s.Unrouted → s.Calm 1 → Gives (.evrSwtrig m hi v) s fun t =>
    ∀ b, b < 32 → let src := (if hi then 224 else 192) + b
      t.fld (EVR_SRC_STAT src) 31 16 =
        if v.getLsbD b then min 65535 (s.fld (EVR_SRC_STAT src) 31 16 + 1) else s.fld (EVR_SRC_STAT src) 31 16)

/-- R325 to R332, R341: what a comparator's output, latch, window and flag are after its settling window, after a crossing to a side of
its band, by its POL, and after a write; the flags of the spares, 64 and 65; a calibration at start-up or with CAL_EN, and one out
of range; writes refused; latches cleared. -/
def Obligations.Comparators : Prop :=
  (∀ (c : Fin 66) (inBand above : Bool) (s : State), s.Quiet → Gives (.comparatorResolve c inBand above) s fun t =>
    if 64 ≤ c.val then (if inBand then (0x0803, c.val) ∈ t.flt.causes ∧ t.Recorded 0x0803 31 else t = s)
    else if s.bit (CMP_C_CFG c) 31 = true ∧ (s.cmp c).settling = true then
      let band := inBand && s.fld (CMP_C_CFG c) 23 22 != 0
      (t.cmp c).settling = false ∧ t.cmpOut c = (if band then s.bit (CMP_C_CFG c) 25 else above != s.bit (CMP_C_CFG c) 24) ∧
      (band = true → t.bit (cmpReg CMP_UNRES_HOT c) (c % 32) = true ∧ t.Recorded 0x0803 (c / 2))
    else t = s) ∧
  (∀ (c : Fin 66) (above : Bool) (s : State), s.Tame → Gives (.comparatorCrossing c above) s fun t =>
    let asserts := above != s.bit (CMP_C_CFG c) 24
    if 64 ≤ c.val then (0x0803, c.val) ∉ t.flt.causes
    else if s.bit (CMP_C_CFG c) 31 = true ∧ (s.cmp c).settling = false then
      t.cmpOut c = asserts ∧ t.bit (cmpReg CMP_UNRES_HOT c) (c % 32) = false ∧
      (s.bit (cmpReg CMP_UNRES_HOT c) (c % 32) = true → (0x0803, c.val) ∉ t.flt.causes) ∧
      t.bit (cmpReg CMP_LATCH_HOT c) (c % 32) = (s.bit (cmpReg CMP_LATCH_HOT c) (c % 32) ||
        (asserts && !(decide (c.val < 32) && c.val % 2 == 0 && (s.gch (c / 2)).blank))) ∧
      (∀ i, i < 16 → c.val = 32 + 2 * i ∨ c.val = 33 + 2 * i → t.fld CMP_WINDOW (2 * i + 1) (2 * i) =
        b2n (t.cmpOut (32 + 2 * i)) + 2 * b2n (t.cmpOut (33 + 2 * i)))
    else t = s) ∧
  (∀ (c : Fin 66) (agreed inRange : Bool) (s : State), s.Quiet → Gives (.comparatorCalibration c agreed inRange) s fun t =>
    if s.booted = false ∨ (s.bit CMP_CTRL 0 = true ∧ (64 ≤ c.val ∨ s.bit (CMP_C_CFG c) 31 = true)) then
      t.fld CMP_CAL 31 16 = (if agreed then min 65535 (s.fld CMP_CAL 31 16 + 1) else s.fld CMP_CAL 31 16) ∧ t.cmps = s.cmps ∧
      (inRange = false → t.Recorded 0x0804 (if c.val < 64 then c / 2 else 31) ∧
        (c.val < 64 → t.fld CMP_CAL 5 0 = c.val ∧ t.bit CMP_CAL 6 = true))
    else t = s) ∧
  (∀ (c : Fin 64) (m : Master) (v : Word) (s : State), s.Quiet → Gives (.cmpCfgWrite c m v) s fun t =>
    let old := s.reg (CMP_C_CFG c)
    if cmpModeOk c (fld v 27 26) = false ∨ fld v 19 18 = 3 ∨
        (c.val < 32 ∧ c.val % 2 = 1 ∧ bit old 31 = true ∧ bit v 31 = false ∧ s.bit GDR_CTRL (c / 8) = true) then
      t.reg (CMP_C_CFG c) = old ∧ t.cmps = s.cmps ∧ t.acc = 3 ∧ t.Recorded 0x0805 31
    else t.reg (CMP_C_CFG c) = v &&& 0x8FFF0000 ∧ (t.cmp c).thr = t.thrCode c ∧
      (bit v 31 = false ∨ bit old 31 = false ∨ fld v 27 26 ≠ fld old 27 26 ∨ bit v 21 ≠ bit old 21 ∨ bit v 24 ≠ bit old 24 →
        (t.cmp c).settling = true ∧ t.cmpOut c = false ∧ t.bit (cmpReg CMP_LATCH_HOT c) (c % 32) = false ∧
        t.bit (cmpReg CMP_UNRES_HOT c) (c % 32) = false)) ∧
  (∀ (c : Fin 64) (m : Master) (dac : Bool) (v : Word) (s : State), s.Quiet → Gives (.cmpThresholdWrite c m dac v) s fun t =>
    if dac = true ∧ 2 ^ (6 + 2 * fld v 15 14) ≤ fld v 11 0 then
      t.reg (CMP_DAC c) = s.reg (CMP_DAC c) ∧ t.cmps = s.cmps ∧ t.acc = 3 ∧ t.Recorded 0x0805 31
    else (t.cmp c).thr = t.thrCode c ∧ (t.cmp c).settling = (s.cmp c).settling ∧
      (if dac then t.reg (CMP_DAC c) = v &&& 0xCFFF ∧ t.reg (CMP_C_THR c) = s.reg (CMP_C_THR c)
       else t.reg (CMP_C_THR c) = v &&& 0xFF ∧ t.reg (CMP_DAC c) = s.reg (CMP_DAC c))) ∧
  (∀ (m : Master) (cold : Bool) (v : Word) (s : State), s.Quiet → Gives (.cmpLatchClear m cold v) s fun t =>
    ∀ b, b < 32 → let c := (if cold then 32 else 0) + b
      t.bit (cmpReg CMP_LATCH_HOT c) b = (s.bit (cmpReg CMP_LATCH_HOT c) b && (!v.getLsbD b || s.cmpOut c)))

/-- R330, R355 to R358, R360, R361, R365, R367: a channel follows its command by precedence: not while its group or stage is off, nor in the
two-step turn-off; a half-bridge by interlock, refresh and dead time. A turn-on command of the first channel of a group that may
switch begins its PWM period: warn raises start again and the latches with CLR_SEL 2 clear. The end of dead time, of blanking and of a
refresh; undervoltage of a bootstrap, the third within 1 s, and its release. -/
def Obligations.GateChannels : Prop :=
  (∀ (ch : Fin 16) (on : Bool) (s : State), s.Quiet → Gives (.sapGateCommand ch on) s fun t =>
    let leg := ch.val / 2
    (t.gch ch).cmd = on ∧
    (s.chanFree ch = false → s.bit GDR_STATUS (8 + ch / 4) = false → (t.gch ch).out = 0) ∧
    (s.bit GDR_STATUS (8 + ch / 4) = true → (t.gch ch).out = (s.gch ch).out) ∧
    (s.chanFree ch = true → leg < 2 → (on = false → (t.gch ch).out = 0) ∧ (on = true → (t.gch ch).out = 1)) ∧
    (s.chanFree ch = true → 2 ≤ leg → s.bstOk leg = true ∨ ch.val % 2 = 1 ∧ s.recovering leg = false →
      s.gate.refresh.getLsbD leg = false →
      (on = false → (t.gch ch).out = 0) ∧
      (on = true → (s.gch (otherCh ch)).cmd = true → (t.gch ch).out = 0 ∧ (t.gch (otherCh ch)).out = 0 ∧ t.Recorded 0x0704 leg ∧
        t.fld (GDR_LEG_CNT leg) 23 16 = min 255 (s.fld (GDR_LEG_CNT leg) 23 16 + 1)) ∧
      (on = true → (s.gch (otherCh ch)).cmd = false → (s.gch ch).out = 0 → ch.val % 2 = 1 ∨ s.lowLong ch = false →
        if s.inDead ch then (t.gch ch).out = 0 ∧ (t.gch ch).pendOn = true
        else (t.gch ch).out = 1 ∧ (t.gch ch).blank = true) ∧
      (on = true → (s.gch (otherCh ch)).cmd = false → (s.gch ch).out = 0 → ch.val % 2 = 0 → s.lowLong ch = true →
        (t.gch ch).out = 0 ∧ (t.gch ch).pendOn = true ∧ t.gate.refresh.getLsbD leg = true)) ∧
    (on = true → ch.val % 4 = 0 → (s.gch ch).cmd = false → s.chanFree ch = true →
      (∀ x, x < 4 → (t.gch (ch + x)).warned = false) ∧
      ∀ c, c < 64 → s.fld (CMP_C_CFG c) 19 18 = 2 → s.fld (CMP_C_CFG c) 17 16 = ch.val / 4 → s.cmpOut c = false →
        t.bit (cmpReg CMP_LATCH_HOT c) (c % 32) = false)) ∧
  (∀ (ch : Fin 16) (s : State), s.Quiet → Gives (.deadTimeEnd ch) s fun t =>
    if (s.gch ch).pendOn = true ∧ (s.gch ch).cmd = true ∧ s.chanFree ch = true ∧ s.gate.refresh.getLsbD (ch / 2) = false ∧
        (ch.val % 2 = 1 ∨ s.bstOk (ch / 2) = true) then
      (t.gch ch).pendOn = false ∧ (t.gch ch).out = if 4 ≤ ch.val ∧ (s.gch (otherCh ch)).cmd = true then 0 else 1
    else t = s) ∧
  (∀ (ch : Fin 16) (s : State), s.Quiet → Gives (.blankingEnd ch) s fun t =>
    (t.gch ch).blank = false ∧ (t.gch ch).out = (s.gch ch).out ∧
    (s.cmpOut (2 * ch) = true → t.bit CMP_LATCH_HOT (2 * ch) = true)) ∧
  (∀ (leg : Fin 8) (s : State), s.Quiet → 2 ≤ leg.val → s.gate.refresh.getLsbD leg = true →
    Gives (.bootstrapRefresh leg) s fun t => t.gate.refresh.getLsbD leg = false ∧
      t.fld (GDR_LEG_CNT leg) 15 0 = min 65535 (s.fld (GDR_LEG_CNT leg) 15 0 + 1) ∧
      ((s.gch (2 * leg)).cmd = false → (t.gch (2 * leg)).out = 0) ∧
      ((s.gch (2 * leg)).cmd = true → s.chanFree (2 * leg) = true → s.bstOk leg = true →
        (t.gch (2 * leg)).out = if (s.gch (2 * leg + 1)).cmd then 0 else 1)) ∧
  (∀ (leg : Fin 8) (s : State), s.Quiet → 2 ≤ leg.val → s.bstOk leg = true → Gives (.bootstrapUv leg) s fun t =>
    t.bstOk leg = false ∧ (t.gch (2 * leg)).out = 0 ∧ (0x0705, leg.val) ∈ t.flt.causes ∧
    let near := (Sparse.get (fun _ => []) s.gate.uvAt leg).filter fun x => decide (tdiff (s.now 0) x < (ns 1000000000 : Nat))
    if 2 ≤ near.length then t.fld (FLT_REC_STAT 13) 15 0 = 0x0705 ∧ t.fld (FLT_REC_STAT 14) 15 0 = 0x0706
    else t.Recorded 0x0705 leg) ∧
  (∀ (leg : Fin 8) (s : State), s.Tame → 2 ≤ leg.val → Gives (.bootstrapRelease leg) s fun t =>
    t.bstOk leg = true ∧ (0x0705, leg.val) ∉ t.flt.causes)

/-- R330, R359, R361 to R364, R366: a hard crossing asserts its enabled comparators, and starts the two-step turn-off of its group and of no other; its end; a report-only
group takes no action; warn crossings; the release of a trip; trims of the sense inputs. -/
def Obligations.GateTrips : Prop :=
  (∀ (chans : BitVec 16) (s : State), s.Quiet → Gives (.hardCrossing chans) s fun t =>
    let trips := fun g : Nat => s.bit GDR_CTRL g = true ∧ chansOf chans.toNat g ≠ 0 ∧ s.bit GDR_STATUS (8 + g) = false ∧
      s.bit GDR_STATUS (4 + g) = false ∧ s.bit GDR_RPTONLY g = false
    (∀ n, n < 16 → chans.getLsbD n = true → s.bit (CMP_C_CFG (2 * n + 1)) 31 = true →
      t.cmpOut (2 * n + 1) = true ∧ t.bit CMP_LATCH_HOT (2 * n + 1) = true) ∧
    ∀ g, g < 4 →
      (trips g → t.bit GDR_STATUS (8 + g) = true ∧ (0x0702, g) ∈ t.flt.causes ∧ t.fld (GDR_TRIP g) 15 0 = chansOf chans.toNat g ∧
        (t.bit (GDR_TRIP g) 16 = true ↔ ∃ h, h < 4 ∧ h ≠ g ∧ trips h) ∧
        ∀ ch, ch / 4 = g → (t.gch ch).out = if (s.gch ch).out = 1 then 2 else (s.gch ch).out) ∧
      (¬ trips g → t.bit GDR_STATUS (8 + g) = s.bit GDR_STATUS (8 + g) ∧ ∀ ch, ch / 4 = g → t.gch ch = s.gch ch) ∧
      (s.bit GDR_STATUS (8 + g) = true ∨ s.bit GDR_STATUS (4 + g) = true →
        t.fld (GDR_TRIP g) 15 0 = Nat.lor (s.fld (GDR_TRIP g) 15 0) (chansOf chans.toNat g))) ∧
  (∀ (g : Fin 4) (s : State), s.Calm 0 → Gives (.softTurnoffEnd g) s fun t =>
    if s.bit GDR_STATUS (8 + g) then t.bit GDR_STATUS (8 + g) = false ∧ t.bit GDR_STATUS (4 + g) = true ∧ t.groupOn g = false ∧
      ∀ ch, ch / 4 = g.val → (t.gch ch).out = 0
    else t = s) ∧
  (∀ (g : Fin 4) (s : State), s.Quiet → s.bit GDR_CTRL g = true → s.bit GDR_RPTONLY g = true →
    s.bit GDR_STATUS (8 + g) = false → s.bit GDR_STATUS (4 + g) = false →
    Gives (.hardCrossing (BitVec.ofNat 16 (2 ^ (4 * g.val)))) s fun t => t.gate = s.gate ∧ t.Recorded 0x0703 g ∧
      t.reg (EVR_SRC_STAT (156 + g)) = s.reg (EVR_SRC_STAT (156 + g))) ∧
  (∀ (ch : Fin 16) (s : State), s.Quiet → Gives (.warnCrossing ch) s fun t =>
    if (s.gch ch).blank = true ∨ (s.gch ch).warned = true then t = s
    else (t.gch ch).warned = true ∧ (t.gch ch).out = (s.gch ch).out ∧ t.Recorded 0x0701 ch ∧
      t.fld GDR_CNT 31 16 = min 65535 (s.fld GDR_CNT 31 16 + 1)) ∧
  (∀ (m : Master) (v : BitVec 4) (s : State), s.Tame → Gives (.gdrRel m v) s fun t =>
    if ∃ g : Fin 4, v.getLsbD g = true ∧ (s.bit GDR_STATUS (8 + g) = true ∨ s.hardAsserted g = true) then
      t.gate = s.gate ∧ t.acc = 3 ∧ t.fld GDR_CNT 15 0 = min 65535 (s.fld GDR_CNT 15 0 + 1) ∧ t.flt = s.flt
    else (∀ g, g < 4 → v.getLsbD g = true → t.bit GDR_STATUS (4 + g) = false ∧
        (s.bit GDR_STATUS (4 + g) = true → (0x0702, g) ∉ t.flt.causes)) ∧
      t.gate.chans = s.gate.chans ∧ ∀ st, st < 5 → t.gate.needStart.getLsbD st =
        (s.gate.needStart.getLsbD st || (v.getLsbD (stageGroup st) && s.bit GDR_STATUS (4 + stageGroup st)))) ∧
  (∀ (ch : Fin 16) (s : State), s.Tame → (Gives (.senseTrim ch true) s fun t => (0x0804, 64 + ch.val) ∉ t.flt.causes) ∧
    Gives (.senseTrim ch false) s fun t => (0x0804, 64 + ch.val) ∈ t.flt.causes ∧ t.bit CMP_EVENTS 1 = true)

/-- R345, R353, R354, R364: which groups may be enabled and what an enable or its end does; VDRV and the Sap service hold every
group off; GDR_RPTONLY is an Engineer's. -/
def Obligations.GatePermits : Prop :=
  (∀ (m : Master) (v : BitVec 4) (s : State), s.Calm 2 → Gives (.grpEnWrite m v) s fun t =>
    if ∃ g : Fin 4, v.getLsbD g = true ∧ s.bit GDR_CTRL g = false ∧
        (s.bit GDR_STATUS 16 = false ∨ s.hardUnready g = true ∨ s.foreignGroup g = true) then
      t.reg GDR_CTRL = s.reg GDR_CTRL ∧ t.gate = s.gate ∧ t.acc = 3 ∧ t.fld GDR_CNT 15 0 = min 65535 (s.fld GDR_CNT 15 0 + 1)
    else t.reg GDR_CTRL = v.setWidth 32 ∧ ∀ g, g < 4 →
      (v.getLsbD g = true → s.bit GDR_CTRL g = false → ∀ leg, 2 ≤ leg → leg / 2 = g → t.bstOk leg = false) ∧
      (v.getLsbD g = false → s.bit GDR_CTRL g = true → s.bit GDR_STATUS (8 + g) = false →
        ∀ ch, ch / 4 = g → (t.gch ch).out = 0)) ∧
  (∀ (m : Master) (v : BitVec 4) (s : State), s.Quiet → Gives (.rptonlyWrite m v) s fun t =>
    (if ∃ r, masterRole m = some r ∧ 2 ≤ r then t.reg GDR_RPTONLY = v.setWidth 32
     else t.reg GDR_RPTONLY = s.reg GDR_RPTONLY ∧ t.acc = 3) ∧ t.flt.order ≠ [] ∧ t.fld (FLT_REC_STAT 13) 15 0 = 0x0707) ∧
  (∀ s : State, s.Quiet → Gives .vdrvOutOfRange s fun t => t.bit GDR_STATUS 16 = false ∧ t.gate.needStart = 31 ∧
    t.Recorded 0x0708 31 ∧ (0x0708, 31) ∈ t.flt.causes ∧
    ∀ g, g < 4 → t.groupOn g = false ∧ (s.bit GDR_STATUS (8 + g) = false → ∀ ch, ch / 4 = g → (t.gch ch).out = 0)) ∧
  (∀ s : State, s.Tame → Gives .vdrvRecovered s fun t => t.bit GDR_STATUS 16 = true ∧ (0x0708, 31) ∉ t.flt.causes ∧
    t.gate = s.gate) ∧
  (∀ s : State, s.Quiet → Gives .sapServiceMissing s fun t => t.gate.noService = true ∧ t.gate.needStart = 31 ∧
    (0x0C09, 31) ∈ t.flt.causes ∧ t.fld SAP_STATUS 2 0 = 0 ∧
    ∀ g, g < 4 → t.groupOn g = false ∧ (s.bit GDR_STATUS (8 + g) = false → ∀ ch, ch / 4 = g → (t.gch ch).out = 0)) ∧
  (∀ s : State, s.Tame → Gives .sapBootDone s fun t => t.fld SAP_STATUS 2 0 = 3 ∧ t.gate.noService = false ∧
    t.gate.needStart = s.gate.needStart ∧ (0x0C09, 31) ∉ t.flt.causes)

/-- R270, R347, R348, R350, R366, R368, R370, R425: starts and stops of the stages, loss of mains and its return, faults of a loop,
input actions, the heartbeat, the converter's codes and the loops' measurements, whose frequency lies within its limits and whose
power is free (log entry 46). -/
def Obligations.SapStages : Prop :=
  (∀ (m : Master) (stage : Fin 5) (s : State), s.Tame → Gives (.sapStart m stage) s fun t =>
    if s.startBad stage then t.acc = 3 ∧ t.fld SAP_CNT 15 0 = min 65535 (s.fld SAP_CNT 15 0 + 1) ∧
      t.reg SAP_STATUS = s.reg SAP_STATUS ∧ t.gate = s.gate
    else t.gate.needStart.getLsbD stage = false ∧ t.gate.chans = s.gate.chans ∧
      (stage.val = 0 → if s.bit SAP_STATUS 3 then t.bit SAP_STATUS 4 = true ∧ t.bit SAP_FLAGS 0 = true
        else t.sap.pfcWait = true ∧ t.bit SAP_STATUS 4 = s.bit SAP_STATUS 4) ∧
      (stage.val = 1 → t.bit SAP_STATUS 5 = true ∧ t.bit SAP_FLAGS 2 = true) ∧
      (stage.val = 2 → t.bit SAP_STATUS 6 = true ∧ t.bit SAP_FLAGS 3 = true) ∧
      (3 ≤ stage.val → t.bit SAP_FLAGS (10 + stage) = true)) ∧
  (∀ (m : Master) (stage : Fin 5) (s : State), s.Tame → Gives (.sapStop m stage) s fun t =>
    (stage.val < 3 → t.bit SAP_STATUS (4 + stage) = false) ∧ (3 ≤ stage.val → t.bit SAP_FLAGS (10 + stage) = false) ∧
    ∀ ch, ch < 16 → stageOf ch = stage.val → ch ≠ 2 → ch ≠ 3 → s.bit GDR_STATUS (8 + ch / 4) = false →
      (t.gch ch).out = 0 ∧ (t.gch ch).cmd = false) ∧
  (∀ s : State, s.Quiet → Gives .mainsLoss s fun t => t.bit SAP_STATUS 8 = true ∧ t.bit SAP_STATUS 4 = false ∧
    t.bit SAP_STATUS 3 = false ∧ (0x0C05, 31) ∈ t.flt.causes ∧ t.jnl.flushing = true ∧ t.bit SAP_STATUS 5 = s.bit SAP_STATUS 5 ∧
    t.bit SAP_STATUS 6 = s.bit SAP_STATUS 6) ∧
  (∀ s : State, s.Tame → (Gives .mainsRestored s fun t => t.bit SAP_STATUS 7 = true ∧ t.bit SAP_STATUS 8 = false ∧
      (0x0C05, 31) ∉ t.flt.causes) ∧
    (Gives .inrushClose s fun t => t.bit SAP_STATUS 3 = true ∧ t.bit SAP_FLAGS 6 = true ∧ (t.gch 2).cmd = true ∧
      (s.sap.pfcWait = true → t.bit SAP_STATUS 4 = true)) ∧
    Gives .sapHeartbeat s fun t => t.fld SAP_STATUS 31 16 = (s.fld SAP_STATUS 31 16 + 1) % 65536 ∧
      t.fld (EVR_SRC_STAT 183) 31 16 = min 65535 (s.fld (EVR_SRC_STAT 183) 31 16 + 1)) ∧
  (∀ (x : Fin 2) (s : State), s.Quiet → Gives (.loopFault x) s fun t => t.bit SAP_STATUS (5 + x) = false ∧
    t.bit SAP_FLAGS (10 + x) = true ∧ t.Recorded 0x0C07 x ∧ t.bit SAP_STATUS (6 - x) = s.bit SAP_STATUS (6 - x)) ∧
  (∀ (i : Fin 8) (s : State), s.Tame → Gives (.sapInputAction i) s fun t =>
    let a := s.fld (SAP_INACT i) 2 0
    t.fld SAP_CNT 31 16 = min 65535 (s.fld SAP_CNT 31 16 + 1) ∧ t.sap.events.getLsbD i = false ∧
    (a = 0 → t.reg SAP_STATUS = s.reg SAP_STATUS ∧ t.gate = s.gate) ∧ (a = 1 ∨ a = 6 → t.bit SAP_STATUS 4 = false) ∧
    (a = 2 ∨ a = 4 ∨ a = 6 → t.bit SAP_STATUS 5 = false) ∧ (a = 3 ∨ a = 4 ∨ a = 6 → t.bit SAP_STATUS 6 = false) ∧
    (a = 5 ∨ a = 6 → t.bit SAP_FLAGS 13 = false ∧ t.bit SAP_FLAGS 14 = false) ∧
    (a = 7 → ∀ x, x < 2 → t.loopLimit x = throttled (t.fld (SAP_LOOP_PLIM x) 15 0) (t.fld SAP_STATUS 15 12) / 2)) ∧
  (∀ (codes : List (BitVec 12)) (s : State), s.Tame → codes.length = 16 → Gives (.hotAdcSample codes) s fun t =>
    (∀ n, n < 16 → t.fld (SAP_ADC n) 11 0 = (codes.getD n 0).toNat ∧ t.bit (SAP_ADC n) 12 = true) ∧
    (s.bit SAP_STATUS 8 = true → (codes.getD 1 0).toNat < s.sap.minBus →
      t.bit SAP_STATUS 5 = false ∧ t.bit SAP_STATUS 6 = false) ∧
    ∀ x, x < 2 → let lo := s.fld (SAP_LOOP_FREQ x) 7 0
      let hi := s.fld (SAP_LOOP_FREQ x) 15 8
      (s.bit SAP_STATUS (5 + x) = false → t.reg (SAP_LOOP_MEAS x) = 0) ∧
      (s.bit SAP_STATUS (5 + x) = true → lo ≤ hi →
        lo ≤ t.fld (SAP_LOOP_MEAS x) 31 24 ∧ t.fld (SAP_LOOP_MEAS x) 31 24 ≤ hi))

/-! ## Farm network -/

/-- R371, R373, R374, R377, R380: what the bridge and the PRP node do with a received frame: passed over, counted as an error, forwarded
unchanged to the other line port, dropped early, or discarded as a duplicate. A frame to a port that can send leaves at once where no
frame waits or is on the wire, waits behind one on the wire, and is dropped and counted where its share of the buffers is full; a
port whose frame has gone out sends the first waiting frame of the highest class (the clock of an idle step: log entries 2 and 49). -/
def Obligations.EthernetFrames : Prop :=
  (∀ (q : List EthItem) (i : EthItem), nextItem q = some i → i ∈ q ∧ ∀ j ∈ q, j.cls ≤ i.cls) ∧
  (∀ (p : Fin 4) (i : EthItem) (s : State), s.pending = [] → (s.ethPort p).cur.isSome = true → (s.ethPort p).left ≤ 2 →
    s.portUp p = true → nextItem (s.ethPort p).queue = some i →
    ∃ t, step s = .next t ∧ i.out ∈ t.out ∧ (t.ethPort p).cur = some i ∧ (t.ethPort p).queue = (s.ethPort p).queue.erase i) ∧
  ∀ (p : Fin 4) (f : EthFrame) (s : State), s.Quiet → Gives (.ethFrameReceive p f) s fun t =>
    let dst := f.dst.toNat
    let shut := s.stage = 0 ∨ s.relayShut (p / 2) = true ∨ s.bit ETH_CTRL p = false
    let bad := f.errored = true ∨ f.len < 64 ∨ (if f.rct.isSome then 1528 else 1522) < f.len
    let fine := ¬ shut ∧ ¬ bad ∧ f.src.toNat ≠ s.mac
    (shut → t = s) ∧
    (¬ shut → bad → t.fld (ETH_PORT_ERR p) 31 16 = min 65535 (s.fld (ETH_PORT_ERR p) 31 16 + 1) ∧ t.eth = s.eth ∧ t.out = s.out) ∧
    (¬ shut → ¬ bad → t.reg (ETH_PORT_RX p) = BitVec.ofNat 32 (min (2 ^ 32 - 1) ((s.reg (ETH_PORT_RX p)).toNat + 1))) ∧
    (¬ shut → ¬ bad → f.src.toNat = s.mac →
      t.fld (ETH_PORT_ERR p) 15 0 = min 65535 (s.fld (ETH_PORT_ERR p) 15 0 + 1) ∧ t.eth = s.eth ∧ t.out = s.out) ∧
    (fine → macLink ≤ dst → dst < macLink + 16 → ¬ (dst = macPtp ∧ f.ethertype = 0x88F7) → t.out = s.out ∧ t.eth = s.eth) ∧
    (fine → ¬ (macLink ≤ dst ∧ dst < macLink + 16) → dst ≠ s.mac → dst ≠ macAll → f.listened = false →
      let o := otherPort p
      { t.eth with ports := s.eth.ports, lastSec := s.eth.lastSec } = s.eth ∧
      (s.portUp o = false → t.out = s.out ∧ t.eth = s.eth) ∧
      (s.portUp o = true → s.LinesIdle → t.out = .ethForward o f :: s.out) ∧
      (s.portUp o = true → s.shareFits (p / 2) f.len = false → t.out = s.out ∧ t.eth.ports = s.eth.ports ∧
        t.fld (ETH_PORT_DROP p) 15 0 = min 65535 (s.fld (ETH_PORT_DROP p) 15 0 + 1)) ∧
      (s.portUp o = true → s.shareFits (p / 2) f.len = true → (s.ethPort o).cur.isSome = true → t.out = s.out ∧
        (t.ethPort o).queue = (s.ethPort o).queue ++
          [{ cls := s.frameClass f, len := f.len, share := p / 2, out := .ethForward o f }])) ∧
    (fine → ¬ (macLink ≤ dst ∧ dst < macLink + 16) → dst = s.mac → s.stage = 1 →
      t.fld (ETH_PORT_DROP p) 31 16 = min 65535 (s.fld (ETH_PORT_DROP p) 31 16 + 1) ∧ t.out = s.out ∧ t.eth = s.eth) ∧
    ∀ q l, fine → ¬ (macLink ≤ dst ∧ dst < macLink + 16) → dst = s.mac → 2 ≤ s.stage → f.rct = some (q, l) →
      s.isSafety f = false → s.shareFits 2 f.len = true →
      let dup := ∃ e ∈ s.eth.seen, e.1 = f.src ∧ e.2.1 = q.toNat ∧
        tdiff (s.now 0) e.2.2 < (ns (s.fld ETH_PRP_CFG 31 16 * 1000000) : Nat)
      t.fld ETH_PRP_CNT 15 0 = (if l.toNat = 10 + p.val / 2 then s.fld ETH_PRP_CNT 15 0 else
        min 65535 (s.fld ETH_PRP_CNT 15 0 + 1)) ∧
      (dup → t.fld ETH_PRP_CNT 31 16 = min 65535 (s.fld ETH_PRP_CNT 31 16 + 1) ∧ t.eth.table = s.eth.table ∧ t.out = s.out) ∧
      (¬ dup → t.fld ETH_PRP_CNT 31 16 = s.fld ETH_PRP_CNT 31 16 ∧ (f.src, q.toNat, s.now 0) ∈ t.eth.seen)

/-- R372, R373, R375 to R380: the bypass relays, port enables and links with their faults; a silent LAN; supervision, ARP and echo from
stage 2 on, sent by every line port that can send, ten echo replies at most in a second; the stages of the network, with a gratuitous
ARP at stage 2, and the restart of its island. -/
def Obligations.NetworkPortsAndServices : Prop :=
  (∀ (m : Master) (v : BitVec 2) (s : State), s.Calm 1 → Gives (.bypCloseWrite m v) s fun t =>
    t.fld ETH_CTRL 5 4 = v.toNat ∧ t.fld ETH_CTRL 3 0 = s.fld ETH_CTRL 3 0) ∧
  (∀ (m : Master) (v : BitVec 4) (s : State), s.Calm 1 → Gives (.portEnWrite m v) s fun t =>
    t.fld ETH_CTRL 3 0 = v.toNat ∧ t.fld ETH_CTRL 5 4 = s.fld ETH_CTRL 5 4 ∧ t.flt = s.flt ∧
    ∀ p, p < 4 → v.getLsbD p = false → t.bit (ETH_PORT_STATUS p) 0 = false ∧ t.bit (ETH_PORT_STATUS p) 2 = false) ∧
  (∀ (pair : Fin 2) (s : State), (s.Tame → Gives (.relayMoveDone pair) s fun t =>
      t.bit ETH_STATUS pair = s.relayShut pair ∧ (0x0905, pair.val) ∉ t.flt.causes) ∧
    (s.Quiet → Gives (.relayMismatch pair) s fun t => t.Recorded 0x0905 pair ∧ (0x0905, pair.val) ∈ t.flt.causes)) ∧
  (∀ (p : Fin 4) (s : State), s.Quiet → Gives (.ethLinkDown p) s fun t =>
    t.bit (ETH_PORT_STATUS p) 0 = false ∧ t.bit (ETH_PORT_STATUS p) 2 = false ∧ t.bit ETH_STATUS (4 + p) = false ∧
    if s.bit ETH_CTRL p = true ∧ s.relayShut (p / 2) = false then
      t.Recorded 0x0901 p ∧ (0x0901, p.val) ∈ t.flt.causes ∧ t.bit (EVR_SRC_STAT (188 + p)) 2 = true
    else t.flt = s.flt) ∧
  (∀ (p : Fin 4) (gig : Bool) (s : State), s.Tame → Gives (.ethLinkUp p gig) s fun t =>
    if s.bit ETH_CTRL p = true ∧ s.relayShut (p / 2) = false then
      t.bit (ETH_PORT_STATUS p) 0 = true ∧ t.bit (ETH_PORT_STATUS p) 1 = gig ∧ (0x0901, p.val) ∉ t.flt.causes ∧
      t.bit (EVR_SRC_STAT (188 + p)) 2 = false
    else t = s) ∧
  (∀ (lan : Fin 2) (s : State), s.Quiet → Gives (.lanSilent lan) s fun t =>
    t.bit ETH_STATUS (10 + lan) = true ∧ t.Recorded 0x0902 lan ∧ (0x0902, lan.val) ∈ t.flt.causes) ∧
  (∀ s : State, s.Calm 0 → s.LinesIdle →
    (Gives .prpSupervisionSend s fun t => (s.stage < 2 → t = s) ∧
      (2 ≤ s.stage → t.Sent (fun p => .prpSupervision p s.eth.prpSeq) ∧ t.eth.prpSeq = (s.eth.prpSeq + 1) % 65536)) ∧
    (∀ (p : Fin 4) (ip : Word) (asker : BitVec 48), Gives (.arpRequest p ip asker) s fun t => (s.stage < 2 → t = s) ∧
      (2 ≤ s.stage → ip = s.reg ETH_IP → t.Sent fun i => .arp i (some asker) s.eth.prpSeq) ∧
      (2 ≤ s.stage → ip ≠ s.reg ETH_IP → t.out = s.out ∧
        t.fld ETH_LOCAL_CNT 15 0 = min 65535 (s.fld ETH_LOCAL_CNT 15 0 + 1))) ∧
    ∀ (p : Fin 4) (data : List Byte), Gives (.icmpEcho p data) s fun t =>
      let full := s.eth.icmp.1 = s.second ∧ 10 ≤ s.eth.icmp.2
      (s.stage < 2 → t = s) ∧
      (2 ≤ s.stage → full → t.out = s.out ∧ t.fld ETH_LOCAL_CNT 31 16 = min 65535 (s.fld ETH_LOCAL_CNT 31 16 + 1)) ∧
      (2 ≤ s.stage → ¬ full → data.length ≤ 1472 → t.Sent fun i => .icmpReply i data s.eth.prpSeq)) ∧
  (∀ s : State, s.Calm 0 → s.LinesIdle → Gives .switchReady s fun t => if s.stage = 0 ∧ s.phase ≠ 7 ∧ s.phase ≠ 0 then
      t.stage = (if s.seed.firmware then if s.booted && s.bit SED_STATUS 4 then 3 else 2 else 1) ∧
      (s.seed.firmware = true → t.Sent fun p => .arp p none s.eth.prpSeq) else t = s) ∧
  (∀ s : State, s.Quiet → s.eth.sessions.length ≤ 32 → Gives .ethIslandRestart s fun t => t.stage = 0 ∧
    (∀ n, t.sess n = none) ∧ (∀ p, p < 4 → t.bit (ETH_PORT_STATUS p) 0 = false) ∧ t.eth.sel = none ∧ t.LinesIdle ∧ t.tbs = s.tbs ∧
    t.rings = s.rings ∧ t.nodes = s.nodes)

/-- R381 to R384: the peer-delay mechanism, its mean and the eight measurements in a row that make a link delay valid; a Sync is forwarded
with its correctionField updated; of the selected master it is a TB2 sample that sets the wraps or, two-step, waits for its Follow_Up;
qualified masters and the selection; what fails the checks is counted and not used. -/
def Obligations.PtpAndTransparentClock : Prop :=
  (∀ (p : Fin 4) (s : State), s.Calm 0 → s.LinesIdle → Gives (.pdelayReqSend p) s fun t =>
    let d := s.pdelay p
    if 1 ≤ s.stage ∧ s.portUp p = true then (t.pdelay p).asked = some d.next ∧ (t.pdelay p).next = (d.next + 1) % 65536 ∧
      (t.pdelay p).missed = (if d.asked.isSome then d.missed + 1 else 0) ∧
      (d.asked.isSome → 2 ≤ d.missed → t.bit (ETH_PORT_STATUS p) 2 = false) ∧
      t.out = .ptpSend p 2 (s.pdelayReq p d.next) :: s.out
    else t = s) ∧
  (∀ (p : Fin 4) (msg : PtpMsg) (delay : Time) (s : State), s.Quiet → 1 ≤ s.stage → Gives (.pdelayRespReceive p msg delay) s fun t =>
    let d := s.pdelay p
    if s.profileBad msg = true ∨ d.asked ≠ some msg.seqId.toNat then
      t.fld ETH_PTP_CNT 31 16 = min 65535 (s.fld ETH_PTP_CNT 31 16 + 1) ∧ t.pdelay p = d
    else (t.pdelay p).asked = none ∧ (t.pdelay p).missed = 0 ∧
      (d.meas = [] ∨ (delay.toInt - meanOf d.meas).natAbs ≤ ns 100 → (t.pdelay p).meas = (delay.toInt :: d.meas).take 8 ∧
        t.reg (ETH_PORT_LDLY p) = wordOfInt (meanOf ((delay.toInt :: d.meas).take 8) / 256) ∧
        (7 ≤ d.meas.length → t.bit (ETH_PORT_STATUS p) 2 = true)) ∧
      (d.meas ≠ [] → ns 100 < (delay.toInt - meanOf d.meas).natAbs →
        (t.pdelay p).meas = if 7 ≤ d.discard then [] else d.meas)) ∧
  (∀ (p : Fin 4) (msg : PtpMsg) (turn : Time) (s : State), s.Quiet → s.LinesIdle → 1 ≤ s.stage → s.portUp p = true →
    s.profileBad msg = false → Gives (.pdelayReqReceive p msg turn) s fun t =>
      t.out = .ptpSend p 3 { msg with correction := turn } :: s.out) ∧
  (∀ (p : Fin 4) (msg : PtpMsg) (egress : Time) (s : State), s.Quiet → s.LinesIdle → 1 ≤ s.stage → Gives (.ptpSyncReceive p msg egress) s fun t =>
    let o := otherPort p
    let corr := msg.correction.toInt + s.portDelay p
    if s.bit (ETH_PORT_STATUS p) 2 then
      (s.portUp o = true → .ptpSend o 0
        { msg with correction := BitVec.ofInt 64 (corr + tdiff egress.toNat (s.stamp 2)) } ∈ t.out) ∧
      (s.stage = 1 → t.eth.ptp = s.eth.ptp ∧ t.tbs = s.tbs) ∧
      (2 ≤ s.stage → s.profileBad msg = true ∨ s.wrongMaster p msg.srcPort = true →
        t.fld ETH_PTP_CNT 31 16 = min 65535 (s.fld ETH_PTP_CNT 31 16 + 1) ∧ t.tbs = s.tbs) ∧
      (2 ≤ s.stage → s.profileBad msg = false → s.wrongMaster p msg.srcPort = false → msg.twoStep = true →
        (t.ptpPort (p / 2)).wait = some ⟨msg.srcPort, msg.seqId, corr, s.stamp 2⟩ ∧ t.tbs = s.tbs ∧
        t.fld ETH_PTP_CNT 31 16 = (if (s.ptpPort (p / 2)).wait.isSome then min 65535 (s.fld ETH_PTP_CNT 31 16 + 1)
          else s.fld ETH_PTP_CNT 31 16)) ∧
      (∀ x, 2 ≤ s.stage → s.profileBad msg = false → msg.twoStep = false → s.eth.sel = some x → x.2 = p.val / 2 →
        x.1.src = msg.srcPort → t.fld ETH_PTP_CNT 15 0 = min 65535 (s.fld ETH_PTP_CNT 15 0 + 1) ∧
        t.reg (TIM_TB_EPOCH 2) = ptpWraps msg corr (s.stamp 2) (syncOffset msg.origin.toNat corr (s.stamp 2)))
    else t.fld ETH_PTP_CNT 31 16 = min 65535 (s.fld ETH_PTP_CNT 31 16 + 1) ∧ t.tbs = s.tbs) ∧
  (∀ (p : Fin 4) (msg : PtpMsg) (w : PtpWait) (s : State), s.Quiet → 2 ≤ s.stage → s.profileBad msg = false →
    s.wrongMaster p msg.srcPort = false → (s.ptpPort (p / 2)).wait = some w → Gives (.ptpFollowUpReceive p msg) s fun t =>
      if w.src = msg.srcPort ∧ w.seq = msg.seqId then (t.ptpPort (p / 2)).wait = none ∧
        (∀ x, s.eth.sel = some x → x.2 = p.val / 2 → x.1.src = w.src →
          t.fld ETH_PTP_CNT 15 0 = min 65535 (s.fld ETH_PTP_CNT 15 0 + 1)) ∧
        (∀ x, s.eth.sel = some x → x.2 ≠ p.val / 2 → t.tbs = s.tbs)
      else (t.ptpPort (p / 2)).wait = some w ∧ t.tbs = s.tbs) ∧
  (∀ (lan : Fin 2) (s : State), s.Calm 0 → Gives (.followUpTimeout lan) s fun t => if (s.ptpPort lan).wait.isSome then
      (t.ptpPort lan).wait = none ∧ t.fld ETH_PTP_CNT 31 16 = min 65535 (s.fld ETH_PTP_CNT 31 16 + 1) ∧ t.tbs = s.tbs
    else t = s) ∧
  (∀ (p : Fin 4) (msg : PtpMsg) (d : AnnounceData) (s : State), s.Quiet → 2 ≤ s.stage → Gives (.ptpAnnounceReceive p msg d) s fun t =>
    if s.profileBad msg = true ∨ s.wrongMaster p msg.srcPort = true then t.eth.ptp = s.eth.ptp ∧ t.eth.sel = s.eth.sel ∧
      t.fld ETH_PTP_CNT 31 16 = min 65535 (s.fld ETH_PTP_CNT 31 16 + 1)
    else t.eth.sel = t.choice ∧ ∃ x ∈ (t.ptpPort (p / 2)).masters, x.src = msg.srcPort ∧ x.data = d ∧
      ((∀ y ∈ (s.ptpPort (p / 2)).masters, y.src ≠ msg.srcPort) → x.qual = false) ∧
      ∀ y ∈ (s.ptpPort (p / 2)).masters, y.src = msg.srcPort → (∀ z ∈ (s.ptpPort (p / 2)).masters, z.src = msg.srcPort → z = y) →
        (x.qual = true ↔ y.qual = true ∨ ∃ h ∈ y.heard, tdiff (s.now 0) h ≤ (4 * logTime d.logInterval : Nat))) ∧
  (∀ (lan : Fin 2) (s : State), s.Quiet → Gives (.announceTimeout lan) s fun t => (t.ptpPort lan).masters = [] ∧
    (t.ptpPort lan).timeout = true ∧ t.eth.sel = t.choice)

/-! ## Management -/

/-- R385 to R388, R391, R392: sessions open and close; a request is discarded, repeated or executed by its SEQ, and refused below its
least role; in stage 2 it is answered BUSY; notifications. Frames are said of lines on which no frame waits (R374). -/
def Obligations.ManagementSessions : Prop :=
  (∀ (c : Instr) (h : MgmtHdr) (op least : Nat) (s : State), IsRequest c h op least → s.Quiet → s.LinesIdle → Gives c s fun t =>
    (s.stage < 2 → t = s) ∧
    (s.stage = 2 → t.fld ETH_MGMT_CNT2 15 0 = min 65535 (s.fld ETH_MGMT_CNT2 15 0 + 1) ∧ t.eth.sessions = s.eth.sessions ∧
      t.Sent fun p => .mgmtBusy p (128 + op) h.session h.seq.toNat) ∧
    (3 ≤ s.stage → s.sess h.session = none ∨ h.tagOk = false ∨ h.seq = 0 ∨ (∃ x, s.sess h.session = some x ∧ h.seq.toNat < x.high) →
      t.fld ETH_MGMT_CNT 31 16 = min 65535 (s.fld ETH_MGMT_CNT 31 16 + 1) ∧ t.eth.sessions = s.eth.sessions) ∧
    (∀ x, 3 ≤ s.stage → s.sess h.session = some x → h.tagOk = true → h.seq ≠ 0 → h.seq.toNat = x.high →
      t.eth.sessions = s.eth.sessions ∧ t.run = s.run ∧ t.seed = s.seed ∧
      (x.reply = none → t.Sent fun p => .mgmtReply p h.session ⟨128 + op, h.seq.toNat, 1, []⟩) ∧
      ∀ r, x.reply = some r → t.fld ETH_MGMT_CNT2 31 16 = min 65535 (s.fld ETH_MGMT_CNT2 31 16 + 1) ∧
        (4 * r.data.length ≤ 1084 → t.Sent fun p => .mgmtReply p h.session r)) ∧
    (∀ x, s.Accepts h x → x.role < least → t.Replied h op 2 [] ∧ t.Recorded 0x0904 h.port ∧ t.run = s.run ∧ t.seed = s.seed ∧
      t.saf = s.saf)) ∧
  (∀ (port : Fin 4) (role : Fin 5) (key : Fin 4) (flags : Byte) (nonce : BitVec 128) (tagOk : Bool) (s : State), s.Quiet →
    s.LinesIdle → Gives (.openSession port role key flags nonce tagOk) s fun t =>
      let known := tagOk = true ∧ s.seed.keys.getLsbD (4 * role + key) = true
      let full := 16 ≤ s.openSess.length
      let state := (3 ≤ role.val ∧ ∃ p ∈ s.openSess, 3 ≤ p.2.role) ∨ (role.val = 4 ∧ s.factoryMode = false)
      let bars := full ∨ state ∨ nonce ∈ s.eth.nonces
      let opened := fun (n st p : Nat) => Output.mgmtOpened p n st (Config.freeNonce s.freeCtr) (s.fld ETH_MGMT_CFG 27 16)
      (s.stage < 2 → t = s) ∧
      (3 ≤ s.stage → ¬ known → t.eth.sessions = s.eth.sessions ∧
        t.fld ETH_MGMT_CNT 31 16 = min 65535 (s.fld ETH_MGMT_CNT 31 16 + 1)) ∧
      (3 ≤ s.stage → known → bars → t.eth.sessions = s.eth.sessions ∧
        t.fld ETH_MGMT_CNT 15 0 = min 65535 (s.fld ETH_MGMT_CNT 15 0 + 1) ∧ (full → t.Sent (opened 0 1)) ∧
        (¬ full → state → t.Sent (opened 0 3) ∧ t.Recorded 0x0904 port) ∧ (¬ full → ¬ state → t.Sent (opened 0 5))) ∧
      (3 ≤ s.stage → known → ¬ bars → ∃ n x, 1 ≤ n ∧ n ≤ 127 ∧ s.sess n = none ∧ t.sess n = some x ∧ x.port = port.val ∧
        x.role = role.val ∧ x.key = key.val ∧ x.high = 0 ∧ x.subs = flags.getLsbD 0 ∧ t.eth.lastNum = n ∧ nonce ∈ t.eth.nonces ∧ t.Sent (opened n 0) ∧
        ∀ k, k ≠ n → t.sess k = s.sess k)) ∧
  (∀ (h : MgmtHdr) (x : Session) (s : State), s.Quiet → s.LinesIdle → s.Accepts h x →
    (Gives (.keepalive h) s fun t => t.Replied h 0x03 0 []) ∧
    (∀ on, Gives (.subscribe h on) s fun t => t.Replied h 0x04 0 [] ∧ ∀ y, t.sess h.session = some y → y.subs = on) ∧
    Gives (.closeSession h) s fun t => t.sess h.session = none ∧
      t.Sent fun p => .mgmtReply p h.session ⟨130, h.seq.toNat, 0, []⟩) ∧
  (∀ (n : Fin 128) (s : State), s.Quiet → Gives (.sessionIdleTimeout n) s fun t => t.sess n = none ∧
    ∀ k, k ≠ n.val → t.sess k = s.sess k) ∧
  (∀ (n : Fin 128) (rec : Fin 64) (x : Session) (s : State), s.Calm 0 → s.LinesIdle → s.sess n = some x → Gives (.notify n rec) s fun t =>
    if x.subs = true ∧ s.recUsed rec = true ∧ 2 ≤ s.recClass rec then
      if x.sec = s.second ∧ 32 ≤ x.inSec then t.out = s.out ∧ ∃ y, t.sess n = some y ∧ y.dropped = x.dropped + 1 ∧ y.notes = x.notes
      else (∃ y, t.sess n = some y ∧ y.dropped = 0 ∧ y.notes = x.notes + 1) ∧
        t.Sent fun p => .notify p n (x.notes + 1) rec (s.reg (FLT_REC_STAT rec)) (s.pair (FLT_REC_FIRST_LO rec)) x.dropped
    else t = s)

/-- R299, R388 to R390, R424: what an accepted operation does and answers: READ and WRITE by address and role, the journal, the capture
buffer, start and stop, messages, and the replacement of the safety block, which both cores decide. Replies are said of lines on which no
frame waits (R374). -/
def Obligations.ManagementOperations : Prop :=
  (∀ (h : MgmtHdr) (x : Session) (s : State), s.Quiet → s.LinesIdle → s.Accepts h x →
    (∀ (addr : Word) (n : Nat), Gives (.mgmtRead h addr n) s fun t =>
      let a := addr.toNat
      (n = 0 ∨ 256 < n → t.Replied h 0x10 5 []) ∧
      (1 ≤ n → n ≤ 256 → a < 0x10000000 ∨ (a < 0x20000000 ∧ x.role < 2) → t.Replied h 0x10 2 [0] ∧ t.Recorded 0x0904 h.port) ∧
      (1 ≤ n → n ≤ 256 → 0x10000000 ≤ a → a % 4 ≠ 0 → a < 0x20000000 → 2 ≤ x.role → t.Replied h 0x10 4 [0]) ∧
      (1 ≤ n → n ≤ 256 → 0x10000000 ≤ a → a % 4 = 0 → a + 4 * n ≤ 0x10400000 → 2 ≤ x.role →
        (∀ i, i < n → s.poisoned (a + 4 * i) = false) → t.crown = s.crown ∧ t.Replied h 0x10 0 (BitVec.ofNat 32 n ::
          (List.range n).map fun i => BitVec.ofNat 32 (leNat ((List.range 4).map fun j => s.byteAt (a + 4 * i + j)))))) ∧
    (∀ (addr : Word) (words : List Word), Gives (.mgmtWrite h addr words) s fun t =>
      let w := addr.toNat / 0x1000000
      (words.length = 0 ∨ 256 < words.length → t.Replied h 0x11 5 []) ∧
      (1 ≤ words.length → words.length ≤ 256 → noWindow addr.toNat = false →
        w < 0x20 ∨ w = 0x40 ∨ w = 0x42 ∨ 0x48 ≤ w ∨ (x.role < 2 ∧ w ≠ 0x41) →
        t.Replied h 0x11 2 [0] ∧ t.Recorded 0x0904 h.port ∧ t.crown = s.crown) ∧
      (addr.toNat = EVR_IRQ_EN → 2 ≤ x.role → ∀ v, words = [v] →
        t.Replied h 0x11 0 [1] ∧ t.reg EVR_IRQ_EN = (s.reg EVR_IRQ_EN &&& 0xFC000000) ||| (v &&& 0x3FFFFFF))) ∧
    (∀ (src : Byte) (first : Word) (n : Nat), Gives (.journalRead h src first n) s fun t =>
      let head := (s.reg JNL_HEAD).toNat
      let count := min n (head - first.toNat)
      (src = 0 → 1 ≤ n → n ≤ 32 → head - 8192 ≤ first.toNat → t.Replied h 0x20 0 (first :: BitVec.ofNat 32 count ::
        ((List.range count).flatMap fun i => jWords (s.ringEntry (first.toNat + i))))) ∧
      (src = 0 → n = 0 ∨ 32 < n → t.Replied h 0x20 5 []) ∧
      (src = 1 → s.seed.cardOk = false → t.Replied h 0x20 3 []) ∧ (src ≠ 0 → src ≠ 1 → t.Replied h 0x20 5 []) ∧
      let blk := first.toNat % 65536
      let page := first.toNat / 65536 % 256
      let slot := fun i => (s.jblk blk).entries[7 * (page - 1) + i]?
      (src = 1 → s.seed.cardOk = true → s.jnl.nblocks ≤ blk ∨ page = 0 → t.Replied h 0x20 5 []) ∧
      (src = 1 → s.seed.cardOk = true → blk < s.jnl.nblocks → 1 ≤ page → ∃ w : Word, w.toNat % 65536 = 7 ∧
        (∀ i, i < 7 → w.getLsbD (18 + i) = (slot i).any slotValid) ∧
        t.Replied h 0x20 0 (first :: w :: (List.range 7).flatMap fun i => slotWords (slot i)))) ∧
    (∀ (word : Word) (n : Nat), Gives (.captureRead h word n) s fun t => if 1 ≤ n ∧ n ≤ 256 ∧ word.toNat + n ≤ 262144 then
        if ∃ i ∈ List.range n, s.poisoned (0x26100000 + 4 * (word.toNat + i)) = true then t.Replied h 0x21 4 []
        else t.Replied h 0x21 0 (s.reg CAP_STATUS :: s.reg CAP_WPTR ::
          (List.range n).map fun i => Sparse.get (fun _ => 0) s.cap.buf (word.toNat + i))
      else t.Replied h 0x21 5 []) ∧
    (1 ≤ x.role → (Gives (.cmdStart h) s fun t => if s.run = 1 then t.run = 2 ∧ t.Replied h 0x30 0 [] else
        t.run = s.run ∧ t.Replied h 0x30 3 []) ∧
      (Gives (.cmdStop h) s fun t => t.run = (if s.run = 2 then 3 else s.run) ∧ t.Replied h 0x30 0 []) ∧
      ∀ bytes, Gives (.hostmsg h bytes) s fun t =>
        if bytes.length < 1 ∨ 1024 < bytes.length then t.Replied h 0x31 5 [] ∧ t.eth.msgs = s.eth.msgs
        else if 8 ≤ s.eth.msgs.length then t.Replied h 0x31 1 [] ∧ t.eth.msgs = s.eth.msgs
        else t.Replied h 0x31 0 [] ∧ t.eth.msgs = s.eth.msgs ++ [⟨h.session, x.role, bytes⟩]) ∧
    (3 ≤ x.role → ∀ block, Gives (.safetyParam h block) s fun t =>
      if block.length ≠ 64 then t.Replied h 0x40 5 [] ∧ t.saf = s.saf
      else if s.saf.offer.isSome then t.Replied h 0x40 1 [] ∧ t.saf = s.saf
      else t.saf.offer = some (block, h) ∧ t.saf.card = s.saf.card ∧ t.saf.block = s.saf.block ∧ t.out = s.out)) ∧
  (∀ (agree written : Bool) (s : State), s.Quiet → s.LinesIdle → Gives (.safetyParamDecided agree written) s fun t =>
    (s.saf.offer = none → t = s) ∧
    ∀ b h, s.saf.offer = some (b, h) →
      let ok := blockReason b = 0 ∧ s.bit SAF_SEAL 16 = true ∧ agree = true ∧ written = true
      t.saf.offer = none ∧ t.saf.block = s.saf.block ∧ t.saf.card = (if ok then b else s.saf.card) ∧
      (ok → t.saf.editWait = true ∧ t.Recorded 0x0612 31) ∧
      ∀ x, s.sess h.session = some x → x.high = h.seq.toNat →
        t.Replied h 0x40 (if ok then 0 else if blockReason b = 0 then 3 else 5) [])

/-- R386, R387, R426: one update of the seed at a time, in contiguous parts of its session; a gap, an abort or a failed verification
leaves PENDING as it is and raises 0x0B08; a valid image is pending, and new role keys close the sessions they change. Replies
are said of lines on which no frame waits (R374). -/
def Obligations.SeedUpdates : Prop :=
  (∀ (h : MgmtHdr) (x : Session) (s : State), s.Quiet → s.LinesIdle → s.Accepts h x → 2 ≤ x.role →
    let mine := ∃ u, s.seed.update = some u ∧ u.session = h.session.val
    (∀ (sec : BitVec 16) (total : Nat), Gives (.seedBegin h sec total) s fun t =>
      if (sec ≠ 0 ∧ sec ≠ 9) ∨ 0x1800000 < total then t.Replied h 0x50 5 [] ∧ t.seed = s.seed
      else if s.updState = 1 ∨ s.updState = 2 ∨ s.seed.cardOk = false then t.Replied h 0x50 3 [] ∧ t.seed = s.seed
      else t.Replied h 0x50 0 [] ∧ t.seed.update = some ⟨h.session, sec.toNat, total⟩ ∧ t.updState = 1 ∧
        t.reg SED_UPDATE_BYTES = 0 ∧ t.seed.pend = s.seed.pend) ∧
    (∀ (off : Nat) (bytes : List Byte), Gives (.seedData h off bytes) s fun t =>
      let got := (s.reg SED_UPDATE_BYTES).toNat
      (¬ mine ∨ s.updState ≠ 1 → t.Replied h 0x51 3 [] ∧ t.seed = s.seed) ∧
      (mine → s.updState = 1 → bytes.length < 1 ∨ 1024 < bytes.length → t.Replied h 0x51 5 [] ∧ t.seed = s.seed) ∧
      (mine → s.updState = 1 → 1 ≤ bytes.length → bytes.length ≤ 1024 → off ≠ got → t.Replied h 0x51 5 [] ∧
        t.seed.update = none ∧ t.updState = 0 ∧ t.seed.pend = s.seed.pend ∧ t.Recorded 0x0B08 31) ∧
      ∀ u, s.seed.update = some u → mine → s.updState = 1 → 1 ≤ bytes.length → bytes.length ≤ 1024 → off = got →
        if off + bytes.length ≤ u.total then
          t.Replied h 0x51 0 [] ∧ t.reg SED_UPDATE_BYTES = BitVec.ofNat 32 (off + bytes.length) ∧ t.updState = 1
        else t.Replied h 0x51 5 [] ∧ t.seed = s.seed) ∧
    (Gives (.seedCommit h) s fun t => (mine → s.updState = 1 → t.updState = 2 ∧ t.seed.commit = some h ∧ t.seed.pend = s.seed.pend) ∧
      (¬ mine ∨ s.updState ≠ 1 → t.Replied h 0x52 3 [] ∧ t.seed = s.seed)) ∧
    Gives (.seedAbort h) s fun t => t.seed.pend = s.seed.pend ∧
      (mine → s.updState = 1 ∨ s.updState = 2 → t.Replied h 0x53 0 [] ∧ t.seed.update = none ∧ t.updState = 0 ∧
        t.Recorded 0x0B08 31) ∧
      (¬ mine ∨ (s.updState ≠ 1 ∧ s.updState ≠ 2) → t.Replied h 0x53 3 [] ∧ t.seed = s.seed)) ∧
  (∀ (bank : BankHeader) (keysOk : Bool) (newKeys changed : BitVec 20) (s : State), s.Quiet → s.LinesIdle →
    s.eth.sessions.length ≤ 32 →
    Gives (.seedCommitDone bank keysOk newKeys changed) s fun t =>
      (s.seed.commit = none ∨ s.seed.update = none → t = s) ∧
      ∀ h u, s.seed.commit = some h → s.seed.update = some u → t.seed.update = none ∧ t.seed.active = s.seed.active ∧
        (s.imageOk bank = false → t.updState = 4 ∧ t.seed.pend = s.seed.pend ∧ t.Recorded 0x0B08 31 ∧ t.seed.keys = s.seed.keys) ∧
        (s.imageOk bank = true → t.updState = 3 ∧ t.seed.pend = some (!s.seed.active) ∧
          t.seed.keys = (if u.sect = 9 ∧ keysOk = true then newKeys else s.seed.keys) ∧
          (u.sect = 9 → keysOk = true → ∀ n x, s.sess n = some x → changed.getLsbD (4 * x.role + x.key) = true → t.sess n = none)))

/-! ## CAN FD controllers -/

/-- R396 to R398, R400, R401, R407: a frame is filtered into a queue, with the stamps of its SOF in TB0 and TB3, or rejected; a full
queue keeps what it has; a SYNC is held with its stamps and a FUP gives a sample to TB3; the release of messages; the modes. -/
def Obligations.CanReception : Prop :=
  (∀ (c : Fin 2) (f : CanFrame) (s : State), s.Quiet →
    ∀ i ∈ [Instr.canFrameReceive c f, .timeSyncMessage c f, .timeFupMessage c f], Gives i s fun t =>
      let time := s.isTime c f = true ∧ s.src 3 = c.val + 1
      let hit := (List.range 128).find? fun n => s.filterHit c f n
      let act := match hit with
        | some n => s.fld (CAN_FLT_ID c n) 31 30
        | none => s.fld (CAN_NOMATCH c) 1 0
      let n := s.fld (CAN_RXQ_STAT c (act - 1)) 6 0
      let slot := (s.fld (CAN_RXQ_STAT c (act - 1)) 13 8 + n) % 64
      let on := s.canOn c = true
      let sof := fun (n : Nat) => (s.stamp n + 2 ^ 64 - f.since % 2 ^ 64) % 2 ^ 64
      (¬ on → t = s) ∧
      (on → s.bit (CAN_CTRL c) 5 = false → t.fld (CAN_CNT0 c) 31 16 = min 65535 (s.fld (CAN_CNT0 c) 31 16 + 1) ∧
        (¬ time → t.canMem = s.canMem)) ∧
      (on → s.bit (CAN_CTRL c) 5 = true → ¬ time → act = 1 ∨ act = 2 → n < 64 →
        t.fld (CAN_RXQ_STAT c (act - 1)) 6 0 = n + 1 ∧ t.bit (EVR_SRC_STAT (97 + 4 * c + act)) 2 = true ∧
        ∀ w, w < 24 → t.cw (rxWord c (act - 1) slot w) = (s.rxWords f hit).getD w 0) ∧
      (s.rxWords f hit).getD 2 0 = lo32 (sof 0) ∧ (s.rxWords f hit).getD 4 0 = lo32 (sof 3) ∧
      (on → s.bit (CAN_CTRL c) 5 = true → ¬ time → act = 1 ∨ act = 2 → 64 ≤ n → t.canMem = s.canMem ∧
        t.fld (CAN_RXQ_STAT c (act - 1)) 31 16 = min 65535 (s.fld (CAN_RXQ_STAT c (act - 1)) 31 16 + 1)) ∧
      (on → s.bit (CAN_CTRL c) 5 = true → ¬ time → act = 0 ∨ act = 3 → t.canMem = s.canMem ∧
        t.fld (CAN_CNT0 c) 15 0 = min 65535 (s.fld (CAN_CNT0 c) 15 0 + 1)) ∧
      (on → time → f.data.getD 0 0 = 0x10 → (∀ b ∈ (f.data.drop 2).take 6, b = 0) →
        (t.can c).sync = some ((f.data.getD 1 0).toNat, sof 3, s.stamp 0)) ∧
      (on → time → f.data.getD 0 0 = 0x18 → ∀ t3 t0, (s.can c).sync = some ((f.data.getD 1 0).toNat, t3, t0) →
        tdiff (s.now 0) t0 ≤ (ns (s.fld (CAN_TS_CFG c) 31 16 * 1000000) : Nat) →
        let e := sext 48 (toU 48 ((leNat ((f.data.drop 2).take 6) : Int) + sext 16 (s.fld (CAN_TS_CFG c) 15 0) - ((t3 / 65536 : Nat) : Int)))
        t.fld (CAN_TS_CNT c) 15 0 = min 65535 (s.fld (CAN_TS_CNT c) 15 0 + 1) ∧ t.tb 3 = (s.servo 3 (e * 65536)).tb 3) ∧
      (on → time → f.data.getD 0 0 ≠ 0x10 → f.data.getD 0 0 ≠ 0x18 ∨ (s.can c).sync = none →
        t.fld (CAN_TS_CNT c) 31 16 = min 65535 (s.fld (CAN_TS_CNT c) 31 16 + 1) ∧ t.tbs = s.tbs)) ∧
  (∀ (c q : Fin 2) (m : Master) (n : BitVec 7) (s : State), s.Quiet → Gives (.canRxqRel c q m n) s fun t =>
    let cnt := s.fld (CAN_RXQ_STAT c q) 6 0
    if cnt < n.toNat then t.reg (CAN_RXQ_STAT c q) = s.reg (CAN_RXQ_STAT c q) ∧ t.acc = 3 ∧ t.Recorded 0x0A06 c
    else t.fld (CAN_RXQ_STAT c q) 6 0 = cnt - n.toNat ∧ t.canMem = s.canMem ∧
      t.fld (CAN_RXQ_STAT c q) 13 8 = (s.fld (CAN_RXQ_STAT c q) 13 8 + n.toNat) % 64 ∧
      t.bit (EVR_SRC_STAT (98 + 4 * c + q)) 2 = decide (n.toNat < cnt)) ∧
  (∀ (c : Fin 2) (m : Master) (mode : BitVec 2) (s : State), s.Quiet → Gives (.canModeWrite c m mode) s fun t =>
    if mode = 3 then t.reg (CAN_CTRL c) = s.reg (CAN_CTRL c) ∧ t.reg (CAN_STATUS c) = s.reg (CAN_STATUS c) ∧ t.acc = 3 ∧
      t.Recorded 0x0A06 c
    else t.fld (CAN_CTRL c) 1 0 = mode.toNat ∧ t.fld (CAN_STATUS c) 1 0 = mode.toNat ∧
      (s.fld (CAN_STATUS c) 1 0 = 0 ∨ mode = 0 → t.bit (CAN_STATUS c) 4 = false)) ∧
  (∀ (c : Fin 2) (s : State), (s.Calm 0 → Gives (.canIntegrated c) s fun t =>
      if s.fld (CAN_STATUS c) 1 0 = 0 then t = s else t.bit (CAN_STATUS c) 4 = true ∧ t.canMem = s.canMem) ∧
    (s.Quiet → Gives (.canTxdTimeout c) s fun t => t.bit (CAN_STATUS c) 6 = true ∧ t.canTx c = false ∧ t.Recorded 0x0A07 c ∧
      (0x0A07, c.val) ∈ t.flt.causes) ∧
    (s.Tame → Gives (.canTxdRecessive c) s fun t => t.bit (CAN_STATUS c) 6 = false ∧ (0x0A07, c.val) ∉ t.flt.causes))

/-- R402 to R406: what a submission, a cancel, an attempt and the end of a window make of a transmit buffer; a pending buffer is not
written; error-passive, bus-off and recovery. Whether a cancelled attempt was past its SOF is a free value. -/
def Obligations.CanTransmission : Prop :=
  (∀ (c : Fin 2) (m : Master) (b : Fin 32) (w : Fin 24) (v : Word) (s : State), s.Quiet →
    Gives (.canTxBufferWrite c m b w v) s fun t =>
      if s.bufSt c b = 2 then t.canMem = s.canMem ∧ t.acc = 3 ∧ t.Recorded 0x0A06 c
      else t.bufSt c b = (if s.bufSt c b = 0 then 1 else s.bufSt c b) ∧
        (w.val ≠ 1 → t.cw (txWord c b w) = (s.cw (txWord c b w) &&& ~~~BitVec.ofNat 32 (txMask w)) ||| (v &&& BitVec.ofNat 32 (txMask w))) ∧
        ∀ a, a ≠ txWord c b w → a ≠ txWord c b 1 → t.cw a = s.cw a) ∧
  (∀ (c : Fin 2) (m : Master) (v : Word) (s : State), s.Quiet → Gives (.canTxreq c m v) s fun t =>
    ∀ b : Fin 32,
      let w1 := s.cw (txWord c b 1)
      let bars := (bit w1 4 = true ∧ s.bit (CAN_CTRL c) 6 = false) ∨ (bit w1 5 = true ∧ s.bit (CAN_CTRL c) 7 = false) ∨
        bit (s.cw (txWord c b 0)) 30 = true ∨ fld w1 17 16 = 3
      let at_ := join64 (s.cw (txWord c b 2)) (s.cw (txWord c b 3))
      let n := if fld w1 17 16 = 1 then 0 else 3
      let win := fld (s.cw (txWord c b 6)) 15 0
      let d := tdiff at_ (s.now n)
      let free := s.bufSt c b ≠ 2 ∧ s.bufSt c b ≠ 0
      (v.getLsbD b = false ∨ ¬ free ∨ bars → t.bufSt c b = s.bufSt c b) ∧
      (v.getLsbD b = true → free → ¬ bars → fld w1 17 16 = 0 → t.bufSt c b = 2 ∧ (t.txb c b).eligible = true) ∧
      (v.getLsbD b = true → free → ¬ bars → fld w1 17 16 ≠ 0 →
        if maxTime < d.natAbs then t.bufSt c b = s.bufSt c b
        else if win ≠ 0 ∧ tdiff ((at_ + ns (win * 1000)) % 2 ^ 64) (s.now n) ≤ 0 then t.bufSt c b = 4
        else t.bufSt c b = 2 ∧ ((t.txb c b).eligible = true ↔ d ≤ 0)) ∧
      (v = BitVec.ofNat 32 (2 ^ b.val) → free → bars → t.Recorded 0x0A06 c)) ∧
  (∀ (c : Fin 2) (m : Master) (v : Word) (s : State), s.Calm 1 → Gives (.canTxcancel c m v) s fun t =>
    ∀ b : Fin 32,
      (v.getLsbD b = false ∨ s.bufSt c b ≠ 2 → t.bufSt c b = s.bufSt c b) ∧
      (v.getLsbD b = true → s.bufSt c b = 2 → t.bufSt c b = 5 ∨
        (t.bufSt c b = 2 ∧ (t.txb c b).cancel = true ∧ s.canTx c = true ∧ (s.txb c b).eligible = true))) ∧
  (∀ (c : Fin 2) (b : Fin 32) (s : State), s.Calm 0 → Gives (.canTxEligible c b) s fun t => if s.bufSt c b = 2 then
      (t.txb c b).eligible = true ∧ t.canMem = s.canMem else t = s) ∧
  (∀ (c : Fin 2) (b : Fin 32) (s : State), s.Quiet → Gives (.canTxLate c b) s fun t =>
    if s.bufSt c b = 2 ∧ (s.txb c b).winEnd.isSome = true then t.bufSt c b = 4 ∧ t.Recorded 0x0A03 c ∧
      t.fld (CAN_CNT1 c) 31 16 = min 65535 (s.fld (CAN_CNT1 c) 31 16 + 1)
    else t = s) ∧
  (∀ (c : Fin 2) (b : Fin 32) (sof : Time) (s : State), s.Quiet → Gives (.canTxSuccess c b sof) s fun t =>
    if s.bufSt c b = 2 ∧ (s.txb c b).eligible = true ∧ s.canTx c = true then t.bufSt c b = 3 ∧
      join64 (t.cw (txWord c b 4)) (t.cw (txWord c b 5)) = sof.toNat ∧ bit (t.cw (txWord c b 1)) 18 = (s.txb c b).cancel ∧
      t.out = .canTx c b ((List.range 24).map fun w => t.cw (txWord c b w)) :: s.out
    else t = s) ∧
  (∀ (c : Fin 2) (b : Fin 32) (error : Bool) (s : State), s.Calm 0 → Gives (.canTxLost c b error) s fun t =>
    if s.bufSt c b = 2 ∧ (s.txb c b).eligible = true ∧ s.canTx c = true then
      t.bufSt c b = (if (s.txb c b).cancel then 5 else 2) ∧
      t.fld (CAN_ERRCNT c) 24 16 = (if error then min 511 (s.fld (CAN_ERRCNT c) 24 16 + 8) else s.fld (CAN_ERRCNT c) 24 16)
    else t = s) ∧
  (∀ (c : Fin 2) (tec : BitVec 9) (rec : BitVec 8) (s : State), s.Quiet →
    (Gives (.canErrorPassive c tec rec) s fun t => t.fld (CAN_STATUS c) 3 2 = 1 ∧ t.fld (CAN_ERRCNT c) 24 16 = tec.toNat ∧
      t.fld (CAN_ERRCNT c) 7 0 = rec.toNat ∧ t.Recorded 0x0A01 c ∧ (0x0A01, c.val) ∈ t.flt.causes ∧
      t.bit (EVR_SRC_STAT (96 + 4 * c)) 2 = true) ∧
    Gives (.canBusOff c tec) s fun t => t.fld (CAN_STATUS c) 3 2 = 2 ∧ t.canTx c = false ∧ t.canMem = s.canMem ∧
      t.bit (CAN_STATUS c) 5 = s.bit (CAN_CTRL c) 2 ∧ t.Recorded 0x0A02 c ∧ (0x0A02, c.val) ∈ t.flt.causes ∧
      t.bit (EVR_SRC_STAT (97 + 4 * c)) 2 = true) ∧
  (∀ (c : Fin 2) (m : Master) (s : State), (s.Calm 1 → Gives (.canRecover c m) s fun t =>
      if s.fld (CAN_STATUS c) 3 2 = 2 then t.bit (CAN_STATUS c) 5 = true else t.reg (CAN_STATUS c) = s.reg (CAN_STATUS c)) ∧
    (s.Tame → Gives (.canRecoveryDone c) s fun t => if s.bit (CAN_STATUS c) 5 then t.fld (CAN_STATUS c) 3 2 = 0 ∧
      t.reg (CAN_ERRCNT c) = 0 ∧ (0x0A02, c.val) ∉ t.flt.causes ∧ t.bit (EVR_SRC_STAT (97 + 4 * c)) 2 = false else t = s))

/-! ## Start-up, card and run state -/

/-- R18, R313, R413 to R420, R423 to R425, R427: the descriptor that governs; which bank a start uses and what ends it in the safe
start-up state; sections as they are applied, and what a bad one does; the end of boot; the card in service; the run state's
commands; what a loss of power leaves. -/
def Obligations.StartUpAndRunState : Prop :=
  (∀ (scan : CardScan) (s : State), s.Quiet → s.eth.sessions.length ≤ 32 → Gives (.powerOn scan) s fun t =>
    let why := fun b => s.showSlots.imageBad (bankOf scan b)
    let safe := fun reason : Nat => t.phase = 7 ∧ t.fld SED_STATUS 31 24 = reason ∧ t.stage = 0 ∧ t.fld GDR_CTRL 3 0 = 0 ∧
      t.spb = true ∧ t.fld SAF_OUT 1 0 = 0 ∧ (∀ c, c < 2 → t.fld (CAN_STATUS c) 1 0 = 0) ∧ ∀ r, r < 4 → t.bit WRP_CTRL r = false
    (s.phase ≠ 0 → t = s) ∧
    (s.phase = 0 → scan.present = false → safe 1) ∧
    (s.phase = 0 → scan.present = true → scan.supported = false → safe 2) ∧
    (s.phase = 0 → scan.present = true → scan.supported = true → descOf scan = none → safe 3) ∧
    (∀ d, s.phase = 0 → scan.present = true → scan.supported = true → descOf scan = some d →
      let act := d.active == 1
      let first := (descPend d).getD act
      (why first = 0 → t.phase = 1 ∧ t.seed.active = first ∧ t.seed.pend = none ∧ t.seed.header = some (bankOf scan first) ∧
        t.reg SED_IMAGE_VER = (bankOf scan first).imageVer ∧ t.bit SED_STATUS 3 = s.bit SED_STATUS 3) ∧
      (why first ≠ 0 → first ≠ act → why act = 0 → t.phase = 1 ∧ t.seed.active = act ∧ t.seed.pend = none ∧
        t.seed.header = some (bankOf scan act) ∧ t.bit SED_STATUS 3 = true ∧ t.fld SED_STATUS 31 24 = why first ∧
        t.Recorded 0x0B08 31) ∧
      (why first ≠ 0 → why act ≠ 0 → safe (why act)))) ∧
  (∀ (scan : CardScan) (d : Descriptor), descOf scan = some d → descOk d = true ∧
    (d = scan.desc0 ∨ d = scan.desc1) ∧ (descOk scan.desc0 = true → descOk scan.desc1 = true →
      d = if 0 < sext 32 (scan.desc1.seq - scan.desc0.seq).toNat then scan.desc1 else scan.desc0)) ∧
  (∀ (hashOk : Bool) (d : SectionData) (s : State), s.Quiet → s.eth.sessions.length ≤ 32 → Gives (.seedSectionApply hashOk d) s fun t =>
    let bad := (s.seed.other = none → t.phase = 7 ∧ t.fld SED_STATUS 31 24 = 6 ∧ t.stage = 0) ∧
      ∀ h, s.seed.other = some h → t.phase = 1 ∧ t.seed.active = (!s.seed.active) ∧ t.seed.header = some h ∧
        t.bit SED_STATUS 3 = true ∧ t.Recorded 0x0B08 31
    (s.booting = false → t = s) ∧
    (s.booting = true → hashOk = false → t.phase = 7 ∧ t.fld SED_STATUS 31 24 = 5 ∧ t.stage = 0) ∧
    (s.booting = true → hashOk = true →
      (d = .safety → t.phase = 3 ∧ t.saf = s.saf ∧ t.seed = s.seed) ∧
      (∀ v, d = .roleKeys v → t.phase = 3 ∧ t.seed.keysNew = v ∧ t.seed.keys = s.seed.keys) ∧
      (∀ n, d = .journalRegion n → n ≠ s.seed.jblocks → bad) ∧
      (d = .journalRegion s.seed.jblocks →
        let s0 : State := { s with jnl := { s.jnl with nblocks := s.seed.jblocks } }
        t.phase = 3 ∧ t.jnl.started = true ∧ t.jnl.cur = s0.jNewest ∧ t.seed.newest = newestEpoch (s0.jblk s0.jNewest) ∧
        t.fld JNL_EPOCH 15 0 = (t.seed.newest + 1) % 65536) ∧
      (∀ maps, d = .ringMaps maps [] → if ringMapsOk s.tcycNext maps = true then t.phase = 3 ∧
        ∀ r, r < 4 → (t.ring r).map = maps.getD r RingMap.none else bad) ∧
      (∀ (a : Nat) (w : Word), d = .firmware [⟨a, [w]⟩] → a % 4 = 0 → 0x10000000 ≤ a → a < 0x10400000 → t.phase = 3 ∧
        t.seed.firmware = true ∧ leNat ((List.range 4).map fun i => t.byteAt (a + i)) = w.toNat ∧
        ∀ b, b < a ∨ a + 4 ≤ b → t.byteAt b = s.byteAt b) ∧
      (∀ (a : Nat) (w : Word), d = .firmware [⟨a, [w]⟩] → a < 0x10000000 ∨ 0x10400000 ≤ a →
        bad ∧ t.seed.firmware = s.seed.firmware ∧ t.crown = s.crown))) ∧
  (∀ (keysOk : Bool) (s : State), s.Quiet → Gives (.endOfBoot keysOk) s fun t => if s.booting then
      t.booted = true ∧ t.phase = 4 ∧ t.run = (if s.run = 0 then 1 else s.run) ∧
      t.seed.keys = (if keysOk then s.seed.keysNew else s.seed.keys) ∧ (keysOk = false → t.Recorded 0x0B04 31) ∧
      (∀ h k, s.seed.header = some h → k < 4 → h.revoke.getLsbD k = true → s.slotOk k = true →
        t.slotOk k = false ∧ t.seed.blown.getLsbD k = true) ∧
      (∀ c, c < 2 → s.fld (CAN_CTRL c) 1 0 = 1 → s.seed.canKeep.getLsbD c = false → t.fld (CAN_STATUS c) 1 0 = 2)
    else t = s) ∧
  (∀ s : State, s.Quiet → s.eth.sessions.length ≤ 32 → Gives .seedCardRemoved s fun t => t.seed.cardOk = false ∧
    t.bit SED_STATUS 1 = false ∧ t.seed.pend = s.seed.pend ∧
    (s.booting = true → t.phase = 7 ∧ t.fld SED_STATUS 31 24 = 1) ∧
    (s.booting = false → s.booted = true → (0x0B0A, 31) ∈ t.flt.causes ∧ t.updState ≠ 1 ∧ t.updState ≠ 2)) ∧
  (∀ (id : BitVec 64) (s : State), s.Tame → Gives (.seedCardInserted id) s fun t => t.bit SED_STATUS 1 = true ∧
    (s.booted = true → id.toNat = s.pair SED_CARD_ID_LO → s.seed.wrong = false → t.seed.cardOk = true ∧
      (0x0B0A, 31) ∉ t.flt.causes) ∧
    (s.booted = true → id.toNat ≠ s.pair SED_CARD_ID_LO → t.seed.wrong = true ∧ t.seed.cardOk = s.seed.cardOk ∧
      t.fld SED_STATUS 31 24 = 7 ∧ t.flt.causes = s.flt.causes)) ∧
  (∀ (m : Master) (s : State), s.Calm 2 → (Gives (.runCmdStart m) s fun t => if s.run = 1 then t.run = 2 ∧ t.acc = s.acc else
      t.run = s.run ∧ t.acc = 3) ∧
    Gives (.runCmdStop m) s fun t => t.run = if s.run = 2 then 3 else s.run) ∧
  (∀ (core : Fin 2) (s : State), s.Quiet → Gives (.crownWatchdogExpire core) s fun t => t.Recorded 0x0D09 core) ∧
  (∀ s : State, Gives .powerLoss s fun t => t.regs = State.reset.regs ∧ t.tbs = State.reset.tbs ∧ t.rings = State.reset.rings ∧
    t.crown = State.reset.crown ∧ t.gate = State.reset.gate ∧ t.eth = State.reset.eth ∧ t.nodes = s.nodes ∧ t.saf.card = s.saf.card ∧
    t.jnl.blocks = s.jnl.blocks ∧ t.seed.active = s.seed.active ∧ t.seed.pend = s.seed.pend ∧ t.seed.blown = s.seed.blown)

/-! ## Thermal data and rails -/

/-- R349, R430, R431, R433 to R436, R438: sensors and their failures, T_max, the throttle, orderly and immediate stops, the restart
condition, the baseplate, and the rails: a rail out of range holds what it feeds in reset, at its reset values. -/
def Obligations.ThermalAndRails : Prop :=
  (∀ (readings : List (Option (BitVec 16))) (s : State), s.Quiet → readings.length = 16 → Gives (.thermalSample readings) s fun t =>
    let rd := fun i => (readings.getD i none).map BitVec.toInt
    let tmax := sext 16 (t.fld THM_STATUS 31 16)
    let stands := ∃ i ∈ t.masked, (t.stand i).isSome = true
    let far := tmax - ((tmax :: s.therm.hist).take 20001).getLastD tmax
    (∀ i, i < 16 → s.senFailed i = false →
      (s.goodReading i (rd i) = false → t.senFailed i = true ∧ (0x0C04, i) ∈ t.flt.causes) ∧
      (s.goodReading i (rd i) = true → t.senFailed i = false ∧ t.bit (THM_SENS i) 16 = true ∧ some (t.senTemp i) = rd i)) ∧
    (stands → t.bit THM_STATUS 7 = true ∧ (∀ i ∈ t.masked, t.senFailed i = false → t.senTemp i ≤ tmax) ∧
      (tLimit ≤ tmax → t.thermState = 3 ∧ t.throttle = 8 ∧ (s.thermState ≠ 3 → (0x0C03, 31) ∈ t.flt.causes)) ∧
      (tHot < tmax → s.thermState = 0 ∨ s.thermState = 4 → min 8 (s.throttle + 1) ≤ t.throttle ∧ (0x0C01, 31) ∈ t.flt.causes) ∧
      (tStop ≤ tmax → tmax < tLimit → s.thermState ≠ 2 → s.thermState ≠ 3 →
        if 0 < far ∧ 2000 * (tLimit - tmax) ≤ (s.fld THM_CFG 15 0 : Int) * far then t.thermState = 3 ∧ t.throttle = 8 ∧
          (0x0C03, 31) ∈ t.flt.causes
        else t.thermState = 2 ∧ (0x0C02, 31) ∈ t.flt.causes)) ∧
    (¬ stands → t.bit THM_STATUS 7 = false ∧ t.throttle = 8 ∧ (s.thermState ≠ 3 → (0x0C03, 31) ∈ t.flt.causes)) ∧
    (t.senFailed 13 = false → 10880 < t.senTemp 13 → (0x0C0A, 13) ∈ t.flt.causes)) ∧
  (∀ s : State, s.Tame → Gives .throttleInterval s fun t => t.therm.hot = none ∧ t.therm.cool = none ∧
    (s.therm.hot = some true → t.throttle = min 8 (max (s.throttle + 1) s.throttleFloor)) ∧
    (s.therm.hot ≠ some true → s.therm.cool = some true → t.throttle = min 8 (max (s.throttle - 1) s.throttleFloor)) ∧
    (s.therm.hot ≠ some true → s.therm.cool ≠ some true → t.throttle = s.throttle) ∧
    (t.throttle ≠ s.throttle → t.fld SAP_STATUS 15 12 = t.throttle)) ∧
  (∀ s : State, s.Tame → Gives .thermalCooled s fun t =>
    if s.bit THM_STATUS 7 = true ∧ sext 16 (s.fld THM_STATUS 31 16) < tCool ∧ (s.thermState = 2 ∨ s.thermState = 3) then
      t.thermState = 4 ∧ ∀ u, (0x0C02, u) ∉ t.flt.causes ∧ (0x0C03, u) ∉ t.flt.causes
    else t = s) ∧
  (∀ (in5 in10 : BitVec 7) (s : State), s.Quiet → Gives (.railSample in5 in10) s fun t =>
    (in10 = 127 → t.reg THM_RAILS = in5.setWidth 32 ∧ ∀ u, u < 7 →
      (in5.getLsbD u = true → (0x0C06, u) ∉ t.flt.causes) ∧
      (in5.getLsbD u = false → Sparse.get (fun _ => 0) s.therm.rails u = 9 → (0x0C06, u) ∈ t.flt.causes)) ∧
    (in10 = 0x7B → in5.getLsbD 2 = false → ∀ r, r < 4 → t.bit WRP_CTRL r = false) ∧
    ((in10 = 0x6F ∧ in5.getLsbD 4 = false) ∨ (in10 = 0x5F ∧ in5.getLsbD 5 = false) → t.spb = true ∧ t.bit SAF_STATUS 1 = true) ∧
    (in10 = 0x7D → in5.getLsbD 1 = false → t.stage = 0 ∧ t.LinesIdle ∧ (∀ n, t.sess n = none) ∧
      ∀ a, 0x33000000 ≤ a → a < 0x34000000 → t.reg a = State.reset.reg a) ∧
    (in10 = 0x3F → in5.getLsbD 6 = false → t.gate.needStart = 31 ∧ (∀ g, g < 4 → t.groupOn g = false) ∧
      (∀ ch, (t.gch ch).out = 0) ∧ ∀ a, 0x45000000 ≤ a → a < 0x46000000 → t.reg a = State.reset.reg a) ∧
    (in10 = 0x7E → in5.getLsbD 0 = false → t.crown = State.reset.crown ∧ t.rings = State.reset.rings ∧ t.nodes = s.nodes ∧ t.saf.card = s.saf.card))

/-! ## Accesses on the fabric -/

/-- R7, R9 to R14, R36, R310, R312: which accesses end in a bus error; a read and a write of Crown SRAM by bytes, which change no other
byte; the access types of a register's fields, its lock, and the capture of a high word. -/
def Obligations.FabricAccesses : Prop :=
  (∀ (m : Master) (addr : Word) (width : BitVec 2) (v : Word) (s : State), s.Quiet →
    let a := addr.toNat
    let bars := width = 3 ∨ a % 2 ^ width.toNat ≠ 0 ∨ (width ≠ 2 ∧ 0x20000000 ≤ a) ∨ (0x10000 ≤ a ∧ a < 0x10000000) ∨
      (0x10400000 ≤ a ∧ a < 0x20000000) ∨ (0x20200000 ≤ a ∧ a < 0x24000000) ∨ (a = FLT_INJ ∧ s.injAllowed m = false)
    (bars → (Gives (.registerRead m addr width) s fun t => t.acc = 4 ∧ t.rdata = 0 ∧ t.Recorded 0x0D06 31 ∧
        t.reg (FLT_REC_FEC_ADDR 13) = addr ∧ t.crown = s.crown) ∧
      Gives (.registerWrite m addr width v) s fun t => t.acc = 4 ∧ t.Recorded 0x0D06 31 ∧ t.reg (FLT_REC_FEC_ADDR 13) = addr ∧
        t.crown = s.crown ∧ t.engines = s.engines) ∧
    (a < 0x10000 ∨ (a / 0x1000000 = 0x40 ∧ s.reaches m a (mapPlace a) = true) → ¬ bars →
      Gives (.registerWrite m addr width v) s fun t => t.acc = 4 ∧ t.Recorded 0x0D06 31 ∧ t.saf.block = s.saf.block) ∧
    (0x10000000 ≤ a → a < 0x10400000 → ¬ bars →
      (Gives (.registerWrite m addr width v) s fun t => t.acc = 0 ∧ (width = 2 → t.poisoned a = false) ∧
        (Memory.wf s.crown = true → Memory.wf t.crown = true) ∧
        ∀ b, t.byteAt b = if a ≤ b ∧ b < a + 2 ^ width.toNat then BitVec.ofNat 8 (v.toNat / 256 ^ (b - a)) else s.byteAt b) ∧
      (s.poisoned (a / 4 * 4) = false → Gives (.registerRead m addr width) s fun t => t.acc = 0 ∧ t.crown = s.crown ∧
        t.rdata = BitVec.ofNat 32 (leNat ((List.range (2 ^ width.toNat)).map fun i => s.byteAt (a + i)))) ∧
      (s.poisoned (a / 4 * 4) = true → Gives (.registerRead m addr width) s fun t => t.acc = 4 ∧ t.crown = s.crown ∧
        (0x0D04, wordTag (a / 4 * 4)) ∈ t.flt.causes))) ∧
  (∀ (m : Master) (v : Word) (s : State), s.Calm 1 → s.poison = [] →
    (Gives (.registerWrite m (BitVec.ofNat 32 EVR_IRQ_EN) 2 v) s fun t => t.acc = 0 ∧ t.reg EVR_IRQ_EN = (s.reg EVR_IRQ_EN &&& 0xFC000000) ||| (v &&& 0x3FFFFFF) ∧
      ∀ a, a < 0x42000000 → t.reg a = s.reg a) ∧
    (Gives (.registerWrite m (BitVec.ofNat 32 EVR_IRQ) 2 v) s fun t => t.acc = 0 ∧
      t.reg EVR_IRQ = s.reg EVR_IRQ &&& ~~~(v &&& 0x3FFFFFF)) ∧
    (Gives (.registerWrite m (BitVec.ofNat 32 (EVR_MASKED 0)) 2 v) s fun t => t.acc = 0 ∧ ∀ a, t.reg a = s.reg a) ∧
    (Gives (.registerRead m (BitVec.ofNat 32 GDR_CNT) 2) s fun t => t.acc = 0 ∧ t.rdata = s.reg GDR_CNT ∧ t.reg GDR_CNT = 0 ∧
      ∀ a, a ≠ GDR_CNT → t.reg a = s.reg a) ∧
    Gives (.registerRead m (BitVec.ofNat 32 EVR_IRQ_EN) 2) s fun t => t.acc = 0 ∧ t.rdata = s.reg EVR_IRQ_EN ∧ t.regs = s.regs) ∧
  (∀ (m : Master) (v : Word) (s : State), s.Quiet → Gives (.registerWrite m (BitVec.ofNat 32 ETH_IP) 2 v) s fun t =>
    if s.booted = true ∧ v ≠ s.reg ETH_IP then t.acc = 6 ∧ t.reg ETH_IP = s.reg ETH_IP ∧ t.Recorded 0x0D07 31 ∧
      t.reg (FLT_REC_FEC_ADDR 13) = BitVec.ofNat 32 ETH_IP
    else t.acc = 0 ∧ t.reg ETH_IP = v ∧ t.flt = s.flt) ∧
  (∀ (m k : Master) (n : Fin 4) (s : State), s.Calm 0 → s.poison = [] →
    Gives (.registerRead m (BitVec.ofNat 32 (TIM_TB_NOW_LO n)) 2) s fun t => t.acc = 0 ∧ t.rdata = BitVec.ofNat 32 (s.now n) ∧
      ∀ u : State, u.Calm 0 → u.poison = [] → u.pairCap = t.pairCap →
        Gives (.registerRead k (BitVec.ofNat 32 (TIM_TB_NOW_LO n + 4)) 2) u fun w => w.rdata = BitVec.ofNat 32 (s.now n / 2 ^ 32))

/-! ## The whole machine -/

/-- R333, R340: from every state every command of the table completes, and no event waits for the router and no pulse stands when it has;
a step of the block, idle or not, keeps it so. -/
def Obligations.EveryCommandCompletesSettled : Prop :=
  (∀ (c : Instr) (s : State), Gives c s State.Settled) ∧
  (∀ s : State, s.Settled → ∃ t, step s = .next t ∧ t.Settled)

/-- R1, R340: at reset no event waits, the router routes nothing and guards nothing, no fault is recorded, Crown SRAM lists nothing,
every ring is disabled, and nothing waits in the queue. -/
def Obligations.ResetIsQuiet : Prop :=
  State.reset.Quiet ∧ State.reset.Tame ∧ Memory.wf State.reset.crown = true ∧ State.reset.fld WRP_CTRL 3 0 = 0 ∧
  State.reset.pending = [] ∧ State.reset.spb = true
end

