-- ==== Sys2Proof/Laws/Bits.lean ====
section
/-! SUPPORT. The laws of fields and bits of words: what is read back after a field or a bit has been put. -/

namespace Sys2Proof

theorem nbit_eq (n i : Nat) : nbit n i = n.testBit i := by
  rw [nbit, Nat.testBit_eq_decide_div_mod_eq]

/-- A number in three parts at two places. -/
theorem nput_parts (n lo w v : Nat) :
    n - n / 2 ^ lo % 2 ^ w * 2 ^ lo + v % 2 ^ w * 2 ^ lo
      = (n / 2 ^ lo / 2 ^ w * 2 ^ w + v % 2 ^ w) * 2 ^ lo + n % 2 ^ lo := by
  have h1 := Nat.div_add_mod n (2 ^ lo)
  have h2 := Nat.div_add_mod (n / 2 ^ lo) (2 ^ w)
  set q := n / 2 ^ lo
  set f := q % 2 ^ w
  have h3 : n = (q / 2 ^ w * 2 ^ w + f) * 2 ^ lo + n % 2 ^ lo := by
    calc n = 2 ^ lo * q + n % 2 ^ lo := h1.symm
      _ = (q / 2 ^ w * 2 ^ w + f) * 2 ^ lo + n % 2 ^ lo := by rw [Nat.mul_comm (2 ^ lo) q, ← Nat.mul_comm (2 ^ w), h2]
  have h4 : n - f * 2 ^ lo = q / 2 ^ w * 2 ^ w * 2 ^ lo + n % 2 ^ lo := by
    rw [Nat.add_mul] at h3; omega
  rw [h4, Nat.add_mul]; omega

/-- The bits of a number after a field has been put. -/
theorem nbit_nput (n hi lo v j : Nat) (h : lo ≤ hi) :
    nbit (nput n hi lo v) j = if lo ≤ j ∧ j ≤ hi then nbit v (j - lo) else nbit n j := by
  simp only [nbit_eq, nput, nfld]
  rw [nput_parts, Nat.mul_comm _ (2 ^ lo), Nat.testBit_two_pow_mul_add _ (Nat.mod_lt _ (by positivity)),
    Nat.mul_comm _ (2 ^ (hi + 1 - lo))]
  by_cases h1 : j < lo
  · simp [h1, Nat.testBit_mod_two_pow]
  · simp only [h1, if_false]
    rw [Nat.testBit_two_pow_mul_add _ (Nat.mod_lt _ (by positivity))]
    by_cases h2 : j ≤ hi
    · have : j - lo < hi + 1 - lo := by omega
      simp [this, Nat.testBit_mod_two_pow, h2, Nat.le_of_not_lt h1]
    · have h3 : ¬ j - lo < hi + 1 - lo := by omega
      simp only [h3, if_false, h2, and_false]
      simp [Nat.testBit_div_two_pow]
      congr 1; omega

theorem nput_lt {n : Nat} (hi lo v : Nat) (h : lo ≤ hi) (hh : hi < 32) (hn : n < 2 ^ 32) : nput n hi lo v < 2 ^ 32 := by
  apply Nat.lt_pow_two_of_testBit
  intro j hj
  rw [← nbit_eq, nbit_nput _ _ _ _ _ h]
  have : ¬ (lo ≤ j ∧ j ≤ hi) := by omega
  rw [if_neg this, nbit_eq]
  exact Nat.testBit_lt_two_pow (lt_of_lt_of_le hn (Nat.pow_le_pow_right (by norm_num) hj))

/-- The bits of a word after a field has been put. -/
theorem bit_putFld (w : Word) (hi lo v j : Nat) (h : lo ≤ hi) (hh : hi < 32) :
    bit (putFld w hi lo v) j = if lo ≤ j ∧ j ≤ hi then nbit v (j - lo) else bit w j := by
  unfold bit putFld
  rw [BitVec.toNat_ofNat, Nat.mod_eq_of_lt (nput_lt hi lo v h hh w.isLt), nbit_nput _ _ _ _ _ h]

/-- The bits of a word after a bit has been put. -/
theorem bit_putBit (w : Word) (i j : Nat) (b : Bool) (h : i < 32) :
    bit (putBit w i b) j = if j = i then b else bit w j := by
  unfold putBit
  rw [bit_putFld _ _ _ _ _ (Nat.le_refl i) h]
  by_cases hj : j = i
  · subst hj; cases b <;> simp [b2n, nbit]
  · have : ¬ (i ≤ j ∧ j ≤ i) := by omega
    simp [hj, this]

theorem nfld_testBit (n hi lo j : Nat) : (nfld n hi lo).testBit j = (decide (j < hi + 1 - lo) && n.testBit (j + lo)) := by
  simp only [nfld, Nat.testBit_mod_two_pow, Nat.testBit_div_two_pow]

/-- A field read back. -/
theorem fld_putFld_same (w : Word) (hi lo v : Nat) (h : lo ≤ hi) (hh : hi < 32) :
    fld (putFld w hi lo v) hi lo = v % 2 ^ (hi + 1 - lo) := by
  apply Nat.eq_of_testBit_eq
  intro j
  have hb := bit_putFld w hi lo v (j + lo) h hh
  simp only [bit, nbit_eq] at hb
  rw [fld, nfld_testBit, hb, Nat.testBit_mod_two_pow]
  by_cases hj : j < hi + 1 - lo
  · have : lo ≤ j + lo ∧ j + lo ≤ hi := by omega
    simp [hj, this]
  · simp [hj]

/-- A field elsewhere is unchanged. -/
theorem fld_putFld_other (w : Word) (hi lo v a b : Nat) (h : lo ≤ hi) (hh : hi < 32) (hd : a < lo ∨ hi < b) :
    fld (putFld w hi lo v) a b = fld w a b := by
  apply Nat.eq_of_testBit_eq
  intro j
  have hb := bit_putFld w hi lo v (j + b) h hh
  simp only [bit, nbit_eq] at hb
  rw [fld, fld, nfld_testBit, nfld_testBit, hb]
  by_cases hj : j < a + 1 - b
  · have : ¬ (lo ≤ j + b ∧ j + b ≤ hi) := by omega
    simp [this]
  · simp [hj]

theorem fld_putBit_other (w : Word) (i : Nat) (v : Bool) (a b : Nat) (hh : i < 32) (hd : a < i ∨ i < b) :
    fld (putBit w i v) a b = fld w a b := fld_putFld_other w i i (b2n v) a b (Nat.le_refl i) hh hd

theorem bit_putFld_other (w : Word) (hi lo v j : Nat) (h : lo ≤ hi) (hh : hi < 32) (hd : j < lo ∨ hi < j) :
    bit (putFld w hi lo v) j = bit w j := by
  rw [bit_putFld _ _ _ _ _ h hh, if_neg (by omega)]

/-- A number as a word, and back. -/
@[simp] theorem w32_toNat (n : Nat) : (w32 n).toNat = n % 2 ^ 32 := BitVec.toNat_ofNat n 32
@[simp] theorem lo32_toNat (n : Nat) : (lo32 n).toNat = n % 2 ^ 32 := by simp [lo32]
@[simp] theorem hi32_toNat (n : Nat) : (hi32 n).toNat = n / 2 ^ 32 % 2 ^ 32 := by simp [hi32]

/-- The two halves of a 64-bit number give it back. -/
theorem join64_halves {n : Nat} (h : n < 2 ^ 64) : join64 (lo32 n) (hi32 n) = n := by
  simp only [join64, lo32_toNat, hi32_toNat]; omega

end Sys2Proof
end

