-- ==== Sys2Proof/Laws/Sparse.lean ====
section
/-! SUPPORT. The laws of the sparse store: what is read after a write, and that a write keeps the canonical form. -/

namespace Sys2Proof

variable {α : Type}

theorem Sparse.get_erase_same (d : Nat → α) (m : Sparse α) (k : Nat) : Sparse.get d (Sparse.erase m k) k = d k := by
  induction m with
  | nil => rfl
  | cons p m ih =>
    obtain ⟨k', v⟩ := p
    by_cases h : k' = k <;> simp [Sparse.erase, Sparse.get, h, ih]

theorem Sparse.get_erase_other (d : Nat → α) (m : Sparse α) {k k' : Nat} (h : k' ≠ k) :
    Sparse.get d (Sparse.erase m k) k' = Sparse.get d m k' := by
  induction m with
  | nil => rfl
  | cons p m ih =>
    obtain ⟨a, v⟩ := p
    by_cases ha : a = k
    · subst ha; simp [Sparse.erase, Sparse.get, ih, Ne.symm h]
    · by_cases hb : a = k' <;> simp [Sparse.erase, Sparse.get, ha, hb, ih]
      subst hb; simp [h, Sparse.get]

theorem Sparse.get_insert_same (d : Nat → α) (m : Sparse α) (k : Nat) (v : α) (h : ∀ p ∈ m, p.1 ≠ k) :
    Sparse.get d (Sparse.insert m k v) k = v := by
  induction m with
  | nil => simp [Sparse.insert, Sparse.get]
  | cons p m ih =>
    obtain ⟨a, w⟩ := p
    have ha : a ≠ k := h (a, w) (by simp)
    by_cases hk : k < a
    · simp [Sparse.insert, Sparse.get, hk]
    · simp [Sparse.insert, Sparse.get, hk, ha, ih (fun p hp => h p (by simp [hp]))]

theorem Sparse.get_insert_other (d : Nat → α) (m : Sparse α) {k k' : Nat} (v : α) (h : k' ≠ k) :
    Sparse.get d (Sparse.insert m k v) k' = Sparse.get d m k' := by
  induction m with
  | nil => simp [Sparse.insert, Sparse.get, Ne.symm h]
  | cons p m ih =>
    obtain ⟨a, w⟩ := p
    by_cases hk : k < a <;> simp [Sparse.insert, Sparse.get, hk, Ne.symm h, ih]

theorem Sparse.erase_ne (m : Sparse α) (k : Nat) : ∀ p ∈ Sparse.erase m k, p.1 ≠ k := by
  induction m with
  | nil => simp [Sparse.erase]
  | cons p m ih =>
    obtain ⟨a, w⟩ := p
    by_cases ha : a = k
    · simpa [Sparse.erase, ha] using ih
    · intro q hq
      simp only [Sparse.erase, ha, if_false, List.mem_cons] at hq
      rcases hq with rfl | hq
      · exact ha
      · exact ih q hq

theorem Sparse.above_erase {b : Nat} {m : Sparse α} (k : Nat) (h : Sparse.above b m = true) :
    Sparse.above b (Sparse.erase m k) = true := by
  induction m with
  | nil => rfl
  | cons p m ih =>
    obtain ⟨a, w⟩ := p
    simp only [Sparse.above, Bool.and_eq_true, decide_eq_true_eq] at h
    by_cases ha : a = k
    · simpa [Sparse.erase, ha] using ih h.2
    · simp [Sparse.erase, ha, Sparse.above, h.1, ih h.2]

theorem Sparse.above_insert {b : Nat} {m : Sparse α} {k : Nat} (v : α) (hb : b < k) (h : Sparse.above b m = true) :
    Sparse.above b (Sparse.insert m k v) = true := by
  induction m with
  | nil => simp [Sparse.insert, Sparse.above, hb]
  | cons p m ih =>
    obtain ⟨a, w⟩ := p
    simp only [Sparse.above, Bool.and_eq_true, decide_eq_true_eq] at h
    by_cases hk : k < a
    · simp [Sparse.insert, hk, Sparse.above, hb, h.1, h.2]
    · simp [Sparse.insert, hk, Sparse.above, h.1, ih h.2]

theorem Sparse.above_mono {b c : Nat} {m : Sparse α} (hbc : b ≤ c) (h : Sparse.above c m = true) :
    Sparse.above b m = true := by
  induction m with
  | nil => rfl
  | cons p m ih =>
    obtain ⟨a, w⟩ := p
    simp only [Sparse.above, Bool.and_eq_true, decide_eq_true_eq] at h ⊢
    exact ⟨by omega, ih h.2⟩

variable [DecidableEq α]

/-- A read of the written key gives the value written. -/
@[simp] theorem Sparse.get_set_same (d : Nat → α) (m : Sparse α) (k : Nat) (v : α) :
    Sparse.get d (Sparse.set d m k v) k = v := by
  by_cases hv : v = d k
  · simp only [Sparse.set, hv, if_true]; exact Sparse.get_erase_same d m k
  · simp only [Sparse.set, hv, if_false]; exact Sparse.get_insert_same d _ k v (Sparse.erase_ne m k)

/-- A read of any other key gives what it gave before. -/
theorem Sparse.get_set_other (d : Nat → α) (m : Sparse α) {k k' : Nat} (v : α) (h : k' ≠ k) :
    Sparse.get d (Sparse.set d m k v) k' = Sparse.get d m k' := by
  by_cases hv : v = d k
  · simp only [Sparse.set, hv, if_true]; exact Sparse.get_erase_other d m h
  · simp only [Sparse.set, hv, if_false]
    rw [Sparse.get_insert_other d _ v h, Sparse.get_erase_other d m h]

/-- A read after a write, by cases. -/
theorem Sparse.get_set (d : Nat → α) (m : Sparse α) (k k' : Nat) (v : α) :
    Sparse.get d (Sparse.set d m k v) k' = if k' = k then v else Sparse.get d m k' := by
  by_cases h : k' = k
  · subst h; simp
  · simp [h, Sparse.get_set_other d m v h]

theorem Sparse.wf_erase {d : Nat → α} {m : Sparse α} (k : Nat) (h : Sparse.wf d m = true) :
    Sparse.wf d (Sparse.erase m k) = true := by
  induction m with
  | nil => rfl
  | cons p m ih =>
    obtain ⟨a, w⟩ := p
    simp only [Sparse.wf, Bool.and_eq_true, decide_eq_true_eq] at h
    by_cases ha : a = k
    · simpa [Sparse.erase, ha] using ih h.2
    · simp [Sparse.erase, ha, Sparse.wf, h.1.1, Sparse.above_erase k h.1.2, ih h.2]

theorem Sparse.wf_insert {d : Nat → α} {m : Sparse α} {k : Nat} {v : α} (hv : v ≠ d k) (hk : ∀ p ∈ m, p.1 ≠ k)
    (h : Sparse.wf d m = true) : Sparse.wf d (Sparse.insert m k v) = true := by
  induction m with
  | nil => simp [Sparse.insert, Sparse.wf, Sparse.above, hv]
  | cons p m ih =>
    obtain ⟨a, w⟩ := p
    simp only [Sparse.wf, Bool.and_eq_true, decide_eq_true_eq] at h
    have ha : a ≠ k := hk (a, w) (by simp)
    by_cases hlt : k < a
    · simp [Sparse.insert, hlt, Sparse.wf, Sparse.above, hv, h.1.1, h.1.2, h.2,
        Sparse.above_mono (Nat.le_of_lt hlt) h.1.2]
    · have hak : a < k := by omega
      simp [Sparse.insert, hlt, Sparse.wf, h.1.1, Sparse.above_insert v hak h.1.2,
        ih (fun p hp => hk p (by simp [hp])) h.2]

/-- A write keeps the canonical form. -/
theorem Sparse.wf_set {d : Nat → α} {m : Sparse α} (k : Nat) (v : α) (h : Sparse.wf d m = true) :
    Sparse.wf d (Sparse.set d m k v) = true := by
  by_cases hv : v = d k
  · simp only [Sparse.set, hv, if_true]; exact Sparse.wf_erase k h
  · simp only [Sparse.set, hv, if_false]; exact Sparse.wf_insert hv (Sparse.erase_ne m k) (Sparse.wf_erase k h)

/-- So does a write of several values. -/
theorem Sparse.wf_setList {d : Nat → α} (vs : List α) {m : Sparse α} (k : Nat) (h : Sparse.wf d m = true) :
    Sparse.wf d (Sparse.setList d m k vs) = true := by
  induction vs generalizing m k with
  | nil => exact h
  | cons v vs ih => exact ih (k + 1) (Sparse.wf_set k v h)

/-- A write of several values leaves every key outside them. -/
theorem Sparse.get_setList_other (d : Nat → α) (vs : List α) (m : Sparse α) {k k' : Nat}
    (h : k' < k ∨ k + vs.length ≤ k') : Sparse.get d (Sparse.setList d m k vs) k' = Sparse.get d m k' := by
  induction vs generalizing m k with
  | nil => rfl
  | cons v vs ih =>
    simp only [List.length_cons] at h
    rw [Sparse.setList, ih _ (by omega), Sparse.get_set_other d m v (by omega)]

end Sys2Proof
end

