-- ==== Sys2Proof/Laws/State.lean ====
section
/-! SUPPORT. One lemma per field and update of State: what an update leaves, and what is read back of what it writes. -/

namespace Sys2Proof.Machine

variable (s : State)

/-! ## Derived updates in terms of a register write -/

theorem State.setFld_eq (a hi lo v : Nat) : s.setFld a hi lo v = s.setReg a (putFld (s.reg a) hi lo v) := (rfl)
theorem State.setBit_eq (a i : Nat) (b : Bool) : s.setBit a i b = s.setReg a (putBit (s.reg a) i b) := (rfl)
theorem State.orReg_eq (a m : Nat) : s.orReg a m = s.setReg a (BitVec.ofNat 32 (Nat.lor (s.reg a).toNat m)) := (rfl)
theorem State.clrReg_eq (a m : Nat) :
    s.clrReg a m = s.setReg a (BitVec.ofNat 32 ((s.reg a).toNat - Nat.land (s.reg a).toNat m)) := (rfl)
theorem State.setPair_eq (a v : Nat) : s.setPair a v = (s.setReg a (lo32 v)).setReg (a + 4) (hi32 v) := (rfl)

/-! ## What is read back -/

/-- A register after a write of a register. -/
theorem State.reg_setReg (a b : Nat) (v : Word) : (s.setReg a v).reg b = if b = a then v else s.reg b :=
  Sparse.get_set regReset s.regs a b v
@[simp] theorem State.reg_setReg_same (a : Nat) (v : Word) : (s.setReg a v).reg a = v := Sparse.get_set_same _ _ _ _
theorem State.reg_setReg_other {a b : Nat} (v : Word) (h : b ≠ a) : (s.setReg a v).reg b = s.reg b :=
  Sparse.get_set_other _ _ v h
@[simp] theorem State.tb_setTb_same (n : Nat) (x : TimeBase) : (s.setTb n x).tb n = x := Sparse.get_set_same _ _ _ _
theorem State.tb_setTb (n k : Nat) (x : TimeBase) : (s.setTb n x).tb k = if k = n then x else s.tb k :=
  Sparse.get_set _ _ _ _ _
@[simp] theorem State.eng_setEng_same (e : Nat) (x : Engine) : (s.setEng e x).eng e = x := Sparse.get_set_same _ _ _ _
theorem State.eng_setEng (e k : Nat) (x : Engine) : (s.setEng e x).eng k = if k = e then x else s.eng k :=
  Sparse.get_set _ _ _ _ _
@[simp] theorem State.ring_setRing_same (r : Nat) (x : Ring) : (s.setRing r x).ring r = x := Sparse.get_set_same _ _ _ _
theorem State.ring_setRing (r k : Nat) (x : Ring) : (s.setRing r x).ring k = if k = r then x else s.ring k :=
  Sparse.get_set _ _ _ _ _
@[simp] theorem State.cmp_setCmp_same (c : Nat) (x : CmpUnit) : (s.setCmp c x).cmp c = x := Sparse.get_set_same _ _ _ _
@[simp] theorem State.gch_setGch_same (c : Nat) (x : GateCh) : (s.setGch c x).gch c = x := Sparse.get_set_same _ _ _ _
theorem State.gch_setGch (c k : Nat) (x : GateCh) : (s.setGch c x).gch k = if k = c then x else s.gch k :=
  Sparse.get_set _ _ _ _ _
@[simp] theorem State.can_setCan_same (c : Nat) (x : CanUnit) : (s.setCan c x).can c = x := Sparse.get_set_same _ _ _ _
@[simp] theorem State.cw_setCw_same (a : Nat) (v : Word) : (s.setCw a v).cw a = v := Sparse.get_set_same _ _ _ _
@[simp] theorem State.node_setNode_same (r p : Nat) (x : Node) : (s.setNode r p x).node r p = x :=
  Sparse.get_set_same _ _ _ _
@[simp] theorem State.out_emit (o : Output) : (s.emit o).out = o :: s.out := (rfl)
@[simp] theorem State.freeCtr_tickFree : s.tickFree.freeCtr = s.freeCtr + 1 := (rfl)
@[simp] theorem State.tim_withTim (x : TimUnit) : (s.withTim x).tim = x := (rfl)
@[simp] theorem State.flt_withFlt (x : FltUnit) : (s.withFlt x).flt = x := (rfl)
@[simp] theorem State.jnl_withJnl (x : JnlUnit) : (s.withJnl x).jnl = x := (rfl)
@[simp] theorem State.saf_withSaf (x : Safety) : (s.withSaf x).saf = x := (rfl)
@[simp] theorem State.evr_withEvr (x : Router) : (s.withEvr x).evr = x := (rfl)
@[simp] theorem State.cap_withCap (x : CapUnit) : (s.withCap x).cap = x := (rfl)
@[simp] theorem State.gft_withGft (x : Graft) : (s.withGft x).gft = x := (rfl)
@[simp] theorem State.sap_withSap (x : SapUnit) : (s.withSap x).sap = x := (rfl)
@[simp] theorem State.acc_ended (st : Nat) : (s.ended st).acc = st := (rfl)

/-! ## Nothing else changes -/

@[simp] theorem State.setReg_pending (a : Nat) (v : Word) : (s.setReg a v).pending = s.pending := (rfl)
@[simp] theorem State.setReg_out (a : Nat) (v : Word) : (s.setReg a v).out = s.out := (rfl)
@[simp] theorem State.setReg_freeCtr (a : Nat) (v : Word) : (s.setReg a v).freeCtr = s.freeCtr := (rfl)
@[simp] theorem State.setReg_pairCap (a : Nat) (v : Word) : (s.setReg a v).pairCap = s.pairCap := (rfl)
@[simp] theorem State.setReg_pairHeld (a : Nat) (v : Word) : (s.setReg a v).pairHeld = s.pairHeld := (rfl)
@[simp] theorem State.setReg_crown (a : Nat) (v : Word) : (s.setReg a v).crown = s.crown := (rfl)
@[simp] theorem State.setReg_poison (a : Nat) (v : Word) : (s.setReg a v).poison = s.poison := (rfl)
@[simp] theorem State.setReg_dirty (a : Nat) (v : Word) : (s.setReg a v).dirty = s.dirty := (rfl)
@[simp] theorem State.setReg_cyc (a : Nat) (v : Word) : (s.setReg a v).cyc = s.cyc := (rfl)
@[simp] theorem State.setReg_tbs (a : Nat) (v : Word) : (s.setReg a v).tbs = s.tbs := (rfl)
@[simp] theorem State.setReg_tim (a : Nat) (v : Word) : (s.setReg a v).tim = s.tim := (rfl)
@[simp] theorem State.setReg_flt (a : Nat) (v : Word) : (s.setReg a v).flt = s.flt := (rfl)
@[simp] theorem State.setReg_jnl (a : Nat) (v : Word) : (s.setReg a v).jnl = s.jnl := (rfl)
@[simp] theorem State.setReg_saf (a : Nat) (v : Word) : (s.setReg a v).saf = s.saf := (rfl)
@[simp] theorem State.setReg_evr (a : Nat) (v : Word) : (s.setReg a v).evr = s.evr := (rfl)
@[simp] theorem State.setReg_cmps (a : Nat) (v : Word) : (s.setReg a v).cmps = s.cmps := (rfl)
@[simp] theorem State.setReg_canMem (a : Nat) (v : Word) : (s.setReg a v).canMem = s.canMem := (rfl)
@[simp] theorem State.setReg_cans (a : Nat) (v : Word) : (s.setReg a v).cans = s.cans := (rfl)
@[simp] theorem State.setReg_gate (a : Nat) (v : Word) : (s.setReg a v).gate = s.gate := (rfl)
@[simp] theorem State.setReg_sap (a : Nat) (v : Word) : (s.setReg a v).sap = s.sap := (rfl)
@[simp] theorem State.setReg_rings (a : Nat) (v : Word) : (s.setReg a v).rings = s.rings := (rfl)
@[simp] theorem State.setReg_nodes (a : Nat) (v : Word) : (s.setReg a v).nodes = s.nodes := (rfl)
@[simp] theorem State.setReg_engines (a : Nat) (v : Word) : (s.setReg a v).engines = s.engines := (rfl)
@[simp] theorem State.setReg_wvr (a : Nat) (v : Word) : (s.setReg a v).wvr = s.wvr := (rfl)
@[simp] theorem State.setReg_cap (a : Nat) (v : Word) : (s.setReg a v).cap = s.cap := (rfl)
@[simp] theorem State.setReg_gft (a : Nat) (v : Word) : (s.setReg a v).gft = s.gft := (rfl)
@[simp] theorem State.setReg_eth (a : Nat) (v : Word) : (s.setReg a v).eth = s.eth := (rfl)
@[simp] theorem State.setReg_seed (a : Nat) (v : Word) : (s.setReg a v).seed = s.seed := (rfl)
@[simp] theorem State.setReg_lines (a : Nat) (v : Word) : (s.setReg a v).lines = s.lines := (rfl)
@[simp] theorem State.setReg_xst (a : Nat) (v : Word) : (s.setReg a v).xst = s.xst := (rfl)
@[simp] theorem State.setReg_therm (a : Nat) (v : Word) : (s.setReg a v).therm = s.therm := (rfl)
@[simp] theorem State.setReg_acc (a : Nat) (v : Word) : (s.setReg a v).acc = s.acc := (rfl)
@[simp] theorem State.setReg_rdata (a : Nat) (v : Word) : (s.setReg a v).rdata = s.rdata := (rfl)

@[simp] theorem State.emit_pending (o : Output) : (s.emit o).pending = s.pending := (rfl)
@[simp] theorem State.emit_freeCtr (o : Output) : (s.emit o).freeCtr = s.freeCtr := (rfl)
@[simp] theorem State.emit_regs (o : Output) : (s.emit o).regs = s.regs := (rfl)
@[simp] theorem State.emit_pairCap (o : Output) : (s.emit o).pairCap = s.pairCap := (rfl)
@[simp] theorem State.emit_pairHeld (o : Output) : (s.emit o).pairHeld = s.pairHeld := (rfl)
@[simp] theorem State.emit_crown (o : Output) : (s.emit o).crown = s.crown := (rfl)
@[simp] theorem State.emit_poison (o : Output) : (s.emit o).poison = s.poison := (rfl)
@[simp] theorem State.emit_dirty (o : Output) : (s.emit o).dirty = s.dirty := (rfl)
@[simp] theorem State.emit_cyc (o : Output) : (s.emit o).cyc = s.cyc := (rfl)
@[simp] theorem State.emit_tbs (o : Output) : (s.emit o).tbs = s.tbs := (rfl)
@[simp] theorem State.emit_tim (o : Output) : (s.emit o).tim = s.tim := (rfl)
@[simp] theorem State.emit_flt (o : Output) : (s.emit o).flt = s.flt := (rfl)
@[simp] theorem State.emit_jnl (o : Output) : (s.emit o).jnl = s.jnl := (rfl)
@[simp] theorem State.emit_saf (o : Output) : (s.emit o).saf = s.saf := (rfl)
@[simp] theorem State.emit_evr (o : Output) : (s.emit o).evr = s.evr := (rfl)
@[simp] theorem State.emit_cmps (o : Output) : (s.emit o).cmps = s.cmps := (rfl)
@[simp] theorem State.emit_canMem (o : Output) : (s.emit o).canMem = s.canMem := (rfl)
@[simp] theorem State.emit_cans (o : Output) : (s.emit o).cans = s.cans := (rfl)
@[simp] theorem State.emit_gate (o : Output) : (s.emit o).gate = s.gate := (rfl)
@[simp] theorem State.emit_sap (o : Output) : (s.emit o).sap = s.sap := (rfl)
@[simp] theorem State.emit_rings (o : Output) : (s.emit o).rings = s.rings := (rfl)
@[simp] theorem State.emit_nodes (o : Output) : (s.emit o).nodes = s.nodes := (rfl)
@[simp] theorem State.emit_engines (o : Output) : (s.emit o).engines = s.engines := (rfl)
@[simp] theorem State.emit_wvr (o : Output) : (s.emit o).wvr = s.wvr := (rfl)
@[simp] theorem State.emit_cap (o : Output) : (s.emit o).cap = s.cap := (rfl)
@[simp] theorem State.emit_gft (o : Output) : (s.emit o).gft = s.gft := (rfl)
@[simp] theorem State.emit_eth (o : Output) : (s.emit o).eth = s.eth := (rfl)
@[simp] theorem State.emit_seed (o : Output) : (s.emit o).seed = s.seed := (rfl)
@[simp] theorem State.emit_lines (o : Output) : (s.emit o).lines = s.lines := (rfl)
@[simp] theorem State.emit_xst (o : Output) : (s.emit o).xst = s.xst := (rfl)
@[simp] theorem State.emit_therm (o : Output) : (s.emit o).therm = s.therm := (rfl)
@[simp] theorem State.emit_acc (o : Output) : (s.emit o).acc = s.acc := (rfl)
@[simp] theorem State.emit_rdata (o : Output) : (s.emit o).rdata = s.rdata := (rfl)

@[simp] theorem State.tickFree_pending : s.tickFree.pending = s.pending := (rfl)
@[simp] theorem State.tickFree_out : s.tickFree.out = s.out := (rfl)
@[simp] theorem State.tickFree_regs : s.tickFree.regs = s.regs := (rfl)
@[simp] theorem State.tickFree_pairCap : s.tickFree.pairCap = s.pairCap := (rfl)
@[simp] theorem State.tickFree_pairHeld : s.tickFree.pairHeld = s.pairHeld := (rfl)
@[simp] theorem State.tickFree_crown : s.tickFree.crown = s.crown := (rfl)
@[simp] theorem State.tickFree_poison : s.tickFree.poison = s.poison := (rfl)
@[simp] theorem State.tickFree_dirty : s.tickFree.dirty = s.dirty := (rfl)
@[simp] theorem State.tickFree_cyc : s.tickFree.cyc = s.cyc := (rfl)
@[simp] theorem State.tickFree_tbs : s.tickFree.tbs = s.tbs := (rfl)
@[simp] theorem State.tickFree_tim : s.tickFree.tim = s.tim := (rfl)
@[simp] theorem State.tickFree_flt : s.tickFree.flt = s.flt := (rfl)
@[simp] theorem State.tickFree_jnl : s.tickFree.jnl = s.jnl := (rfl)
@[simp] theorem State.tickFree_saf : s.tickFree.saf = s.saf := (rfl)
@[simp] theorem State.tickFree_evr : s.tickFree.evr = s.evr := (rfl)
@[simp] theorem State.tickFree_cmps : s.tickFree.cmps = s.cmps := (rfl)
@[simp] theorem State.tickFree_canMem : s.tickFree.canMem = s.canMem := (rfl)
@[simp] theorem State.tickFree_cans : s.tickFree.cans = s.cans := (rfl)
@[simp] theorem State.tickFree_gate : s.tickFree.gate = s.gate := (rfl)
@[simp] theorem State.tickFree_sap : s.tickFree.sap = s.sap := (rfl)
@[simp] theorem State.tickFree_rings : s.tickFree.rings = s.rings := (rfl)
@[simp] theorem State.tickFree_nodes : s.tickFree.nodes = s.nodes := (rfl)
@[simp] theorem State.tickFree_engines : s.tickFree.engines = s.engines := (rfl)
@[simp] theorem State.tickFree_wvr : s.tickFree.wvr = s.wvr := (rfl)
@[simp] theorem State.tickFree_cap : s.tickFree.cap = s.cap := (rfl)
@[simp] theorem State.tickFree_gft : s.tickFree.gft = s.gft := (rfl)
@[simp] theorem State.tickFree_eth : s.tickFree.eth = s.eth := (rfl)
@[simp] theorem State.tickFree_seed : s.tickFree.seed = s.seed := (rfl)
@[simp] theorem State.tickFree_lines : s.tickFree.lines = s.lines := (rfl)
@[simp] theorem State.tickFree_xst : s.tickFree.xst = s.xst := (rfl)
@[simp] theorem State.tickFree_therm : s.tickFree.therm = s.therm := (rfl)
@[simp] theorem State.tickFree_acc : s.tickFree.acc = s.acc := (rfl)
@[simp] theorem State.tickFree_rdata : s.tickFree.rdata = s.rdata := (rfl)

@[simp] theorem State.setTb_pending (n : Nat) (x : TimeBase) : (s.setTb n x).pending = s.pending := (rfl)
@[simp] theorem State.setTb_out (n : Nat) (x : TimeBase) : (s.setTb n x).out = s.out := (rfl)
@[simp] theorem State.setTb_freeCtr (n : Nat) (x : TimeBase) : (s.setTb n x).freeCtr = s.freeCtr := (rfl)
@[simp] theorem State.setTb_regs (n : Nat) (x : TimeBase) : (s.setTb n x).regs = s.regs := (rfl)
@[simp] theorem State.setTb_pairCap (n : Nat) (x : TimeBase) : (s.setTb n x).pairCap = s.pairCap := (rfl)
@[simp] theorem State.setTb_pairHeld (n : Nat) (x : TimeBase) : (s.setTb n x).pairHeld = s.pairHeld := (rfl)
@[simp] theorem State.setTb_crown (n : Nat) (x : TimeBase) : (s.setTb n x).crown = s.crown := (rfl)
@[simp] theorem State.setTb_poison (n : Nat) (x : TimeBase) : (s.setTb n x).poison = s.poison := (rfl)
@[simp] theorem State.setTb_dirty (n : Nat) (x : TimeBase) : (s.setTb n x).dirty = s.dirty := (rfl)
@[simp] theorem State.setTb_cyc (n : Nat) (x : TimeBase) : (s.setTb n x).cyc = s.cyc := (rfl)
@[simp] theorem State.setTb_tim (n : Nat) (x : TimeBase) : (s.setTb n x).tim = s.tim := (rfl)
@[simp] theorem State.setTb_flt (n : Nat) (x : TimeBase) : (s.setTb n x).flt = s.flt := (rfl)
@[simp] theorem State.setTb_jnl (n : Nat) (x : TimeBase) : (s.setTb n x).jnl = s.jnl := (rfl)
@[simp] theorem State.setTb_saf (n : Nat) (x : TimeBase) : (s.setTb n x).saf = s.saf := (rfl)
@[simp] theorem State.setTb_evr (n : Nat) (x : TimeBase) : (s.setTb n x).evr = s.evr := (rfl)
@[simp] theorem State.setTb_cmps (n : Nat) (x : TimeBase) : (s.setTb n x).cmps = s.cmps := (rfl)
@[simp] theorem State.setTb_canMem (n : Nat) (x : TimeBase) : (s.setTb n x).canMem = s.canMem := (rfl)
@[simp] theorem State.setTb_cans (n : Nat) (x : TimeBase) : (s.setTb n x).cans = s.cans := (rfl)
@[simp] theorem State.setTb_gate (n : Nat) (x : TimeBase) : (s.setTb n x).gate = s.gate := (rfl)
@[simp] theorem State.setTb_sap (n : Nat) (x : TimeBase) : (s.setTb n x).sap = s.sap := (rfl)
@[simp] theorem State.setTb_rings (n : Nat) (x : TimeBase) : (s.setTb n x).rings = s.rings := (rfl)
@[simp] theorem State.setTb_nodes (n : Nat) (x : TimeBase) : (s.setTb n x).nodes = s.nodes := (rfl)
@[simp] theorem State.setTb_engines (n : Nat) (x : TimeBase) : (s.setTb n x).engines = s.engines := (rfl)
@[simp] theorem State.setTb_wvr (n : Nat) (x : TimeBase) : (s.setTb n x).wvr = s.wvr := (rfl)
@[simp] theorem State.setTb_cap (n : Nat) (x : TimeBase) : (s.setTb n x).cap = s.cap := (rfl)
@[simp] theorem State.setTb_gft (n : Nat) (x : TimeBase) : (s.setTb n x).gft = s.gft := (rfl)
@[simp] theorem State.setTb_eth (n : Nat) (x : TimeBase) : (s.setTb n x).eth = s.eth := (rfl)
@[simp] theorem State.setTb_seed (n : Nat) (x : TimeBase) : (s.setTb n x).seed = s.seed := (rfl)
@[simp] theorem State.setTb_lines (n : Nat) (x : TimeBase) : (s.setTb n x).lines = s.lines := (rfl)
@[simp] theorem State.setTb_xst (n : Nat) (x : TimeBase) : (s.setTb n x).xst = s.xst := (rfl)
@[simp] theorem State.setTb_therm (n : Nat) (x : TimeBase) : (s.setTb n x).therm = s.therm := (rfl)
@[simp] theorem State.setTb_acc (n : Nat) (x : TimeBase) : (s.setTb n x).acc = s.acc := (rfl)
@[simp] theorem State.setTb_rdata (n : Nat) (x : TimeBase) : (s.setTb n x).rdata = s.rdata := (rfl)

@[simp] theorem State.setEng_pending (e : Nat) (x : Engine) : (s.setEng e x).pending = s.pending := (rfl)
@[simp] theorem State.setEng_out (e : Nat) (x : Engine) : (s.setEng e x).out = s.out := (rfl)
@[simp] theorem State.setEng_freeCtr (e : Nat) (x : Engine) : (s.setEng e x).freeCtr = s.freeCtr := (rfl)
@[simp] theorem State.setEng_regs (e : Nat) (x : Engine) : (s.setEng e x).regs = s.regs := (rfl)
@[simp] theorem State.setEng_pairCap (e : Nat) (x : Engine) : (s.setEng e x).pairCap = s.pairCap := (rfl)
@[simp] theorem State.setEng_pairHeld (e : Nat) (x : Engine) : (s.setEng e x).pairHeld = s.pairHeld := (rfl)
@[simp] theorem State.setEng_crown (e : Nat) (x : Engine) : (s.setEng e x).crown = s.crown := (rfl)
@[simp] theorem State.setEng_poison (e : Nat) (x : Engine) : (s.setEng e x).poison = s.poison := (rfl)
@[simp] theorem State.setEng_dirty (e : Nat) (x : Engine) : (s.setEng e x).dirty = s.dirty := (rfl)
@[simp] theorem State.setEng_cyc (e : Nat) (x : Engine) : (s.setEng e x).cyc = s.cyc := (rfl)
@[simp] theorem State.setEng_tbs (e : Nat) (x : Engine) : (s.setEng e x).tbs = s.tbs := (rfl)
@[simp] theorem State.setEng_tim (e : Nat) (x : Engine) : (s.setEng e x).tim = s.tim := (rfl)
@[simp] theorem State.setEng_flt (e : Nat) (x : Engine) : (s.setEng e x).flt = s.flt := (rfl)
@[simp] theorem State.setEng_jnl (e : Nat) (x : Engine) : (s.setEng e x).jnl = s.jnl := (rfl)
@[simp] theorem State.setEng_saf (e : Nat) (x : Engine) : (s.setEng e x).saf = s.saf := (rfl)
@[simp] theorem State.setEng_evr (e : Nat) (x : Engine) : (s.setEng e x).evr = s.evr := (rfl)
@[simp] theorem State.setEng_cmps (e : Nat) (x : Engine) : (s.setEng e x).cmps = s.cmps := (rfl)
@[simp] theorem State.setEng_canMem (e : Nat) (x : Engine) : (s.setEng e x).canMem = s.canMem := (rfl)
@[simp] theorem State.setEng_cans (e : Nat) (x : Engine) : (s.setEng e x).cans = s.cans := (rfl)
@[simp] theorem State.setEng_gate (e : Nat) (x : Engine) : (s.setEng e x).gate = s.gate := (rfl)
@[simp] theorem State.setEng_sap (e : Nat) (x : Engine) : (s.setEng e x).sap = s.sap := (rfl)
@[simp] theorem State.setEng_rings (e : Nat) (x : Engine) : (s.setEng e x).rings = s.rings := (rfl)
@[simp] theorem State.setEng_nodes (e : Nat) (x : Engine) : (s.setEng e x).nodes = s.nodes := (rfl)
@[simp] theorem State.setEng_wvr (e : Nat) (x : Engine) : (s.setEng e x).wvr = s.wvr := (rfl)
@[simp] theorem State.setEng_cap (e : Nat) (x : Engine) : (s.setEng e x).cap = s.cap := (rfl)
@[simp] theorem State.setEng_gft (e : Nat) (x : Engine) : (s.setEng e x).gft = s.gft := (rfl)
@[simp] theorem State.setEng_eth (e : Nat) (x : Engine) : (s.setEng e x).eth = s.eth := (rfl)
@[simp] theorem State.setEng_seed (e : Nat) (x : Engine) : (s.setEng e x).seed = s.seed := (rfl)
@[simp] theorem State.setEng_lines (e : Nat) (x : Engine) : (s.setEng e x).lines = s.lines := (rfl)
@[simp] theorem State.setEng_xst (e : Nat) (x : Engine) : (s.setEng e x).xst = s.xst := (rfl)
@[simp] theorem State.setEng_therm (e : Nat) (x : Engine) : (s.setEng e x).therm = s.therm := (rfl)
@[simp] theorem State.setEng_acc (e : Nat) (x : Engine) : (s.setEng e x).acc = s.acc := (rfl)
@[simp] theorem State.setEng_rdata (e : Nat) (x : Engine) : (s.setEng e x).rdata = s.rdata := (rfl)

@[simp] theorem State.setNode_pending (r p : Nat) (x : Node) : (s.setNode r p x).pending = s.pending := (rfl)
@[simp] theorem State.setNode_out (r p : Nat) (x : Node) : (s.setNode r p x).out = s.out := (rfl)
@[simp] theorem State.setNode_freeCtr (r p : Nat) (x : Node) : (s.setNode r p x).freeCtr = s.freeCtr := (rfl)
@[simp] theorem State.setNode_regs (r p : Nat) (x : Node) : (s.setNode r p x).regs = s.regs := (rfl)
@[simp] theorem State.setNode_pairCap (r p : Nat) (x : Node) : (s.setNode r p x).pairCap = s.pairCap := (rfl)
@[simp] theorem State.setNode_pairHeld (r p : Nat) (x : Node) : (s.setNode r p x).pairHeld = s.pairHeld := (rfl)
@[simp] theorem State.setNode_crown (r p : Nat) (x : Node) : (s.setNode r p x).crown = s.crown := (rfl)
@[simp] theorem State.setNode_poison (r p : Nat) (x : Node) : (s.setNode r p x).poison = s.poison := (rfl)
@[simp] theorem State.setNode_dirty (r p : Nat) (x : Node) : (s.setNode r p x).dirty = s.dirty := (rfl)
@[simp] theorem State.setNode_cyc (r p : Nat) (x : Node) : (s.setNode r p x).cyc = s.cyc := (rfl)
@[simp] theorem State.setNode_tbs (r p : Nat) (x : Node) : (s.setNode r p x).tbs = s.tbs := (rfl)
@[simp] theorem State.setNode_tim (r p : Nat) (x : Node) : (s.setNode r p x).tim = s.tim := (rfl)
@[simp] theorem State.setNode_flt (r p : Nat) (x : Node) : (s.setNode r p x).flt = s.flt := (rfl)
@[simp] theorem State.setNode_jnl (r p : Nat) (x : Node) : (s.setNode r p x).jnl = s.jnl := (rfl)
@[simp] theorem State.setNode_saf (r p : Nat) (x : Node) : (s.setNode r p x).saf = s.saf := (rfl)
@[simp] theorem State.setNode_evr (r p : Nat) (x : Node) : (s.setNode r p x).evr = s.evr := (rfl)
@[simp] theorem State.setNode_cmps (r p : Nat) (x : Node) : (s.setNode r p x).cmps = s.cmps := (rfl)
@[simp] theorem State.setNode_canMem (r p : Nat) (x : Node) : (s.setNode r p x).canMem = s.canMem := (rfl)
@[simp] theorem State.setNode_cans (r p : Nat) (x : Node) : (s.setNode r p x).cans = s.cans := (rfl)
@[simp] theorem State.setNode_gate (r p : Nat) (x : Node) : (s.setNode r p x).gate = s.gate := (rfl)
@[simp] theorem State.setNode_sap (r p : Nat) (x : Node) : (s.setNode r p x).sap = s.sap := (rfl)
@[simp] theorem State.setNode_rings (r p : Nat) (x : Node) : (s.setNode r p x).rings = s.rings := (rfl)
@[simp] theorem State.setNode_engines (r p : Nat) (x : Node) : (s.setNode r p x).engines = s.engines := (rfl)
@[simp] theorem State.setNode_wvr (r p : Nat) (x : Node) : (s.setNode r p x).wvr = s.wvr := (rfl)
@[simp] theorem State.setNode_cap (r p : Nat) (x : Node) : (s.setNode r p x).cap = s.cap := (rfl)
@[simp] theorem State.setNode_gft (r p : Nat) (x : Node) : (s.setNode r p x).gft = s.gft := (rfl)
@[simp] theorem State.setNode_eth (r p : Nat) (x : Node) : (s.setNode r p x).eth = s.eth := (rfl)
@[simp] theorem State.setNode_seed (r p : Nat) (x : Node) : (s.setNode r p x).seed = s.seed := (rfl)
@[simp] theorem State.setNode_lines (r p : Nat) (x : Node) : (s.setNode r p x).lines = s.lines := (rfl)
@[simp] theorem State.setNode_xst (r p : Nat) (x : Node) : (s.setNode r p x).xst = s.xst := (rfl)
@[simp] theorem State.setNode_therm (r p : Nat) (x : Node) : (s.setNode r p x).therm = s.therm := (rfl)
@[simp] theorem State.setNode_acc (r p : Nat) (x : Node) : (s.setNode r p x).acc = s.acc := (rfl)
@[simp] theorem State.setNode_rdata (r p : Nat) (x : Node) : (s.setNode r p x).rdata = s.rdata := (rfl)

@[simp] theorem State.setRing_pending (r : Nat) (x : Ring) : (s.setRing r x).pending = s.pending := (rfl)
@[simp] theorem State.setRing_out (r : Nat) (x : Ring) : (s.setRing r x).out = s.out := (rfl)
@[simp] theorem State.setRing_freeCtr (r : Nat) (x : Ring) : (s.setRing r x).freeCtr = s.freeCtr := (rfl)
@[simp] theorem State.setRing_regs (r : Nat) (x : Ring) : (s.setRing r x).regs = s.regs := (rfl)
@[simp] theorem State.setRing_pairCap (r : Nat) (x : Ring) : (s.setRing r x).pairCap = s.pairCap := (rfl)
@[simp] theorem State.setRing_pairHeld (r : Nat) (x : Ring) : (s.setRing r x).pairHeld = s.pairHeld := (rfl)
@[simp] theorem State.setRing_crown (r : Nat) (x : Ring) : (s.setRing r x).crown = s.crown := (rfl)
@[simp] theorem State.setRing_poison (r : Nat) (x : Ring) : (s.setRing r x).poison = s.poison := (rfl)
@[simp] theorem State.setRing_dirty (r : Nat) (x : Ring) : (s.setRing r x).dirty = s.dirty := (rfl)
@[simp] theorem State.setRing_cyc (r : Nat) (x : Ring) : (s.setRing r x).cyc = s.cyc := (rfl)
@[simp] theorem State.setRing_tbs (r : Nat) (x : Ring) : (s.setRing r x).tbs = s.tbs := (rfl)
@[simp] theorem State.setRing_tim (r : Nat) (x : Ring) : (s.setRing r x).tim = s.tim := (rfl)
@[simp] theorem State.setRing_flt (r : Nat) (x : Ring) : (s.setRing r x).flt = s.flt := (rfl)
@[simp] theorem State.setRing_jnl (r : Nat) (x : Ring) : (s.setRing r x).jnl = s.jnl := (rfl)
@[simp] theorem State.setRing_saf (r : Nat) (x : Ring) : (s.setRing r x).saf = s.saf := (rfl)
@[simp] theorem State.setRing_evr (r : Nat) (x : Ring) : (s.setRing r x).evr = s.evr := (rfl)
@[simp] theorem State.setRing_cmps (r : Nat) (x : Ring) : (s.setRing r x).cmps = s.cmps := (rfl)
@[simp] theorem State.setRing_canMem (r : Nat) (x : Ring) : (s.setRing r x).canMem = s.canMem := (rfl)
@[simp] theorem State.setRing_cans (r : Nat) (x : Ring) : (s.setRing r x).cans = s.cans := (rfl)
@[simp] theorem State.setRing_gate (r : Nat) (x : Ring) : (s.setRing r x).gate = s.gate := (rfl)
@[simp] theorem State.setRing_sap (r : Nat) (x : Ring) : (s.setRing r x).sap = s.sap := (rfl)
@[simp] theorem State.setRing_nodes (r : Nat) (x : Ring) : (s.setRing r x).nodes = s.nodes := (rfl)
@[simp] theorem State.setRing_engines (r : Nat) (x : Ring) : (s.setRing r x).engines = s.engines := (rfl)
@[simp] theorem State.setRing_wvr (r : Nat) (x : Ring) : (s.setRing r x).wvr = s.wvr := (rfl)
@[simp] theorem State.setRing_cap (r : Nat) (x : Ring) : (s.setRing r x).cap = s.cap := (rfl)
@[simp] theorem State.setRing_gft (r : Nat) (x : Ring) : (s.setRing r x).gft = s.gft := (rfl)
@[simp] theorem State.setRing_eth (r : Nat) (x : Ring) : (s.setRing r x).eth = s.eth := (rfl)
@[simp] theorem State.setRing_seed (r : Nat) (x : Ring) : (s.setRing r x).seed = s.seed := (rfl)
@[simp] theorem State.setRing_lines (r : Nat) (x : Ring) : (s.setRing r x).lines = s.lines := (rfl)
@[simp] theorem State.setRing_xst (r : Nat) (x : Ring) : (s.setRing r x).xst = s.xst := (rfl)
@[simp] theorem State.setRing_therm (r : Nat) (x : Ring) : (s.setRing r x).therm = s.therm := (rfl)
@[simp] theorem State.setRing_acc (r : Nat) (x : Ring) : (s.setRing r x).acc = s.acc := (rfl)
@[simp] theorem State.setRing_rdata (r : Nat) (x : Ring) : (s.setRing r x).rdata = s.rdata := (rfl)

@[simp] theorem State.setCmp_pending (c : Nat) (x : CmpUnit) : (s.setCmp c x).pending = s.pending := (rfl)
@[simp] theorem State.setCmp_out (c : Nat) (x : CmpUnit) : (s.setCmp c x).out = s.out := (rfl)
@[simp] theorem State.setCmp_freeCtr (c : Nat) (x : CmpUnit) : (s.setCmp c x).freeCtr = s.freeCtr := (rfl)
@[simp] theorem State.setCmp_regs (c : Nat) (x : CmpUnit) : (s.setCmp c x).regs = s.regs := (rfl)
@[simp] theorem State.setCmp_pairCap (c : Nat) (x : CmpUnit) : (s.setCmp c x).pairCap = s.pairCap := (rfl)
@[simp] theorem State.setCmp_pairHeld (c : Nat) (x : CmpUnit) : (s.setCmp c x).pairHeld = s.pairHeld := (rfl)
@[simp] theorem State.setCmp_crown (c : Nat) (x : CmpUnit) : (s.setCmp c x).crown = s.crown := (rfl)
@[simp] theorem State.setCmp_poison (c : Nat) (x : CmpUnit) : (s.setCmp c x).poison = s.poison := (rfl)
@[simp] theorem State.setCmp_dirty (c : Nat) (x : CmpUnit) : (s.setCmp c x).dirty = s.dirty := (rfl)
@[simp] theorem State.setCmp_cyc (c : Nat) (x : CmpUnit) : (s.setCmp c x).cyc = s.cyc := (rfl)
@[simp] theorem State.setCmp_tbs (c : Nat) (x : CmpUnit) : (s.setCmp c x).tbs = s.tbs := (rfl)
@[simp] theorem State.setCmp_tim (c : Nat) (x : CmpUnit) : (s.setCmp c x).tim = s.tim := (rfl)
@[simp] theorem State.setCmp_flt (c : Nat) (x : CmpUnit) : (s.setCmp c x).flt = s.flt := (rfl)
@[simp] theorem State.setCmp_jnl (c : Nat) (x : CmpUnit) : (s.setCmp c x).jnl = s.jnl := (rfl)
@[simp] theorem State.setCmp_saf (c : Nat) (x : CmpUnit) : (s.setCmp c x).saf = s.saf := (rfl)
@[simp] theorem State.setCmp_evr (c : Nat) (x : CmpUnit) : (s.setCmp c x).evr = s.evr := (rfl)
@[simp] theorem State.setCmp_canMem (c : Nat) (x : CmpUnit) : (s.setCmp c x).canMem = s.canMem := (rfl)
@[simp] theorem State.setCmp_cans (c : Nat) (x : CmpUnit) : (s.setCmp c x).cans = s.cans := (rfl)
@[simp] theorem State.setCmp_gate (c : Nat) (x : CmpUnit) : (s.setCmp c x).gate = s.gate := (rfl)
@[simp] theorem State.setCmp_sap (c : Nat) (x : CmpUnit) : (s.setCmp c x).sap = s.sap := (rfl)
@[simp] theorem State.setCmp_rings (c : Nat) (x : CmpUnit) : (s.setCmp c x).rings = s.rings := (rfl)
@[simp] theorem State.setCmp_nodes (c : Nat) (x : CmpUnit) : (s.setCmp c x).nodes = s.nodes := (rfl)
@[simp] theorem State.setCmp_engines (c : Nat) (x : CmpUnit) : (s.setCmp c x).engines = s.engines := (rfl)
@[simp] theorem State.setCmp_wvr (c : Nat) (x : CmpUnit) : (s.setCmp c x).wvr = s.wvr := (rfl)
@[simp] theorem State.setCmp_cap (c : Nat) (x : CmpUnit) : (s.setCmp c x).cap = s.cap := (rfl)
@[simp] theorem State.setCmp_gft (c : Nat) (x : CmpUnit) : (s.setCmp c x).gft = s.gft := (rfl)
@[simp] theorem State.setCmp_eth (c : Nat) (x : CmpUnit) : (s.setCmp c x).eth = s.eth := (rfl)
@[simp] theorem State.setCmp_seed (c : Nat) (x : CmpUnit) : (s.setCmp c x).seed = s.seed := (rfl)
@[simp] theorem State.setCmp_lines (c : Nat) (x : CmpUnit) : (s.setCmp c x).lines = s.lines := (rfl)
@[simp] theorem State.setCmp_xst (c : Nat) (x : CmpUnit) : (s.setCmp c x).xst = s.xst := (rfl)
@[simp] theorem State.setCmp_therm (c : Nat) (x : CmpUnit) : (s.setCmp c x).therm = s.therm := (rfl)
@[simp] theorem State.setCmp_acc (c : Nat) (x : CmpUnit) : (s.setCmp c x).acc = s.acc := (rfl)
@[simp] theorem State.setCmp_rdata (c : Nat) (x : CmpUnit) : (s.setCmp c x).rdata = s.rdata := (rfl)

@[simp] theorem State.setGch_pending (c : Nat) (x : GateCh) : (s.setGch c x).pending = s.pending := (rfl)
@[simp] theorem State.setGch_out (c : Nat) (x : GateCh) : (s.setGch c x).out = s.out := (rfl)
@[simp] theorem State.setGch_freeCtr (c : Nat) (x : GateCh) : (s.setGch c x).freeCtr = s.freeCtr := (rfl)
@[simp] theorem State.setGch_regs (c : Nat) (x : GateCh) : (s.setGch c x).regs = s.regs := (rfl)
@[simp] theorem State.setGch_pairCap (c : Nat) (x : GateCh) : (s.setGch c x).pairCap = s.pairCap := (rfl)
@[simp] theorem State.setGch_pairHeld (c : Nat) (x : GateCh) : (s.setGch c x).pairHeld = s.pairHeld := (rfl)
@[simp] theorem State.setGch_crown (c : Nat) (x : GateCh) : (s.setGch c x).crown = s.crown := (rfl)
@[simp] theorem State.setGch_poison (c : Nat) (x : GateCh) : (s.setGch c x).poison = s.poison := (rfl)
@[simp] theorem State.setGch_dirty (c : Nat) (x : GateCh) : (s.setGch c x).dirty = s.dirty := (rfl)
@[simp] theorem State.setGch_cyc (c : Nat) (x : GateCh) : (s.setGch c x).cyc = s.cyc := (rfl)
@[simp] theorem State.setGch_tbs (c : Nat) (x : GateCh) : (s.setGch c x).tbs = s.tbs := (rfl)
@[simp] theorem State.setGch_tim (c : Nat) (x : GateCh) : (s.setGch c x).tim = s.tim := (rfl)
@[simp] theorem State.setGch_flt (c : Nat) (x : GateCh) : (s.setGch c x).flt = s.flt := (rfl)
@[simp] theorem State.setGch_jnl (c : Nat) (x : GateCh) : (s.setGch c x).jnl = s.jnl := (rfl)
@[simp] theorem State.setGch_saf (c : Nat) (x : GateCh) : (s.setGch c x).saf = s.saf := (rfl)
@[simp] theorem State.setGch_evr (c : Nat) (x : GateCh) : (s.setGch c x).evr = s.evr := (rfl)
@[simp] theorem State.setGch_cmps (c : Nat) (x : GateCh) : (s.setGch c x).cmps = s.cmps := (rfl)
@[simp] theorem State.setGch_canMem (c : Nat) (x : GateCh) : (s.setGch c x).canMem = s.canMem := (rfl)
@[simp] theorem State.setGch_cans (c : Nat) (x : GateCh) : (s.setGch c x).cans = s.cans := (rfl)
@[simp] theorem State.setGch_sap (c : Nat) (x : GateCh) : (s.setGch c x).sap = s.sap := (rfl)
@[simp] theorem State.setGch_rings (c : Nat) (x : GateCh) : (s.setGch c x).rings = s.rings := (rfl)
@[simp] theorem State.setGch_nodes (c : Nat) (x : GateCh) : (s.setGch c x).nodes = s.nodes := (rfl)
@[simp] theorem State.setGch_engines (c : Nat) (x : GateCh) : (s.setGch c x).engines = s.engines := (rfl)
@[simp] theorem State.setGch_wvr (c : Nat) (x : GateCh) : (s.setGch c x).wvr = s.wvr := (rfl)
@[simp] theorem State.setGch_cap (c : Nat) (x : GateCh) : (s.setGch c x).cap = s.cap := (rfl)
@[simp] theorem State.setGch_gft (c : Nat) (x : GateCh) : (s.setGch c x).gft = s.gft := (rfl)
@[simp] theorem State.setGch_eth (c : Nat) (x : GateCh) : (s.setGch c x).eth = s.eth := (rfl)
@[simp] theorem State.setGch_seed (c : Nat) (x : GateCh) : (s.setGch c x).seed = s.seed := (rfl)
@[simp] theorem State.setGch_lines (c : Nat) (x : GateCh) : (s.setGch c x).lines = s.lines := (rfl)
@[simp] theorem State.setGch_xst (c : Nat) (x : GateCh) : (s.setGch c x).xst = s.xst := (rfl)
@[simp] theorem State.setGch_therm (c : Nat) (x : GateCh) : (s.setGch c x).therm = s.therm := (rfl)
@[simp] theorem State.setGch_acc (c : Nat) (x : GateCh) : (s.setGch c x).acc = s.acc := (rfl)
@[simp] theorem State.setGch_rdata (c : Nat) (x : GateCh) : (s.setGch c x).rdata = s.rdata := (rfl)

@[simp] theorem State.setCan_pending (c : Nat) (x : CanUnit) : (s.setCan c x).pending = s.pending := (rfl)
@[simp] theorem State.setCan_out (c : Nat) (x : CanUnit) : (s.setCan c x).out = s.out := (rfl)
@[simp] theorem State.setCan_freeCtr (c : Nat) (x : CanUnit) : (s.setCan c x).freeCtr = s.freeCtr := (rfl)
@[simp] theorem State.setCan_regs (c : Nat) (x : CanUnit) : (s.setCan c x).regs = s.regs := (rfl)
@[simp] theorem State.setCan_pairCap (c : Nat) (x : CanUnit) : (s.setCan c x).pairCap = s.pairCap := (rfl)
@[simp] theorem State.setCan_pairHeld (c : Nat) (x : CanUnit) : (s.setCan c x).pairHeld = s.pairHeld := (rfl)
@[simp] theorem State.setCan_crown (c : Nat) (x : CanUnit) : (s.setCan c x).crown = s.crown := (rfl)
@[simp] theorem State.setCan_poison (c : Nat) (x : CanUnit) : (s.setCan c x).poison = s.poison := (rfl)
@[simp] theorem State.setCan_dirty (c : Nat) (x : CanUnit) : (s.setCan c x).dirty = s.dirty := (rfl)
@[simp] theorem State.setCan_cyc (c : Nat) (x : CanUnit) : (s.setCan c x).cyc = s.cyc := (rfl)
@[simp] theorem State.setCan_tbs (c : Nat) (x : CanUnit) : (s.setCan c x).tbs = s.tbs := (rfl)
@[simp] theorem State.setCan_tim (c : Nat) (x : CanUnit) : (s.setCan c x).tim = s.tim := (rfl)
@[simp] theorem State.setCan_flt (c : Nat) (x : CanUnit) : (s.setCan c x).flt = s.flt := (rfl)
@[simp] theorem State.setCan_jnl (c : Nat) (x : CanUnit) : (s.setCan c x).jnl = s.jnl := (rfl)
@[simp] theorem State.setCan_saf (c : Nat) (x : CanUnit) : (s.setCan c x).saf = s.saf := (rfl)
@[simp] theorem State.setCan_evr (c : Nat) (x : CanUnit) : (s.setCan c x).evr = s.evr := (rfl)
@[simp] theorem State.setCan_cmps (c : Nat) (x : CanUnit) : (s.setCan c x).cmps = s.cmps := (rfl)
@[simp] theorem State.setCan_canMem (c : Nat) (x : CanUnit) : (s.setCan c x).canMem = s.canMem := (rfl)
@[simp] theorem State.setCan_gate (c : Nat) (x : CanUnit) : (s.setCan c x).gate = s.gate := (rfl)
@[simp] theorem State.setCan_sap (c : Nat) (x : CanUnit) : (s.setCan c x).sap = s.sap := (rfl)
@[simp] theorem State.setCan_rings (c : Nat) (x : CanUnit) : (s.setCan c x).rings = s.rings := (rfl)
@[simp] theorem State.setCan_nodes (c : Nat) (x : CanUnit) : (s.setCan c x).nodes = s.nodes := (rfl)
@[simp] theorem State.setCan_engines (c : Nat) (x : CanUnit) : (s.setCan c x).engines = s.engines := (rfl)
@[simp] theorem State.setCan_wvr (c : Nat) (x : CanUnit) : (s.setCan c x).wvr = s.wvr := (rfl)
@[simp] theorem State.setCan_cap (c : Nat) (x : CanUnit) : (s.setCan c x).cap = s.cap := (rfl)
@[simp] theorem State.setCan_gft (c : Nat) (x : CanUnit) : (s.setCan c x).gft = s.gft := (rfl)
@[simp] theorem State.setCan_eth (c : Nat) (x : CanUnit) : (s.setCan c x).eth = s.eth := (rfl)
@[simp] theorem State.setCan_seed (c : Nat) (x : CanUnit) : (s.setCan c x).seed = s.seed := (rfl)
@[simp] theorem State.setCan_lines (c : Nat) (x : CanUnit) : (s.setCan c x).lines = s.lines := (rfl)
@[simp] theorem State.setCan_xst (c : Nat) (x : CanUnit) : (s.setCan c x).xst = s.xst := (rfl)
@[simp] theorem State.setCan_therm (c : Nat) (x : CanUnit) : (s.setCan c x).therm = s.therm := (rfl)
@[simp] theorem State.setCan_acc (c : Nat) (x : CanUnit) : (s.setCan c x).acc = s.acc := (rfl)
@[simp] theorem State.setCan_rdata (c : Nat) (x : CanUnit) : (s.setCan c x).rdata = s.rdata := (rfl)

@[simp] theorem State.setCw_pending (a : Nat) (v : Word) : (s.setCw a v).pending = s.pending := (rfl)
@[simp] theorem State.setCw_out (a : Nat) (v : Word) : (s.setCw a v).out = s.out := (rfl)
@[simp] theorem State.setCw_freeCtr (a : Nat) (v : Word) : (s.setCw a v).freeCtr = s.freeCtr := (rfl)
@[simp] theorem State.setCw_regs (a : Nat) (v : Word) : (s.setCw a v).regs = s.regs := (rfl)
@[simp] theorem State.setCw_pairCap (a : Nat) (v : Word) : (s.setCw a v).pairCap = s.pairCap := (rfl)
@[simp] theorem State.setCw_pairHeld (a : Nat) (v : Word) : (s.setCw a v).pairHeld = s.pairHeld := (rfl)
@[simp] theorem State.setCw_crown (a : Nat) (v : Word) : (s.setCw a v).crown = s.crown := (rfl)
@[simp] theorem State.setCw_poison (a : Nat) (v : Word) : (s.setCw a v).poison = s.poison := (rfl)
@[simp] theorem State.setCw_dirty (a : Nat) (v : Word) : (s.setCw a v).dirty = s.dirty := (rfl)
@[simp] theorem State.setCw_cyc (a : Nat) (v : Word) : (s.setCw a v).cyc = s.cyc := (rfl)
@[simp] theorem State.setCw_tbs (a : Nat) (v : Word) : (s.setCw a v).tbs = s.tbs := (rfl)
@[simp] theorem State.setCw_tim (a : Nat) (v : Word) : (s.setCw a v).tim = s.tim := (rfl)
@[simp] theorem State.setCw_flt (a : Nat) (v : Word) : (s.setCw a v).flt = s.flt := (rfl)
@[simp] theorem State.setCw_jnl (a : Nat) (v : Word) : (s.setCw a v).jnl = s.jnl := (rfl)
@[simp] theorem State.setCw_saf (a : Nat) (v : Word) : (s.setCw a v).saf = s.saf := (rfl)
@[simp] theorem State.setCw_evr (a : Nat) (v : Word) : (s.setCw a v).evr = s.evr := (rfl)
@[simp] theorem State.setCw_cmps (a : Nat) (v : Word) : (s.setCw a v).cmps = s.cmps := (rfl)
@[simp] theorem State.setCw_cans (a : Nat) (v : Word) : (s.setCw a v).cans = s.cans := (rfl)
@[simp] theorem State.setCw_gate (a : Nat) (v : Word) : (s.setCw a v).gate = s.gate := (rfl)
@[simp] theorem State.setCw_sap (a : Nat) (v : Word) : (s.setCw a v).sap = s.sap := (rfl)
@[simp] theorem State.setCw_rings (a : Nat) (v : Word) : (s.setCw a v).rings = s.rings := (rfl)
@[simp] theorem State.setCw_nodes (a : Nat) (v : Word) : (s.setCw a v).nodes = s.nodes := (rfl)
@[simp] theorem State.setCw_engines (a : Nat) (v : Word) : (s.setCw a v).engines = s.engines := (rfl)
@[simp] theorem State.setCw_wvr (a : Nat) (v : Word) : (s.setCw a v).wvr = s.wvr := (rfl)
@[simp] theorem State.setCw_cap (a : Nat) (v : Word) : (s.setCw a v).cap = s.cap := (rfl)
@[simp] theorem State.setCw_gft (a : Nat) (v : Word) : (s.setCw a v).gft = s.gft := (rfl)
@[simp] theorem State.setCw_eth (a : Nat) (v : Word) : (s.setCw a v).eth = s.eth := (rfl)
@[simp] theorem State.setCw_seed (a : Nat) (v : Word) : (s.setCw a v).seed = s.seed := (rfl)
@[simp] theorem State.setCw_lines (a : Nat) (v : Word) : (s.setCw a v).lines = s.lines := (rfl)
@[simp] theorem State.setCw_xst (a : Nat) (v : Word) : (s.setCw a v).xst = s.xst := (rfl)
@[simp] theorem State.setCw_therm (a : Nat) (v : Word) : (s.setCw a v).therm = s.therm := (rfl)
@[simp] theorem State.setCw_acc (a : Nat) (v : Word) : (s.setCw a v).acc = s.acc := (rfl)
@[simp] theorem State.setCw_rdata (a : Nat) (v : Word) : (s.setCw a v).rdata = s.rdata := (rfl)

@[simp] theorem State.setHeld_pending (a : Nat) (v : Option Word) : (s.setHeld a v).pending = s.pending := (rfl)
@[simp] theorem State.setHeld_out (a : Nat) (v : Option Word) : (s.setHeld a v).out = s.out := (rfl)
@[simp] theorem State.setHeld_freeCtr (a : Nat) (v : Option Word) : (s.setHeld a v).freeCtr = s.freeCtr := (rfl)
@[simp] theorem State.setHeld_regs (a : Nat) (v : Option Word) : (s.setHeld a v).regs = s.regs := (rfl)
@[simp] theorem State.setHeld_pairCap (a : Nat) (v : Option Word) : (s.setHeld a v).pairCap = s.pairCap := (rfl)
@[simp] theorem State.setHeld_crown (a : Nat) (v : Option Word) : (s.setHeld a v).crown = s.crown := (rfl)
@[simp] theorem State.setHeld_poison (a : Nat) (v : Option Word) : (s.setHeld a v).poison = s.poison := (rfl)
@[simp] theorem State.setHeld_dirty (a : Nat) (v : Option Word) : (s.setHeld a v).dirty = s.dirty := (rfl)
@[simp] theorem State.setHeld_cyc (a : Nat) (v : Option Word) : (s.setHeld a v).cyc = s.cyc := (rfl)
@[simp] theorem State.setHeld_tbs (a : Nat) (v : Option Word) : (s.setHeld a v).tbs = s.tbs := (rfl)
@[simp] theorem State.setHeld_tim (a : Nat) (v : Option Word) : (s.setHeld a v).tim = s.tim := (rfl)
@[simp] theorem State.setHeld_flt (a : Nat) (v : Option Word) : (s.setHeld a v).flt = s.flt := (rfl)
@[simp] theorem State.setHeld_jnl (a : Nat) (v : Option Word) : (s.setHeld a v).jnl = s.jnl := (rfl)
@[simp] theorem State.setHeld_saf (a : Nat) (v : Option Word) : (s.setHeld a v).saf = s.saf := (rfl)
@[simp] theorem State.setHeld_evr (a : Nat) (v : Option Word) : (s.setHeld a v).evr = s.evr := (rfl)
@[simp] theorem State.setHeld_cmps (a : Nat) (v : Option Word) : (s.setHeld a v).cmps = s.cmps := (rfl)
@[simp] theorem State.setHeld_canMem (a : Nat) (v : Option Word) : (s.setHeld a v).canMem = s.canMem := (rfl)
@[simp] theorem State.setHeld_cans (a : Nat) (v : Option Word) : (s.setHeld a v).cans = s.cans := (rfl)
@[simp] theorem State.setHeld_gate (a : Nat) (v : Option Word) : (s.setHeld a v).gate = s.gate := (rfl)
@[simp] theorem State.setHeld_sap (a : Nat) (v : Option Word) : (s.setHeld a v).sap = s.sap := (rfl)
@[simp] theorem State.setHeld_rings (a : Nat) (v : Option Word) : (s.setHeld a v).rings = s.rings := (rfl)
@[simp] theorem State.setHeld_nodes (a : Nat) (v : Option Word) : (s.setHeld a v).nodes = s.nodes := (rfl)
@[simp] theorem State.setHeld_engines (a : Nat) (v : Option Word) : (s.setHeld a v).engines = s.engines := (rfl)
@[simp] theorem State.setHeld_wvr (a : Nat) (v : Option Word) : (s.setHeld a v).wvr = s.wvr := (rfl)
@[simp] theorem State.setHeld_cap (a : Nat) (v : Option Word) : (s.setHeld a v).cap = s.cap := (rfl)
@[simp] theorem State.setHeld_gft (a : Nat) (v : Option Word) : (s.setHeld a v).gft = s.gft := (rfl)
@[simp] theorem State.setHeld_eth (a : Nat) (v : Option Word) : (s.setHeld a v).eth = s.eth := (rfl)
@[simp] theorem State.setHeld_seed (a : Nat) (v : Option Word) : (s.setHeld a v).seed = s.seed := (rfl)
@[simp] theorem State.setHeld_lines (a : Nat) (v : Option Word) : (s.setHeld a v).lines = s.lines := (rfl)
@[simp] theorem State.setHeld_xst (a : Nat) (v : Option Word) : (s.setHeld a v).xst = s.xst := (rfl)
@[simp] theorem State.setHeld_therm (a : Nat) (v : Option Word) : (s.setHeld a v).therm = s.therm := (rfl)
@[simp] theorem State.setHeld_acc (a : Nat) (v : Option Word) : (s.setHeld a v).acc = s.acc := (rfl)
@[simp] theorem State.setHeld_rdata (a : Nat) (v : Option Word) : (s.setHeld a v).rdata = s.rdata := (rfl)

@[simp] theorem State.setBytes_pending (a : Nat) (bs : List Byte) : (s.setBytes a bs).pending = s.pending := (rfl)
@[simp] theorem State.setBytes_out (a : Nat) (bs : List Byte) : (s.setBytes a bs).out = s.out := (rfl)
@[simp] theorem State.setBytes_freeCtr (a : Nat) (bs : List Byte) : (s.setBytes a bs).freeCtr = s.freeCtr := (rfl)
@[simp] theorem State.setBytes_regs (a : Nat) (bs : List Byte) : (s.setBytes a bs).regs = s.regs := (rfl)
@[simp] theorem State.setBytes_pairCap (a : Nat) (bs : List Byte) : (s.setBytes a bs).pairCap = s.pairCap := (rfl)
@[simp] theorem State.setBytes_pairHeld (a : Nat) (bs : List Byte) : (s.setBytes a bs).pairHeld = s.pairHeld := (rfl)
@[simp] theorem State.setBytes_poison (a : Nat) (bs : List Byte) : (s.setBytes a bs).poison = s.poison := (rfl)
@[simp] theorem State.setBytes_dirty (a : Nat) (bs : List Byte) : (s.setBytes a bs).dirty = s.dirty := (rfl)
@[simp] theorem State.setBytes_cyc (a : Nat) (bs : List Byte) : (s.setBytes a bs).cyc = s.cyc := (rfl)
@[simp] theorem State.setBytes_tbs (a : Nat) (bs : List Byte) : (s.setBytes a bs).tbs = s.tbs := (rfl)
@[simp] theorem State.setBytes_tim (a : Nat) (bs : List Byte) : (s.setBytes a bs).tim = s.tim := (rfl)
@[simp] theorem State.setBytes_flt (a : Nat) (bs : List Byte) : (s.setBytes a bs).flt = s.flt := (rfl)
@[simp] theorem State.setBytes_jnl (a : Nat) (bs : List Byte) : (s.setBytes a bs).jnl = s.jnl := (rfl)
@[simp] theorem State.setBytes_saf (a : Nat) (bs : List Byte) : (s.setBytes a bs).saf = s.saf := (rfl)
@[simp] theorem State.setBytes_evr (a : Nat) (bs : List Byte) : (s.setBytes a bs).evr = s.evr := (rfl)
@[simp] theorem State.setBytes_cmps (a : Nat) (bs : List Byte) : (s.setBytes a bs).cmps = s.cmps := (rfl)
@[simp] theorem State.setBytes_canMem (a : Nat) (bs : List Byte) : (s.setBytes a bs).canMem = s.canMem := (rfl)
@[simp] theorem State.setBytes_cans (a : Nat) (bs : List Byte) : (s.setBytes a bs).cans = s.cans := (rfl)
@[simp] theorem State.setBytes_gate (a : Nat) (bs : List Byte) : (s.setBytes a bs).gate = s.gate := (rfl)
@[simp] theorem State.setBytes_sap (a : Nat) (bs : List Byte) : (s.setBytes a bs).sap = s.sap := (rfl)
@[simp] theorem State.setBytes_rings (a : Nat) (bs : List Byte) : (s.setBytes a bs).rings = s.rings := (rfl)
@[simp] theorem State.setBytes_nodes (a : Nat) (bs : List Byte) : (s.setBytes a bs).nodes = s.nodes := (rfl)
@[simp] theorem State.setBytes_engines (a : Nat) (bs : List Byte) : (s.setBytes a bs).engines = s.engines := (rfl)
@[simp] theorem State.setBytes_wvr (a : Nat) (bs : List Byte) : (s.setBytes a bs).wvr = s.wvr := (rfl)
@[simp] theorem State.setBytes_cap (a : Nat) (bs : List Byte) : (s.setBytes a bs).cap = s.cap := (rfl)
@[simp] theorem State.setBytes_gft (a : Nat) (bs : List Byte) : (s.setBytes a bs).gft = s.gft := (rfl)
@[simp] theorem State.setBytes_eth (a : Nat) (bs : List Byte) : (s.setBytes a bs).eth = s.eth := (rfl)
@[simp] theorem State.setBytes_seed (a : Nat) (bs : List Byte) : (s.setBytes a bs).seed = s.seed := (rfl)
@[simp] theorem State.setBytes_lines (a : Nat) (bs : List Byte) : (s.setBytes a bs).lines = s.lines := (rfl)
@[simp] theorem State.setBytes_xst (a : Nat) (bs : List Byte) : (s.setBytes a bs).xst = s.xst := (rfl)
@[simp] theorem State.setBytes_therm (a : Nat) (bs : List Byte) : (s.setBytes a bs).therm = s.therm := (rfl)
@[simp] theorem State.setBytes_acc (a : Nat) (bs : List Byte) : (s.setBytes a bs).acc = s.acc := (rfl)
@[simp] theorem State.setBytes_rdata (a : Nat) (bs : List Byte) : (s.setBytes a bs).rdata = s.rdata := (rfl)

@[simp] theorem State.ended_pending (st : Nat) : (s.ended st).pending = s.pending := (rfl)
@[simp] theorem State.ended_out (st : Nat) : (s.ended st).out = s.out := (rfl)
@[simp] theorem State.ended_freeCtr (st : Nat) : (s.ended st).freeCtr = s.freeCtr := (rfl)
@[simp] theorem State.ended_regs (st : Nat) : (s.ended st).regs = s.regs := (rfl)
@[simp] theorem State.ended_pairCap (st : Nat) : (s.ended st).pairCap = s.pairCap := (rfl)
@[simp] theorem State.ended_pairHeld (st : Nat) : (s.ended st).pairHeld = s.pairHeld := (rfl)
@[simp] theorem State.ended_crown (st : Nat) : (s.ended st).crown = s.crown := (rfl)
@[simp] theorem State.ended_poison (st : Nat) : (s.ended st).poison = s.poison := (rfl)
@[simp] theorem State.ended_dirty (st : Nat) : (s.ended st).dirty = s.dirty := (rfl)
@[simp] theorem State.ended_cyc (st : Nat) : (s.ended st).cyc = s.cyc := (rfl)
@[simp] theorem State.ended_tbs (st : Nat) : (s.ended st).tbs = s.tbs := (rfl)
@[simp] theorem State.ended_tim (st : Nat) : (s.ended st).tim = s.tim := (rfl)
@[simp] theorem State.ended_flt (st : Nat) : (s.ended st).flt = s.flt := (rfl)
@[simp] theorem State.ended_jnl (st : Nat) : (s.ended st).jnl = s.jnl := (rfl)
@[simp] theorem State.ended_saf (st : Nat) : (s.ended st).saf = s.saf := (rfl)
@[simp] theorem State.ended_evr (st : Nat) : (s.ended st).evr = s.evr := (rfl)
@[simp] theorem State.ended_cmps (st : Nat) : (s.ended st).cmps = s.cmps := (rfl)
@[simp] theorem State.ended_canMem (st : Nat) : (s.ended st).canMem = s.canMem := (rfl)
@[simp] theorem State.ended_cans (st : Nat) : (s.ended st).cans = s.cans := (rfl)
@[simp] theorem State.ended_gate (st : Nat) : (s.ended st).gate = s.gate := (rfl)
@[simp] theorem State.ended_sap (st : Nat) : (s.ended st).sap = s.sap := (rfl)
@[simp] theorem State.ended_rings (st : Nat) : (s.ended st).rings = s.rings := (rfl)
@[simp] theorem State.ended_nodes (st : Nat) : (s.ended st).nodes = s.nodes := (rfl)
@[simp] theorem State.ended_engines (st : Nat) : (s.ended st).engines = s.engines := (rfl)
@[simp] theorem State.ended_wvr (st : Nat) : (s.ended st).wvr = s.wvr := (rfl)
@[simp] theorem State.ended_cap (st : Nat) : (s.ended st).cap = s.cap := (rfl)
@[simp] theorem State.ended_gft (st : Nat) : (s.ended st).gft = s.gft := (rfl)
@[simp] theorem State.ended_eth (st : Nat) : (s.ended st).eth = s.eth := (rfl)
@[simp] theorem State.ended_seed (st : Nat) : (s.ended st).seed = s.seed := (rfl)
@[simp] theorem State.ended_lines (st : Nat) : (s.ended st).lines = s.lines := (rfl)
@[simp] theorem State.ended_xst (st : Nat) : (s.ended st).xst = s.xst := (rfl)
@[simp] theorem State.ended_therm (st : Nat) : (s.ended st).therm = s.therm := (rfl)
@[simp] theorem State.ended_rdata (st : Nat) : (s.ended st).rdata = s.rdata := (rfl)

@[simp] theorem State.withTim_pending (x : TimUnit) : (s.withTim x).pending = s.pending := (rfl)
@[simp] theorem State.withTim_out (x : TimUnit) : (s.withTim x).out = s.out := (rfl)
@[simp] theorem State.withTim_freeCtr (x : TimUnit) : (s.withTim x).freeCtr = s.freeCtr := (rfl)
@[simp] theorem State.withTim_regs (x : TimUnit) : (s.withTim x).regs = s.regs := (rfl)
@[simp] theorem State.withTim_pairCap (x : TimUnit) : (s.withTim x).pairCap = s.pairCap := (rfl)
@[simp] theorem State.withTim_pairHeld (x : TimUnit) : (s.withTim x).pairHeld = s.pairHeld := (rfl)
@[simp] theorem State.withTim_crown (x : TimUnit) : (s.withTim x).crown = s.crown := (rfl)
@[simp] theorem State.withTim_poison (x : TimUnit) : (s.withTim x).poison = s.poison := (rfl)
@[simp] theorem State.withTim_dirty (x : TimUnit) : (s.withTim x).dirty = s.dirty := (rfl)
@[simp] theorem State.withTim_cyc (x : TimUnit) : (s.withTim x).cyc = s.cyc := (rfl)
@[simp] theorem State.withTim_tbs (x : TimUnit) : (s.withTim x).tbs = s.tbs := (rfl)
@[simp] theorem State.withTim_flt (x : TimUnit) : (s.withTim x).flt = s.flt := (rfl)
@[simp] theorem State.withTim_jnl (x : TimUnit) : (s.withTim x).jnl = s.jnl := (rfl)
@[simp] theorem State.withTim_saf (x : TimUnit) : (s.withTim x).saf = s.saf := (rfl)
@[simp] theorem State.withTim_evr (x : TimUnit) : (s.withTim x).evr = s.evr := (rfl)
@[simp] theorem State.withTim_cmps (x : TimUnit) : (s.withTim x).cmps = s.cmps := (rfl)
@[simp] theorem State.withTim_canMem (x : TimUnit) : (s.withTim x).canMem = s.canMem := (rfl)
@[simp] theorem State.withTim_cans (x : TimUnit) : (s.withTim x).cans = s.cans := (rfl)
@[simp] theorem State.withTim_gate (x : TimUnit) : (s.withTim x).gate = s.gate := (rfl)
@[simp] theorem State.withTim_sap (x : TimUnit) : (s.withTim x).sap = s.sap := (rfl)
@[simp] theorem State.withTim_rings (x : TimUnit) : (s.withTim x).rings = s.rings := (rfl)
@[simp] theorem State.withTim_nodes (x : TimUnit) : (s.withTim x).nodes = s.nodes := (rfl)
@[simp] theorem State.withTim_engines (x : TimUnit) : (s.withTim x).engines = s.engines := (rfl)
@[simp] theorem State.withTim_wvr (x : TimUnit) : (s.withTim x).wvr = s.wvr := (rfl)
@[simp] theorem State.withTim_cap (x : TimUnit) : (s.withTim x).cap = s.cap := (rfl)
@[simp] theorem State.withTim_gft (x : TimUnit) : (s.withTim x).gft = s.gft := (rfl)
@[simp] theorem State.withTim_eth (x : TimUnit) : (s.withTim x).eth = s.eth := (rfl)
@[simp] theorem State.withTim_seed (x : TimUnit) : (s.withTim x).seed = s.seed := (rfl)
@[simp] theorem State.withTim_lines (x : TimUnit) : (s.withTim x).lines = s.lines := (rfl)
@[simp] theorem State.withTim_xst (x : TimUnit) : (s.withTim x).xst = s.xst := (rfl)
@[simp] theorem State.withTim_therm (x : TimUnit) : (s.withTim x).therm = s.therm := (rfl)
@[simp] theorem State.withTim_acc (x : TimUnit) : (s.withTim x).acc = s.acc := (rfl)
@[simp] theorem State.withTim_rdata (x : TimUnit) : (s.withTim x).rdata = s.rdata := (rfl)

@[simp] theorem State.withFlt_pending (x : FltUnit) : (s.withFlt x).pending = s.pending := (rfl)
@[simp] theorem State.withFlt_out (x : FltUnit) : (s.withFlt x).out = s.out := (rfl)
@[simp] theorem State.withFlt_freeCtr (x : FltUnit) : (s.withFlt x).freeCtr = s.freeCtr := (rfl)
@[simp] theorem State.withFlt_regs (x : FltUnit) : (s.withFlt x).regs = s.regs := (rfl)
@[simp] theorem State.withFlt_pairCap (x : FltUnit) : (s.withFlt x).pairCap = s.pairCap := (rfl)
@[simp] theorem State.withFlt_pairHeld (x : FltUnit) : (s.withFlt x).pairHeld = s.pairHeld := (rfl)
@[simp] theorem State.withFlt_crown (x : FltUnit) : (s.withFlt x).crown = s.crown := (rfl)
@[simp] theorem State.withFlt_poison (x : FltUnit) : (s.withFlt x).poison = s.poison := (rfl)
@[simp] theorem State.withFlt_dirty (x : FltUnit) : (s.withFlt x).dirty = s.dirty := (rfl)
@[simp] theorem State.withFlt_cyc (x : FltUnit) : (s.withFlt x).cyc = s.cyc := (rfl)
@[simp] theorem State.withFlt_tbs (x : FltUnit) : (s.withFlt x).tbs = s.tbs := (rfl)
@[simp] theorem State.withFlt_tim (x : FltUnit) : (s.withFlt x).tim = s.tim := (rfl)
@[simp] theorem State.withFlt_jnl (x : FltUnit) : (s.withFlt x).jnl = s.jnl := (rfl)
@[simp] theorem State.withFlt_saf (x : FltUnit) : (s.withFlt x).saf = s.saf := (rfl)
@[simp] theorem State.withFlt_evr (x : FltUnit) : (s.withFlt x).evr = s.evr := (rfl)
@[simp] theorem State.withFlt_cmps (x : FltUnit) : (s.withFlt x).cmps = s.cmps := (rfl)
@[simp] theorem State.withFlt_canMem (x : FltUnit) : (s.withFlt x).canMem = s.canMem := (rfl)
@[simp] theorem State.withFlt_cans (x : FltUnit) : (s.withFlt x).cans = s.cans := (rfl)
@[simp] theorem State.withFlt_gate (x : FltUnit) : (s.withFlt x).gate = s.gate := (rfl)
@[simp] theorem State.withFlt_sap (x : FltUnit) : (s.withFlt x).sap = s.sap := (rfl)
@[simp] theorem State.withFlt_rings (x : FltUnit) : (s.withFlt x).rings = s.rings := (rfl)
@[simp] theorem State.withFlt_nodes (x : FltUnit) : (s.withFlt x).nodes = s.nodes := (rfl)
@[simp] theorem State.withFlt_engines (x : FltUnit) : (s.withFlt x).engines = s.engines := (rfl)
@[simp] theorem State.withFlt_wvr (x : FltUnit) : (s.withFlt x).wvr = s.wvr := (rfl)
@[simp] theorem State.withFlt_cap (x : FltUnit) : (s.withFlt x).cap = s.cap := (rfl)
@[simp] theorem State.withFlt_gft (x : FltUnit) : (s.withFlt x).gft = s.gft := (rfl)
@[simp] theorem State.withFlt_eth (x : FltUnit) : (s.withFlt x).eth = s.eth := (rfl)
@[simp] theorem State.withFlt_seed (x : FltUnit) : (s.withFlt x).seed = s.seed := (rfl)
@[simp] theorem State.withFlt_lines (x : FltUnit) : (s.withFlt x).lines = s.lines := (rfl)
@[simp] theorem State.withFlt_xst (x : FltUnit) : (s.withFlt x).xst = s.xst := (rfl)
@[simp] theorem State.withFlt_therm (x : FltUnit) : (s.withFlt x).therm = s.therm := (rfl)
@[simp] theorem State.withFlt_acc (x : FltUnit) : (s.withFlt x).acc = s.acc := (rfl)
@[simp] theorem State.withFlt_rdata (x : FltUnit) : (s.withFlt x).rdata = s.rdata := (rfl)

@[simp] theorem State.withJnl_pending (x : JnlUnit) : (s.withJnl x).pending = s.pending := (rfl)
@[simp] theorem State.withJnl_out (x : JnlUnit) : (s.withJnl x).out = s.out := (rfl)
@[simp] theorem State.withJnl_freeCtr (x : JnlUnit) : (s.withJnl x).freeCtr = s.freeCtr := (rfl)
@[simp] theorem State.withJnl_regs (x : JnlUnit) : (s.withJnl x).regs = s.regs := (rfl)
@[simp] theorem State.withJnl_pairCap (x : JnlUnit) : (s.withJnl x).pairCap = s.pairCap := (rfl)
@[simp] theorem State.withJnl_pairHeld (x : JnlUnit) : (s.withJnl x).pairHeld = s.pairHeld := (rfl)
@[simp] theorem State.withJnl_crown (x : JnlUnit) : (s.withJnl x).crown = s.crown := (rfl)
@[simp] theorem State.withJnl_poison (x : JnlUnit) : (s.withJnl x).poison = s.poison := (rfl)
@[simp] theorem State.withJnl_dirty (x : JnlUnit) : (s.withJnl x).dirty = s.dirty := (rfl)
@[simp] theorem State.withJnl_cyc (x : JnlUnit) : (s.withJnl x).cyc = s.cyc := (rfl)
@[simp] theorem State.withJnl_tbs (x : JnlUnit) : (s.withJnl x).tbs = s.tbs := (rfl)
@[simp] theorem State.withJnl_tim (x : JnlUnit) : (s.withJnl x).tim = s.tim := (rfl)
@[simp] theorem State.withJnl_flt (x : JnlUnit) : (s.withJnl x).flt = s.flt := (rfl)
@[simp] theorem State.withJnl_saf (x : JnlUnit) : (s.withJnl x).saf = s.saf := (rfl)
@[simp] theorem State.withJnl_evr (x : JnlUnit) : (s.withJnl x).evr = s.evr := (rfl)
@[simp] theorem State.withJnl_cmps (x : JnlUnit) : (s.withJnl x).cmps = s.cmps := (rfl)
@[simp] theorem State.withJnl_canMem (x : JnlUnit) : (s.withJnl x).canMem = s.canMem := (rfl)
@[simp] theorem State.withJnl_cans (x : JnlUnit) : (s.withJnl x).cans = s.cans := (rfl)
@[simp] theorem State.withJnl_gate (x : JnlUnit) : (s.withJnl x).gate = s.gate := (rfl)
@[simp] theorem State.withJnl_sap (x : JnlUnit) : (s.withJnl x).sap = s.sap := (rfl)
@[simp] theorem State.withJnl_rings (x : JnlUnit) : (s.withJnl x).rings = s.rings := (rfl)
@[simp] theorem State.withJnl_nodes (x : JnlUnit) : (s.withJnl x).nodes = s.nodes := (rfl)
@[simp] theorem State.withJnl_engines (x : JnlUnit) : (s.withJnl x).engines = s.engines := (rfl)
@[simp] theorem State.withJnl_wvr (x : JnlUnit) : (s.withJnl x).wvr = s.wvr := (rfl)
@[simp] theorem State.withJnl_cap (x : JnlUnit) : (s.withJnl x).cap = s.cap := (rfl)
@[simp] theorem State.withJnl_gft (x : JnlUnit) : (s.withJnl x).gft = s.gft := (rfl)
@[simp] theorem State.withJnl_eth (x : JnlUnit) : (s.withJnl x).eth = s.eth := (rfl)
@[simp] theorem State.withJnl_seed (x : JnlUnit) : (s.withJnl x).seed = s.seed := (rfl)
@[simp] theorem State.withJnl_lines (x : JnlUnit) : (s.withJnl x).lines = s.lines := (rfl)
@[simp] theorem State.withJnl_xst (x : JnlUnit) : (s.withJnl x).xst = s.xst := (rfl)
@[simp] theorem State.withJnl_therm (x : JnlUnit) : (s.withJnl x).therm = s.therm := (rfl)
@[simp] theorem State.withJnl_acc (x : JnlUnit) : (s.withJnl x).acc = s.acc := (rfl)
@[simp] theorem State.withJnl_rdata (x : JnlUnit) : (s.withJnl x).rdata = s.rdata := (rfl)

@[simp] theorem State.withSaf_pending (x : Safety) : (s.withSaf x).pending = s.pending := (rfl)
@[simp] theorem State.withSaf_out (x : Safety) : (s.withSaf x).out = s.out := (rfl)
@[simp] theorem State.withSaf_freeCtr (x : Safety) : (s.withSaf x).freeCtr = s.freeCtr := (rfl)
@[simp] theorem State.withSaf_regs (x : Safety) : (s.withSaf x).regs = s.regs := (rfl)
@[simp] theorem State.withSaf_pairCap (x : Safety) : (s.withSaf x).pairCap = s.pairCap := (rfl)
@[simp] theorem State.withSaf_pairHeld (x : Safety) : (s.withSaf x).pairHeld = s.pairHeld := (rfl)
@[simp] theorem State.withSaf_crown (x : Safety) : (s.withSaf x).crown = s.crown := (rfl)
@[simp] theorem State.withSaf_poison (x : Safety) : (s.withSaf x).poison = s.poison := (rfl)
@[simp] theorem State.withSaf_dirty (x : Safety) : (s.withSaf x).dirty = s.dirty := (rfl)
@[simp] theorem State.withSaf_cyc (x : Safety) : (s.withSaf x).cyc = s.cyc := (rfl)
@[simp] theorem State.withSaf_tbs (x : Safety) : (s.withSaf x).tbs = s.tbs := (rfl)
@[simp] theorem State.withSaf_tim (x : Safety) : (s.withSaf x).tim = s.tim := (rfl)
@[simp] theorem State.withSaf_flt (x : Safety) : (s.withSaf x).flt = s.flt := (rfl)
@[simp] theorem State.withSaf_jnl (x : Safety) : (s.withSaf x).jnl = s.jnl := (rfl)
@[simp] theorem State.withSaf_evr (x : Safety) : (s.withSaf x).evr = s.evr := (rfl)
@[simp] theorem State.withSaf_cmps (x : Safety) : (s.withSaf x).cmps = s.cmps := (rfl)
@[simp] theorem State.withSaf_canMem (x : Safety) : (s.withSaf x).canMem = s.canMem := (rfl)
@[simp] theorem State.withSaf_cans (x : Safety) : (s.withSaf x).cans = s.cans := (rfl)
@[simp] theorem State.withSaf_gate (x : Safety) : (s.withSaf x).gate = s.gate := (rfl)
@[simp] theorem State.withSaf_sap (x : Safety) : (s.withSaf x).sap = s.sap := (rfl)
@[simp] theorem State.withSaf_rings (x : Safety) : (s.withSaf x).rings = s.rings := (rfl)
@[simp] theorem State.withSaf_nodes (x : Safety) : (s.withSaf x).nodes = s.nodes := (rfl)
@[simp] theorem State.withSaf_engines (x : Safety) : (s.withSaf x).engines = s.engines := (rfl)
@[simp] theorem State.withSaf_wvr (x : Safety) : (s.withSaf x).wvr = s.wvr := (rfl)
@[simp] theorem State.withSaf_cap (x : Safety) : (s.withSaf x).cap = s.cap := (rfl)
@[simp] theorem State.withSaf_gft (x : Safety) : (s.withSaf x).gft = s.gft := (rfl)
@[simp] theorem State.withSaf_eth (x : Safety) : (s.withSaf x).eth = s.eth := (rfl)
@[simp] theorem State.withSaf_seed (x : Safety) : (s.withSaf x).seed = s.seed := (rfl)
@[simp] theorem State.withSaf_lines (x : Safety) : (s.withSaf x).lines = s.lines := (rfl)
@[simp] theorem State.withSaf_xst (x : Safety) : (s.withSaf x).xst = s.xst := (rfl)
@[simp] theorem State.withSaf_therm (x : Safety) : (s.withSaf x).therm = s.therm := (rfl)
@[simp] theorem State.withSaf_acc (x : Safety) : (s.withSaf x).acc = s.acc := (rfl)
@[simp] theorem State.withSaf_rdata (x : Safety) : (s.withSaf x).rdata = s.rdata := (rfl)

@[simp] theorem State.withEvr_pending (x : Router) : (s.withEvr x).pending = s.pending := (rfl)
@[simp] theorem State.withEvr_out (x : Router) : (s.withEvr x).out = s.out := (rfl)
@[simp] theorem State.withEvr_freeCtr (x : Router) : (s.withEvr x).freeCtr = s.freeCtr := (rfl)
@[simp] theorem State.withEvr_regs (x : Router) : (s.withEvr x).regs = s.regs := (rfl)
@[simp] theorem State.withEvr_pairCap (x : Router) : (s.withEvr x).pairCap = s.pairCap := (rfl)
@[simp] theorem State.withEvr_pairHeld (x : Router) : (s.withEvr x).pairHeld = s.pairHeld := (rfl)
@[simp] theorem State.withEvr_crown (x : Router) : (s.withEvr x).crown = s.crown := (rfl)
@[simp] theorem State.withEvr_poison (x : Router) : (s.withEvr x).poison = s.poison := (rfl)
@[simp] theorem State.withEvr_dirty (x : Router) : (s.withEvr x).dirty = s.dirty := (rfl)
@[simp] theorem State.withEvr_cyc (x : Router) : (s.withEvr x).cyc = s.cyc := (rfl)
@[simp] theorem State.withEvr_tbs (x : Router) : (s.withEvr x).tbs = s.tbs := (rfl)
@[simp] theorem State.withEvr_tim (x : Router) : (s.withEvr x).tim = s.tim := (rfl)
@[simp] theorem State.withEvr_flt (x : Router) : (s.withEvr x).flt = s.flt := (rfl)
@[simp] theorem State.withEvr_jnl (x : Router) : (s.withEvr x).jnl = s.jnl := (rfl)
@[simp] theorem State.withEvr_saf (x : Router) : (s.withEvr x).saf = s.saf := (rfl)
@[simp] theorem State.withEvr_cmps (x : Router) : (s.withEvr x).cmps = s.cmps := (rfl)
@[simp] theorem State.withEvr_canMem (x : Router) : (s.withEvr x).canMem = s.canMem := (rfl)
@[simp] theorem State.withEvr_cans (x : Router) : (s.withEvr x).cans = s.cans := (rfl)
@[simp] theorem State.withEvr_gate (x : Router) : (s.withEvr x).gate = s.gate := (rfl)
@[simp] theorem State.withEvr_sap (x : Router) : (s.withEvr x).sap = s.sap := (rfl)
@[simp] theorem State.withEvr_rings (x : Router) : (s.withEvr x).rings = s.rings := (rfl)
@[simp] theorem State.withEvr_nodes (x : Router) : (s.withEvr x).nodes = s.nodes := (rfl)
@[simp] theorem State.withEvr_engines (x : Router) : (s.withEvr x).engines = s.engines := (rfl)
@[simp] theorem State.withEvr_wvr (x : Router) : (s.withEvr x).wvr = s.wvr := (rfl)
@[simp] theorem State.withEvr_cap (x : Router) : (s.withEvr x).cap = s.cap := (rfl)
@[simp] theorem State.withEvr_gft (x : Router) : (s.withEvr x).gft = s.gft := (rfl)
@[simp] theorem State.withEvr_eth (x : Router) : (s.withEvr x).eth = s.eth := (rfl)
@[simp] theorem State.withEvr_seed (x : Router) : (s.withEvr x).seed = s.seed := (rfl)
@[simp] theorem State.withEvr_lines (x : Router) : (s.withEvr x).lines = s.lines := (rfl)
@[simp] theorem State.withEvr_xst (x : Router) : (s.withEvr x).xst = s.xst := (rfl)
@[simp] theorem State.withEvr_therm (x : Router) : (s.withEvr x).therm = s.therm := (rfl)
@[simp] theorem State.withEvr_acc (x : Router) : (s.withEvr x).acc = s.acc := (rfl)
@[simp] theorem State.withEvr_rdata (x : Router) : (s.withEvr x).rdata = s.rdata := (rfl)

@[simp] theorem State.withCap_pending (x : CapUnit) : (s.withCap x).pending = s.pending := (rfl)
@[simp] theorem State.withCap_out (x : CapUnit) : (s.withCap x).out = s.out := (rfl)
@[simp] theorem State.withCap_freeCtr (x : CapUnit) : (s.withCap x).freeCtr = s.freeCtr := (rfl)
@[simp] theorem State.withCap_regs (x : CapUnit) : (s.withCap x).regs = s.regs := (rfl)
@[simp] theorem State.withCap_pairCap (x : CapUnit) : (s.withCap x).pairCap = s.pairCap := (rfl)
@[simp] theorem State.withCap_pairHeld (x : CapUnit) : (s.withCap x).pairHeld = s.pairHeld := (rfl)
@[simp] theorem State.withCap_crown (x : CapUnit) : (s.withCap x).crown = s.crown := (rfl)
@[simp] theorem State.withCap_poison (x : CapUnit) : (s.withCap x).poison = s.poison := (rfl)
@[simp] theorem State.withCap_dirty (x : CapUnit) : (s.withCap x).dirty = s.dirty := (rfl)
@[simp] theorem State.withCap_cyc (x : CapUnit) : (s.withCap x).cyc = s.cyc := (rfl)
@[simp] theorem State.withCap_tbs (x : CapUnit) : (s.withCap x).tbs = s.tbs := (rfl)
@[simp] theorem State.withCap_tim (x : CapUnit) : (s.withCap x).tim = s.tim := (rfl)
@[simp] theorem State.withCap_flt (x : CapUnit) : (s.withCap x).flt = s.flt := (rfl)
@[simp] theorem State.withCap_jnl (x : CapUnit) : (s.withCap x).jnl = s.jnl := (rfl)
@[simp] theorem State.withCap_saf (x : CapUnit) : (s.withCap x).saf = s.saf := (rfl)
@[simp] theorem State.withCap_evr (x : CapUnit) : (s.withCap x).evr = s.evr := (rfl)
@[simp] theorem State.withCap_cmps (x : CapUnit) : (s.withCap x).cmps = s.cmps := (rfl)
@[simp] theorem State.withCap_canMem (x : CapUnit) : (s.withCap x).canMem = s.canMem := (rfl)
@[simp] theorem State.withCap_cans (x : CapUnit) : (s.withCap x).cans = s.cans := (rfl)
@[simp] theorem State.withCap_gate (x : CapUnit) : (s.withCap x).gate = s.gate := (rfl)
@[simp] theorem State.withCap_sap (x : CapUnit) : (s.withCap x).sap = s.sap := (rfl)
@[simp] theorem State.withCap_rings (x : CapUnit) : (s.withCap x).rings = s.rings := (rfl)
@[simp] theorem State.withCap_nodes (x : CapUnit) : (s.withCap x).nodes = s.nodes := (rfl)
@[simp] theorem State.withCap_engines (x : CapUnit) : (s.withCap x).engines = s.engines := (rfl)
@[simp] theorem State.withCap_wvr (x : CapUnit) : (s.withCap x).wvr = s.wvr := (rfl)
@[simp] theorem State.withCap_gft (x : CapUnit) : (s.withCap x).gft = s.gft := (rfl)
@[simp] theorem State.withCap_eth (x : CapUnit) : (s.withCap x).eth = s.eth := (rfl)
@[simp] theorem State.withCap_seed (x : CapUnit) : (s.withCap x).seed = s.seed := (rfl)
@[simp] theorem State.withCap_lines (x : CapUnit) : (s.withCap x).lines = s.lines := (rfl)
@[simp] theorem State.withCap_xst (x : CapUnit) : (s.withCap x).xst = s.xst := (rfl)
@[simp] theorem State.withCap_therm (x : CapUnit) : (s.withCap x).therm = s.therm := (rfl)
@[simp] theorem State.withCap_acc (x : CapUnit) : (s.withCap x).acc = s.acc := (rfl)
@[simp] theorem State.withCap_rdata (x : CapUnit) : (s.withCap x).rdata = s.rdata := (rfl)

@[simp] theorem State.withGft_pending (x : Graft) : (s.withGft x).pending = s.pending := (rfl)
@[simp] theorem State.withGft_out (x : Graft) : (s.withGft x).out = s.out := (rfl)
@[simp] theorem State.withGft_freeCtr (x : Graft) : (s.withGft x).freeCtr = s.freeCtr := (rfl)
@[simp] theorem State.withGft_regs (x : Graft) : (s.withGft x).regs = s.regs := (rfl)
@[simp] theorem State.withGft_pairCap (x : Graft) : (s.withGft x).pairCap = s.pairCap := (rfl)
@[simp] theorem State.withGft_pairHeld (x : Graft) : (s.withGft x).pairHeld = s.pairHeld := (rfl)
@[simp] theorem State.withGft_crown (x : Graft) : (s.withGft x).crown = s.crown := (rfl)
@[simp] theorem State.withGft_poison (x : Graft) : (s.withGft x).poison = s.poison := (rfl)
@[simp] theorem State.withGft_dirty (x : Graft) : (s.withGft x).dirty = s.dirty := (rfl)
@[simp] theorem State.withGft_cyc (x : Graft) : (s.withGft x).cyc = s.cyc := (rfl)
@[simp] theorem State.withGft_tbs (x : Graft) : (s.withGft x).tbs = s.tbs := (rfl)
@[simp] theorem State.withGft_tim (x : Graft) : (s.withGft x).tim = s.tim := (rfl)
@[simp] theorem State.withGft_flt (x : Graft) : (s.withGft x).flt = s.flt := (rfl)
@[simp] theorem State.withGft_jnl (x : Graft) : (s.withGft x).jnl = s.jnl := (rfl)
@[simp] theorem State.withGft_saf (x : Graft) : (s.withGft x).saf = s.saf := (rfl)
@[simp] theorem State.withGft_evr (x : Graft) : (s.withGft x).evr = s.evr := (rfl)
@[simp] theorem State.withGft_cmps (x : Graft) : (s.withGft x).cmps = s.cmps := (rfl)
@[simp] theorem State.withGft_canMem (x : Graft) : (s.withGft x).canMem = s.canMem := (rfl)
@[simp] theorem State.withGft_cans (x : Graft) : (s.withGft x).cans = s.cans := (rfl)
@[simp] theorem State.withGft_gate (x : Graft) : (s.withGft x).gate = s.gate := (rfl)
@[simp] theorem State.withGft_sap (x : Graft) : (s.withGft x).sap = s.sap := (rfl)
@[simp] theorem State.withGft_rings (x : Graft) : (s.withGft x).rings = s.rings := (rfl)
@[simp] theorem State.withGft_nodes (x : Graft) : (s.withGft x).nodes = s.nodes := (rfl)
@[simp] theorem State.withGft_engines (x : Graft) : (s.withGft x).engines = s.engines := (rfl)
@[simp] theorem State.withGft_wvr (x : Graft) : (s.withGft x).wvr = s.wvr := (rfl)
@[simp] theorem State.withGft_cap (x : Graft) : (s.withGft x).cap = s.cap := (rfl)
@[simp] theorem State.withGft_eth (x : Graft) : (s.withGft x).eth = s.eth := (rfl)
@[simp] theorem State.withGft_seed (x : Graft) : (s.withGft x).seed = s.seed := (rfl)
@[simp] theorem State.withGft_lines (x : Graft) : (s.withGft x).lines = s.lines := (rfl)
@[simp] theorem State.withGft_xst (x : Graft) : (s.withGft x).xst = s.xst := (rfl)
@[simp] theorem State.withGft_therm (x : Graft) : (s.withGft x).therm = s.therm := (rfl)
@[simp] theorem State.withGft_acc (x : Graft) : (s.withGft x).acc = s.acc := (rfl)
@[simp] theorem State.withGft_rdata (x : Graft) : (s.withGft x).rdata = s.rdata := (rfl)

@[simp] theorem State.withSap_pending (x : SapUnit) : (s.withSap x).pending = s.pending := (rfl)
@[simp] theorem State.withSap_out (x : SapUnit) : (s.withSap x).out = s.out := (rfl)
@[simp] theorem State.withSap_freeCtr (x : SapUnit) : (s.withSap x).freeCtr = s.freeCtr := (rfl)
@[simp] theorem State.withSap_regs (x : SapUnit) : (s.withSap x).regs = s.regs := (rfl)
@[simp] theorem State.withSap_pairCap (x : SapUnit) : (s.withSap x).pairCap = s.pairCap := (rfl)
@[simp] theorem State.withSap_pairHeld (x : SapUnit) : (s.withSap x).pairHeld = s.pairHeld := (rfl)
@[simp] theorem State.withSap_crown (x : SapUnit) : (s.withSap x).crown = s.crown := (rfl)
@[simp] theorem State.withSap_poison (x : SapUnit) : (s.withSap x).poison = s.poison := (rfl)
@[simp] theorem State.withSap_dirty (x : SapUnit) : (s.withSap x).dirty = s.dirty := (rfl)
@[simp] theorem State.withSap_cyc (x : SapUnit) : (s.withSap x).cyc = s.cyc := (rfl)
@[simp] theorem State.withSap_tbs (x : SapUnit) : (s.withSap x).tbs = s.tbs := (rfl)
@[simp] theorem State.withSap_tim (x : SapUnit) : (s.withSap x).tim = s.tim := (rfl)
@[simp] theorem State.withSap_flt (x : SapUnit) : (s.withSap x).flt = s.flt := (rfl)
@[simp] theorem State.withSap_jnl (x : SapUnit) : (s.withSap x).jnl = s.jnl := (rfl)
@[simp] theorem State.withSap_saf (x : SapUnit) : (s.withSap x).saf = s.saf := (rfl)
@[simp] theorem State.withSap_evr (x : SapUnit) : (s.withSap x).evr = s.evr := (rfl)
@[simp] theorem State.withSap_cmps (x : SapUnit) : (s.withSap x).cmps = s.cmps := (rfl)
@[simp] theorem State.withSap_canMem (x : SapUnit) : (s.withSap x).canMem = s.canMem := (rfl)
@[simp] theorem State.withSap_cans (x : SapUnit) : (s.withSap x).cans = s.cans := (rfl)
@[simp] theorem State.withSap_gate (x : SapUnit) : (s.withSap x).gate = s.gate := (rfl)
@[simp] theorem State.withSap_rings (x : SapUnit) : (s.withSap x).rings = s.rings := (rfl)
@[simp] theorem State.withSap_nodes (x : SapUnit) : (s.withSap x).nodes = s.nodes := (rfl)
@[simp] theorem State.withSap_engines (x : SapUnit) : (s.withSap x).engines = s.engines := (rfl)
@[simp] theorem State.withSap_wvr (x : SapUnit) : (s.withSap x).wvr = s.wvr := (rfl)
@[simp] theorem State.withSap_cap (x : SapUnit) : (s.withSap x).cap = s.cap := (rfl)
@[simp] theorem State.withSap_gft (x : SapUnit) : (s.withSap x).gft = s.gft := (rfl)
@[simp] theorem State.withSap_eth (x : SapUnit) : (s.withSap x).eth = s.eth := (rfl)
@[simp] theorem State.withSap_seed (x : SapUnit) : (s.withSap x).seed = s.seed := (rfl)
@[simp] theorem State.withSap_lines (x : SapUnit) : (s.withSap x).lines = s.lines := (rfl)
@[simp] theorem State.withSap_xst (x : SapUnit) : (s.withSap x).xst = s.xst := (rfl)
@[simp] theorem State.withSap_therm (x : SapUnit) : (s.withSap x).therm = s.therm := (rfl)
@[simp] theorem State.withSap_acc (x : SapUnit) : (s.withSap x).acc = s.acc := (rfl)
@[simp] theorem State.withSap_rdata (x : SapUnit) : (s.withSap x).rdata = s.rdata := (rfl)

/-! ## Reads through updates of other fields -/

@[simp] theorem State.tb_setReg (a : Nat) (v : Word) (k1 : Nat) : (s.setReg a v).tb k1 = s.tb k1 := (rfl)
@[simp] theorem State.eng_setReg (a : Nat) (v : Word) (k1 : Nat) : (s.setReg a v).eng k1 = s.eng k1 := (rfl)
@[simp] theorem State.ring_setReg (a : Nat) (v : Word) (k1 : Nat) : (s.setReg a v).ring k1 = s.ring k1 := (rfl)
@[simp] theorem State.reg_emit (o : Output) (b1 : Nat) : (s.emit o).reg b1 = s.reg b1 := (rfl)
@[simp] theorem State.tb_emit (o : Output) (k1 : Nat) : (s.emit o).tb k1 = s.tb k1 := (rfl)
@[simp] theorem State.eng_emit (o : Output) (k1 : Nat) : (s.emit o).eng k1 = s.eng k1 := (rfl)
@[simp] theorem State.ring_emit (o : Output) (k1 : Nat) : (s.emit o).ring k1 = s.ring k1 := (rfl)
@[simp] theorem State.reg_tickFree (b1 : Nat) : s.tickFree.reg b1 = s.reg b1 := (rfl)
@[simp] theorem State.tb_tickFree (k1 : Nat) : s.tickFree.tb k1 = s.tb k1 := (rfl)
@[simp] theorem State.eng_tickFree (k1 : Nat) : s.tickFree.eng k1 = s.eng k1 := (rfl)
@[simp] theorem State.ring_tickFree (k1 : Nat) : s.tickFree.ring k1 = s.ring k1 := (rfl)
@[simp] theorem State.reg_setTb (n : Nat) (x : TimeBase) (b1 : Nat) : (s.setTb n x).reg b1 = s.reg b1 := (rfl)
@[simp] theorem State.eng_setTb (n : Nat) (x : TimeBase) (k1 : Nat) : (s.setTb n x).eng k1 = s.eng k1 := (rfl)
@[simp] theorem State.ring_setTb (n : Nat) (x : TimeBase) (k1 : Nat) : (s.setTb n x).ring k1 = s.ring k1 := (rfl)
@[simp] theorem State.reg_setEng (e : Nat) (x : Engine) (b1 : Nat) : (s.setEng e x).reg b1 = s.reg b1 := (rfl)
@[simp] theorem State.tb_setEng (e : Nat) (x : Engine) (k1 : Nat) : (s.setEng e x).tb k1 = s.tb k1 := (rfl)
@[simp] theorem State.ring_setEng (e : Nat) (x : Engine) (k1 : Nat) : (s.setEng e x).ring k1 = s.ring k1 := (rfl)
@[simp] theorem State.reg_setNode (r p : Nat) (x : Node) (b1 : Nat) : (s.setNode r p x).reg b1 = s.reg b1 := (rfl)
@[simp] theorem State.tb_setNode (r p : Nat) (x : Node) (k1 : Nat) : (s.setNode r p x).tb k1 = s.tb k1 := (rfl)
@[simp] theorem State.eng_setNode (r p : Nat) (x : Node) (k1 : Nat) : (s.setNode r p x).eng k1 = s.eng k1 := (rfl)
@[simp] theorem State.ring_setNode (r p : Nat) (x : Node) (k1 : Nat) : (s.setNode r p x).ring k1 = s.ring k1 := (rfl)
@[simp] theorem State.reg_setRing (r : Nat) (x : Ring) (b1 : Nat) : (s.setRing r x).reg b1 = s.reg b1 := (rfl)
@[simp] theorem State.tb_setRing (r : Nat) (x : Ring) (k1 : Nat) : (s.setRing r x).tb k1 = s.tb k1 := (rfl)
@[simp] theorem State.eng_setRing (r : Nat) (x : Ring) (k1 : Nat) : (s.setRing r x).eng k1 = s.eng k1 := (rfl)
@[simp] theorem State.reg_setCmp (c : Nat) (x : CmpUnit) (b1 : Nat) : (s.setCmp c x).reg b1 = s.reg b1 := (rfl)
@[simp] theorem State.tb_setCmp (c : Nat) (x : CmpUnit) (k1 : Nat) : (s.setCmp c x).tb k1 = s.tb k1 := (rfl)
@[simp] theorem State.eng_setCmp (c : Nat) (x : CmpUnit) (k1 : Nat) : (s.setCmp c x).eng k1 = s.eng k1 := (rfl)
@[simp] theorem State.ring_setCmp (c : Nat) (x : CmpUnit) (k1 : Nat) : (s.setCmp c x).ring k1 = s.ring k1 := (rfl)
@[simp] theorem State.reg_setGch (c : Nat) (x : GateCh) (b1 : Nat) : (s.setGch c x).reg b1 = s.reg b1 := (rfl)
@[simp] theorem State.tb_setGch (c : Nat) (x : GateCh) (k1 : Nat) : (s.setGch c x).tb k1 = s.tb k1 := (rfl)
@[simp] theorem State.eng_setGch (c : Nat) (x : GateCh) (k1 : Nat) : (s.setGch c x).eng k1 = s.eng k1 := (rfl)
@[simp] theorem State.ring_setGch (c : Nat) (x : GateCh) (k1 : Nat) : (s.setGch c x).ring k1 = s.ring k1 := (rfl)
@[simp] theorem State.reg_setCan (c : Nat) (x : CanUnit) (b1 : Nat) : (s.setCan c x).reg b1 = s.reg b1 := (rfl)
@[simp] theorem State.tb_setCan (c : Nat) (x : CanUnit) (k1 : Nat) : (s.setCan c x).tb k1 = s.tb k1 := (rfl)
@[simp] theorem State.eng_setCan (c : Nat) (x : CanUnit) (k1 : Nat) : (s.setCan c x).eng k1 = s.eng k1 := (rfl)
@[simp] theorem State.ring_setCan (c : Nat) (x : CanUnit) (k1 : Nat) : (s.setCan c x).ring k1 = s.ring k1 := (rfl)
@[simp] theorem State.reg_setCw (a : Nat) (v : Word) (b1 : Nat) : (s.setCw a v).reg b1 = s.reg b1 := (rfl)
@[simp] theorem State.tb_setCw (a : Nat) (v : Word) (k1 : Nat) : (s.setCw a v).tb k1 = s.tb k1 := (rfl)
@[simp] theorem State.eng_setCw (a : Nat) (v : Word) (k1 : Nat) : (s.setCw a v).eng k1 = s.eng k1 := (rfl)
@[simp] theorem State.ring_setCw (a : Nat) (v : Word) (k1 : Nat) : (s.setCw a v).ring k1 = s.ring k1 := (rfl)
@[simp] theorem State.reg_setHeld (a : Nat) (v : Option Word) (b1 : Nat) : (s.setHeld a v).reg b1 = s.reg b1 := (rfl)
@[simp] theorem State.tb_setHeld (a : Nat) (v : Option Word) (k1 : Nat) : (s.setHeld a v).tb k1 = s.tb k1 := (rfl)
@[simp] theorem State.eng_setHeld (a : Nat) (v : Option Word) (k1 : Nat) : (s.setHeld a v).eng k1 = s.eng k1 := (rfl)
@[simp] theorem State.ring_setHeld (a : Nat) (v : Option Word) (k1 : Nat) : (s.setHeld a v).ring k1 = s.ring k1 := (rfl)
@[simp] theorem State.reg_setBytes (a : Nat) (bs : List Byte) (b1 : Nat) : (s.setBytes a bs).reg b1 = s.reg b1 := (rfl)
@[simp] theorem State.tb_setBytes (a : Nat) (bs : List Byte) (k1 : Nat) : (s.setBytes a bs).tb k1 = s.tb k1 := (rfl)
@[simp] theorem State.eng_setBytes (a : Nat) (bs : List Byte) (k1 : Nat) : (s.setBytes a bs).eng k1 = s.eng k1 := (rfl)
@[simp] theorem State.ring_setBytes (a : Nat) (bs : List Byte) (k1 : Nat) : (s.setBytes a bs).ring k1 = s.ring k1 := (rfl)
@[simp] theorem State.reg_ended (st : Nat) (b1 : Nat) : (s.ended st).reg b1 = s.reg b1 := (rfl)
@[simp] theorem State.tb_ended (st : Nat) (k1 : Nat) : (s.ended st).tb k1 = s.tb k1 := (rfl)
@[simp] theorem State.eng_ended (st : Nat) (k1 : Nat) : (s.ended st).eng k1 = s.eng k1 := (rfl)
@[simp] theorem State.ring_ended (st : Nat) (k1 : Nat) : (s.ended st).ring k1 = s.ring k1 := (rfl)
@[simp] theorem State.reg_withTim (x : TimUnit) (b1 : Nat) : (s.withTim x).reg b1 = s.reg b1 := (rfl)
@[simp] theorem State.tb_withTim (x : TimUnit) (k1 : Nat) : (s.withTim x).tb k1 = s.tb k1 := (rfl)
@[simp] theorem State.eng_withTim (x : TimUnit) (k1 : Nat) : (s.withTim x).eng k1 = s.eng k1 := (rfl)
@[simp] theorem State.ring_withTim (x : TimUnit) (k1 : Nat) : (s.withTim x).ring k1 = s.ring k1 := (rfl)
@[simp] theorem State.reg_withFlt (x : FltUnit) (b1 : Nat) : (s.withFlt x).reg b1 = s.reg b1 := (rfl)
@[simp] theorem State.tb_withFlt (x : FltUnit) (k1 : Nat) : (s.withFlt x).tb k1 = s.tb k1 := (rfl)
@[simp] theorem State.eng_withFlt (x : FltUnit) (k1 : Nat) : (s.withFlt x).eng k1 = s.eng k1 := (rfl)
@[simp] theorem State.ring_withFlt (x : FltUnit) (k1 : Nat) : (s.withFlt x).ring k1 = s.ring k1 := (rfl)
@[simp] theorem State.reg_withJnl (x : JnlUnit) (b1 : Nat) : (s.withJnl x).reg b1 = s.reg b1 := (rfl)
@[simp] theorem State.tb_withJnl (x : JnlUnit) (k1 : Nat) : (s.withJnl x).tb k1 = s.tb k1 := (rfl)
@[simp] theorem State.eng_withJnl (x : JnlUnit) (k1 : Nat) : (s.withJnl x).eng k1 = s.eng k1 := (rfl)
@[simp] theorem State.ring_withJnl (x : JnlUnit) (k1 : Nat) : (s.withJnl x).ring k1 = s.ring k1 := (rfl)
@[simp] theorem State.reg_withSaf (x : Safety) (b1 : Nat) : (s.withSaf x).reg b1 = s.reg b1 := (rfl)
@[simp] theorem State.tb_withSaf (x : Safety) (k1 : Nat) : (s.withSaf x).tb k1 = s.tb k1 := (rfl)
@[simp] theorem State.eng_withSaf (x : Safety) (k1 : Nat) : (s.withSaf x).eng k1 = s.eng k1 := (rfl)
@[simp] theorem State.ring_withSaf (x : Safety) (k1 : Nat) : (s.withSaf x).ring k1 = s.ring k1 := (rfl)
@[simp] theorem State.reg_withEvr (x : Router) (b1 : Nat) : (s.withEvr x).reg b1 = s.reg b1 := (rfl)
@[simp] theorem State.tb_withEvr (x : Router) (k1 : Nat) : (s.withEvr x).tb k1 = s.tb k1 := (rfl)
@[simp] theorem State.eng_withEvr (x : Router) (k1 : Nat) : (s.withEvr x).eng k1 = s.eng k1 := (rfl)
@[simp] theorem State.ring_withEvr (x : Router) (k1 : Nat) : (s.withEvr x).ring k1 = s.ring k1 := (rfl)
@[simp] theorem State.reg_withCap (x : CapUnit) (b1 : Nat) : (s.withCap x).reg b1 = s.reg b1 := (rfl)
@[simp] theorem State.tb_withCap (x : CapUnit) (k1 : Nat) : (s.withCap x).tb k1 = s.tb k1 := (rfl)
@[simp] theorem State.eng_withCap (x : CapUnit) (k1 : Nat) : (s.withCap x).eng k1 = s.eng k1 := (rfl)
@[simp] theorem State.ring_withCap (x : CapUnit) (k1 : Nat) : (s.withCap x).ring k1 = s.ring k1 := (rfl)
@[simp] theorem State.reg_withGft (x : Graft) (b1 : Nat) : (s.withGft x).reg b1 = s.reg b1 := (rfl)
@[simp] theorem State.tb_withGft (x : Graft) (k1 : Nat) : (s.withGft x).tb k1 = s.tb k1 := (rfl)
@[simp] theorem State.eng_withGft (x : Graft) (k1 : Nat) : (s.withGft x).eng k1 = s.eng k1 := (rfl)
@[simp] theorem State.ring_withGft (x : Graft) (k1 : Nat) : (s.withGft x).ring k1 = s.ring k1 := (rfl)
@[simp] theorem State.reg_withSap (x : SapUnit) (b1 : Nat) : (s.withSap x).reg b1 = s.reg b1 := (rfl)
@[simp] theorem State.tb_withSap (x : SapUnit) (k1 : Nat) : (s.withSap x).tb k1 = s.tb k1 := (rfl)
@[simp] theorem State.eng_withSap (x : SapUnit) (k1 : Nat) : (s.withSap x).eng k1 = s.eng k1 := (rfl)
@[simp] theorem State.ring_withSap (x : SapUnit) (k1 : Nat) : (s.withSap x).ring k1 = s.ring k1 := (rfl)

end Sys2Proof.Machine
end

