-- ==== Sys2Proof/Laws/Done.lean ====
section
/-! SUPPORT. What follows a command's own effect (`State.done`: the copier's account of lost entries, and the router's work)
can change: the registers, the fault records, the journal, the voter, the gate outputs, the CAN transmit buffers, a due
capture trigger, the events of the Sap engine, and what has left the module. `State.kept` is the rest, and every operation
on the way keeps it. Sent frames stay sent, and a cause that persists stays a cause. -/

namespace Sys2Proof.Machine

/-- The state without what a raised fault, the journal, the voter and the router can write. -/
def State.kept (s : State) : State :=
  { s with
    out := [], regs := [], flt := { order := [], causes := [], reloads := [] }, xst := XStamp.reset, canMem := [], cans := [], acc := 0
    jnl := { s.jnl with ring := [], ovr := 0, lost := none, mark := 0 }
    saf := { s.saf with hitInTest := false, arRunning := false, blkLeft := 0 }
    evr := Router.reset
    gate := { s.gate with chans := [] }
    sap := { s.sap with events := 0 }
    cap := { s.cap with due := false }
    gft := { s.gft with hoReq := 0 } }

variable (s : State)

/-! ## Plain updates -/

@[simp] theorem kept_setReg (a : Nat) (v : Word) : (s.setReg a v).kept = s.kept := by simp [State.kept]
@[simp] theorem kept_setFld (a hi lo v : Nat) : (s.setFld a hi lo v).kept = s.kept := by simp [State.setFld_eq]
@[simp] theorem kept_setBit (a i : Nat) (b : Bool) : (s.setBit a i b).kept = s.kept := by simp [State.setBit_eq]
@[simp] theorem kept_orReg (a m : Nat) : (s.orReg a m).kept = s.kept := by simp [State.orReg_eq]
@[simp] theorem kept_clrReg (a m : Nat) : (s.clrReg a m).kept = s.kept := by simp [State.clrReg_eq]
@[simp] theorem kept_count (a hi lo d : Nat) : (s.count a hi lo d).kept = s.kept := by simp [State.count]
@[simp] theorem kept_setPair (a v : Nat) : (s.setPair a v).kept = s.kept := by simp [State.setPair_eq]
@[simp] theorem kept_emit (o : Output) : (s.emit o).kept = s.kept := by simp [State.kept]
@[simp] theorem kept_ended (st : Nat) : (s.ended st).kept = s.kept := by simp [State.kept]
@[simp] theorem kept_setCw (a : Nat) (v : Word) : (s.setCw a v).kept = s.kept := by simp [State.kept]
@[simp] theorem kept_setCan (c : Nat) (u : CanUnit) : (s.setCan c u).kept = s.kept := by simp [State.kept]
@[simp] theorem kept_setTxb (c b : Nat) (t : TxBuf) : (s.setTxb c b t).kept = s.kept := by simp [State.setTxb]
@[simp] theorem kept_setBufSt (c b v : Nat) : (s.setBufSt c b v).kept = s.kept := by simp [State.setBufSt]
@[simp] theorem kept_setGch (ch : Nat) (c : GateCh) : (s.setGch ch c).kept = s.kept := by simp only [State.kept, State.setGch]
@[simp] theorem kept_withFlt (x : FltUnit) : (s.withFlt x).kept = s.kept := by simp [State.kept]
@[simp] theorem kept_withEvr (x : Router) : (s.withEvr x).kept = s.kept := by simp [State.kept]
theorem kept_withJnl (a : Sparse JEntry) (b : Nat) (c : Option (Nat × Nat)) (d : Nat) :
    (s.withJnl { s.jnl with ring := a, ovr := b, lost := c, mark := d }).kept = s.kept := by simp [State.kept]
@[simp] theorem kept_xstamp : s.xstamp.kept = s.kept := rfl
theorem kept_withSaf (a b : Bool) (c : Nat) :
    (s.withSaf { s.saf with hitInTest := a, arRunning := b, blkLeft := c }).kept = s.kept := by simp [State.kept]
theorem kept_withCap (a : Bool) : (s.withCap { s.cap with due := a }).kept = s.kept := by simp [State.kept]
theorem kept_withGft (a : Nat) : (s.withGft { s.gft with hoReq := a }).kept = s.kept := by simp [State.kept]
theorem kept_withSap (a : BitVec 8) : (s.withSap { s.sap with events := a }).kept = s.kept := by simp [State.kept]
@[simp] theorem kept_setGuard (src : Nat) (g : Guard) : (s.setGuard src g).kept = s.kept := by simp [State.setGuard]

theorem forEach_kept {α : Type} {f : State → α → State} (h : ∀ s x, (f s x).kept = s.kept) (l : List α) :
    (forEach f l s).kept = s.kept := by
  induction l generalizing s with
  | nil => rfl
  | cons x xs ih => rw [forEach, ih, h]

/-! ## Journal -/

@[simp] theorem kept_jPut (e : JEntry) : (s.jPut e).kept = s.kept := by
  simp only [State.jPut]
  split <;> simp <;> exact kept_withJnl s _ _ _ _
@[simp] theorem kept_jAppend (o ty : Nat) (r : Bool) (a : Nat) (x y : Word) (c : Bool) :
    (s.jAppend o ty r a x y c).kept = s.kept := by simp [State.jAppend]
@[simp] theorem kept_jStamp (o : Nat) : (s.jStamp o).kept = s.kept := by simp [State.jStamp]
@[simp] theorem kept_jSafety (a : Nat) (x y : Word) : (s.jSafety a x y).kept = s.kept := by simp [State.jSafety]
@[simp] theorem kept_putJ (o a : Nat) (v : Word) : (s.putJ o a v).kept = s.kept := by
  unfold State.putJ; split <;> simp
@[simp] theorem kept_putFldJ (o a hi lo v : Nat) : (s.putFldJ o a hi lo v).kept = s.kept := by simp [State.putFldJ]

@[simp] theorem kept_jOrder : s.jOrder.kept = s.kept := kept_withJnl s _ _ _ _

/-! ## Voter -/

@[simp] theorem kept_injectBlk : s.injectBlk.kept = s.kept := by
  unfold State.injectBlk; exact forEach_kept s (by intros; simp) _
@[simp] theorem kept_voterAssert (smt : Bool) : (s.voterAssert smt).kept = s.kept := by
  have h := kept_withSaf s (s.saf.hitInTest || s.saf.testOut.isSome) false s.saf.blkLeft
  simp only [State.voterAssert]
  cases smt <;> simp only [if_true, if_false, Bool.false_eq_true, kept_setFld, kept_setBit]
  all_goals
    split
    · exact h
    · rw [kept_injectBlk]
      exact (kept_withSaf _ _ _ _).trans ((kept_setBit _ _ _ _).trans h)
@[simp] theorem kept_safOnset (n : Nat) : (s.safOnset n).kept = s.kept := by simp [State.safOnset]
@[simp] theorem kept_safWait : s.safWait.kept = s.kept := by simp [State.safWait]
@[simp] theorem kept_safEval : s.safEval.kept = s.kept := by
  have h : ∀ l, (forEach State.safOnset l (s.setReg SAF_DEMAND (w32 s.safActive))).kept = s.kept :=
    fun l => by rw [forEach_kept _ kept_safOnset]; simp
  unfold State.safEval
  dsimp only
  split
  · rfl
  · rw [kept_safWait]
    exact (kept_withSaf _ _ _ _).trans (h _)
@[simp] theorem kept_safPulse (n : Nat) : (s.safPulse n).kept = s.kept := by
  simp only [State.safPulse]
  rw [kept_safWait]
  exact (kept_withSaf _ _ _ _).trans (kept_safOnset s n)
@[simp] theorem kept_setRun (v : Nat) : (s.setRun v).kept = s.kept := by simp [State.setRun]
@[simp] theorem kept_runFault : s.runFault.kept = s.kept := by
  unfold State.runFault; split
  · simp
  · split <;> simp

/-! ## Fault records -/

@[simp] theorem kept_jFault (o c r : Nat) (w : Word) : (s.jFault o c r w).kept = s.kept := by simp [State.jFault]
@[simp] theorem kept_markConcurrent (c t : Nat) : (s.markConcurrent c t).kept = s.kept := by
  unfold State.markConcurrent; dsimp only; split
  · rfl
  · exact forEach_kept s (by intros; simp) _
@[simp] theorem kept_openRec (r c u t : Nat) (p : Bool) (cap : Option Capture) :
    (s.openRec r c u t p cap).kept = s.kept := by
  unfold State.openRec; dsimp only
  rw [kept_jFault, kept_markConcurrent, kept_orReg, kept_setReg, kept_withFlt]
  split <;> simp only [kept_setReg, kept_setPair]
@[simp] theorem kept_mergeRec (r c u t : Nat) (p : Bool) : (s.mergeRec r c u t p).kept = s.kept := by
  simp only [State.mergeRec]; split <;> cases p <;> simp
@[simp] theorem kept_overflowRec (c u t : Nat) (p : Bool) : (s.overflowRec c u t p).kept = s.kept := by
  simp only [State.overflowRec]; split <;> simp
@[simp] theorem kept_placeRaise (c u t : Nat) (p : Bool) (cap : Option Capture) :
    (s.placeRaise c u t p cap).1.kept = s.kept := by
  simp only [State.placeRaise]
  cases s.newestRec (c / 256) false <;> cases s.freeRec (c / 256) <;> simp
  all_goals split <;> simp
@[simp] theorem kept_post (src : Nat) : (s.post src).kept = s.kept := by
  unfold State.post; split <;> simp
@[simp] theorem kept_alarm (c : Nat) : (s.alarm c).kept = s.kept := by
  unfold State.alarm; split <;> simp
@[simp] theorem kept_recordRaise (c u tag t : Nat) (p : Bool) (cap : Option Capture) :
    (s.recordRaise c u tag t p cap).kept = s.kept := by
  simp only [State.recordRaise]
  cases p <;> simp only [if_true, if_false, Bool.false_eq_true]
  all_goals split <;> simp
@[simp] theorem kept_fltRefresh : s.fltRefresh.kept = s.kept := by simp [State.fltRefresh]
@[simp] theorem kept_faultHandoff (t : Nat) : (s.faultHandoff t).kept = s.kept := by
  unfold State.faultHandoff
  split
  · split
    · exact kept_withGft s _
    · simp
  · rfl
@[simp] theorem kept_react (c t : Nat) : (s.react c t).kept = s.kept := by
  simp only [State.react]; split <;> simp
@[simp] theorem kept_raiseCore (c u tag t : Nat) (p : Bool) (cap : Option Capture) :
    (s.raiseCore c u tag t p cap).kept = s.kept := by simp [State.raiseCore]
@[simp] theorem kept_lossCheck : s.lossCheck.kept = s.kept := by
  unfold State.lossCheck; split
  · rfl
  · simp; exact kept_withJnl s _ _ _ _
@[simp] theorem kept_raise (c u : Nat) : (s.raise c u).kept = s.kept := by simp [State.raise]
@[simp] theorem kept_raiseHeld (c u : Nat) : (s.raiseHeld c u).kept = s.kept := by simp [State.raiseHeld]
@[simp] theorem kept_raiseAcc (c u : Nat) (cap : Capture) : (s.raiseAcc c u cap).kept = s.kept := by simp [State.raiseAcc]
@[simp] theorem kept_rangeFault : s.rangeFault.kept = s.kept := by simp [State.rangeFault]
@[simp] theorem kept_freeRecord (o r : Nat) : (s.freeRecord o r).kept = s.kept := by
  simp only [State.freeRecord, kept_jFault, kept_withFlt]
  exact forEach_kept s (by intros; simp) _
@[simp] theorem kept_tryFree (r : Nat) : (s.tryFree r).kept = s.kept := by
  unfold State.tryFree; split <;> simp
@[simp] theorem kept_endCause (c u : Nat) : (s.endCause c u).kept = s.kept := by
  simp only [State.endCause]
  split
  · split
    · simp
    · simp only [kept_safEval, kept_fltRefresh]
      rw [forEach_kept _ (by intros; simp)]; simp
  · rfl
@[simp] theorem kept_endCauseAll (c : Nat) : (s.endCauseAll c).kept = s.kept :=
  forEach_kept s (by intros; simp) _
@[simp] theorem kept_holdTag (c u tag : Nat) (on : Bool) : (s.holdTag c u tag on).kept = s.kept := by
  unfold State.holdTag; split
  · split <;> simp
  · simp
@[simp] theorem kept_holdCause (c u : Nat) (on : Bool) : (s.holdCause c u on).kept = s.kept := by
  unfold State.holdCause; split
  · split <;> simp
  · simp
@[simp] theorem kept_level (src : Nat) (on : Bool) : (s.level src on).kept = s.kept := by
  simp only [State.level]; split
  · rfl
  · split
    · simp
    · split <;> simp
@[simp] theorem kept_journal (o ty : Nat) (r : Bool) (a : Nat) (x y : Word) : (s.journal o ty r a x y).kept = s.kept := by
  unfold State.journal; split <;> simp
@[simp] theorem kept_writeJ (m : Master) (a : Nat) (v : Word) : (s.writeJ m a v).kept = s.kept := by simp [State.writeJ]
@[simp] theorem kept_strobeJ (m : Master) (a : Nat) (v : Word) : (s.strobeJ m a v).kept = s.kept := by
  simp [State.strobeJ]
@[simp] theorem kept_refusedJ (m : Master) (a : Nat) (v : Word) : (s.refusedJ m a v).kept = s.kept := by
  simp [State.refusedJ]
@[simp] theorem kept_refuse (c u a : Nat) (m : Master) : (s.refuse c u a m).kept = s.kept := by simp [State.refuse]
@[simp] theorem kept_lockedRefuse (a : Nat) (m : Master) : (s.lockedRefuse a m).kept = s.kept := by
  simp [State.lockedRefuse]
@[simp] theorem kept_busErrBy (m a : Nat) (x w : BitVec 2) : (s.busErrBy m a x w).kept = s.kept := by
  simp [State.busErrBy]
@[simp] theorem kept_busErr (a : Nat) (m : Master) (x w : BitVec 2) : (s.busErr a m x w).kept = s.kept := by
  simp [State.busErr]
@[simp] theorem kept_setEpoch (c e : Nat) : (s.setEpoch c e).kept = s.kept := by simp [State.setEpoch]
@[simp] theorem kept_nextEpoch (c : Nat) : (s.nextEpoch c).kept = s.kept := by simp [State.nextEpoch]

/-! ## Router -/

@[simp] theorem kept_canLate (c b : Nat) : (s.canLate c b).kept = s.kept := by simp [State.canLate]
@[simp] theorem kept_canRefuse (c a : Nat) (m : Byte) : (s.canRefuse c a m).kept = s.kept := by simp [State.canRefuse]
@[simp] theorem kept_submit (c b a : Nat) (m : Byte) : (s.submit c b a m).kept = s.kept := by
  unfold State.submit; dsimp only
  split
  · simp
  split
  · simp
  split
  · split
    · simp
    · split <;> simp
  · split
    · simp
    · split <;> simp
@[simp] theorem kept_chanOff (ch : Nat) : (s.chanOff ch).kept = s.kept := by
  simp only [State.chanOff]; split <;> simp
@[simp] theorem kept_gdrShow : s.gdrShow.kept = s.kept := by simp [State.gdrShow]
@[simp] theorem kept_gateGroupOff (g : Nat) : (s.gateGroupOff g).kept = s.kept := by
  simp only [State.gateGroupOff, kept_gdrShow]
  split
  · rfl
  · exact forEach_kept s (by intros; simp) _
@[simp] theorem kept_canTrigger (d : Nat) : (s.canTrigger d).kept = s.kept := by
  simp only [State.canTrigger]
  split
  · rfl
  · split <;> simp
@[simp] theorem kept_heddleTrigger (n t : Nat) : (s.heddleTrigger n t).kept = s.kept := by
  simp only [State.heddleTrigger]; split <;> simp
@[simp] theorem kept_safeBlockRequest : s.safeBlockRequest.kept = s.kept := by
  simp only [State.safeBlockRequest]; split <;> simp
@[simp] theorem kept_crownIrq (j : Nat) : (s.crownIrq j).kept = s.kept := by
  simp only [State.crownIrq]; split <;> simp
@[simp] theorem kept_deliver (d : Nat) : (s.deliver d).kept = s.kept := by
  simp only [State.deliver]
  split
  · simp
  split
  · simp
  split
  · split
    · exact (kept_withCap _ _).trans (kept_count _ _ _ _ _)
    · simp
  split
  · simp
  split
  · simp
  split
  · simp
  · exact (kept_withSap _ _).trans (kept_count _ _ _ _ _)
@[simp] theorem kept_setMasked (o src : Nat) (on : Bool) : (s.setMasked o src on).kept = s.kept := by
  simp [State.setMasked]
@[simp] theorem kept_routerFire (src : Nat) : (s.routerFire src).kept = s.kept := by
  have h : ∀ (l : List Nat) (t : State), (forEach State.deliver l t).kept = t.kept :=
    fun l t => forEach_kept t (by intros; simp) l
  unfold State.routerFire; dsimp only
  split
  · simp
  split
  · simp [h]
  split
  · split
    · split <;> simp [h]
    · simp [h]
  · simp [h]
@[simp] theorem kept_drain (n : Nat) : (s.drain n).kept = s.kept := by
  induction n generalizing s with
  | zero => rfl
  | succ n ih =>
    simp only [State.drain]
    split
    · rfl
    · rw [ih]; simp
@[simp] theorem kept_settle : s.settle.kept = s.kept := by simp [State.settle]

/-! ## Frames sent and causes that persist -/

@[simp] theorem out_setFld (a hi lo v : Nat) : (s.setFld a hi lo v).out = s.out := by simp [State.setFld_eq]
@[simp] theorem flt_setFld (a hi lo v : Nat) : (s.setFld a hi lo v).flt = s.flt := by simp [State.setFld_eq]
@[simp] theorem out_setBit (a i : Nat) (b : Bool) : (s.setBit a i b).out = s.out := by simp [State.setBit_eq]
@[simp] theorem flt_setBit (a i : Nat) (b : Bool) : (s.setBit a i b).flt = s.flt := by simp [State.setBit_eq]
@[simp] theorem out_orReg (a m : Nat) : (s.orReg a m).out = s.out := by simp [State.orReg_eq]
@[simp] theorem flt_orReg (a m : Nat) : (s.orReg a m).flt = s.flt := by simp [State.orReg_eq]
@[simp] theorem out_clrReg (a m : Nat) : (s.clrReg a m).out = s.out := by simp [State.clrReg_eq]
@[simp] theorem flt_clrReg (a m : Nat) : (s.clrReg a m).flt = s.flt := by simp [State.clrReg_eq]
@[simp] theorem out_count (a hi lo d : Nat) : (s.count a hi lo d).out = s.out := by simp [State.count]
@[simp] theorem flt_count (a hi lo d : Nat) : (s.count a hi lo d).flt = s.flt := by simp [State.count]
@[simp] theorem out_setPair (a v : Nat) : (s.setPair a v).out = s.out := by simp [State.setPair_eq]
@[simp] theorem flt_setPair (a v : Nat) : (s.setPair a v).flt = s.flt := by simp [State.setPair_eq]
@[simp] theorem out_setTxb (c b : Nat) (t : TxBuf) : (s.setTxb c b t).out = s.out := by simp [State.setTxb]
@[simp] theorem flt_setTxb (c b : Nat) (t : TxBuf) : (s.setTxb c b t).flt = s.flt := by simp [State.setTxb]
@[simp] theorem out_setBufSt (c b v : Nat) : (s.setBufSt c b v).out = s.out := by simp [State.setBufSt]
@[simp] theorem flt_setBufSt (c b v : Nat) : (s.setBufSt c b v).flt = s.flt := by simp [State.setBufSt]
@[simp] theorem out_jPut (e : JEntry) : (s.jPut e).out = s.out := by
  simp only [State.jPut]; split <;> simp
@[simp] theorem flt_jPut (e : JEntry) : (s.jPut e).flt = s.flt := by
  simp only [State.jPut]; split <;> simp
@[simp] theorem out_xstamp : s.xstamp.out = s.out := rfl
@[simp] theorem flt_xstamp : s.xstamp.flt = s.flt := rfl
@[simp] theorem out_jAppend (o ty : Nat) (r : Bool) (a : Nat) (x y : Word) (c : Bool) : (s.jAppend o ty r a x y c).out = s.out := by simp [State.jAppend]
@[simp] theorem flt_jAppend (o ty : Nat) (r : Bool) (a : Nat) (x y : Word) (c : Bool) : (s.jAppend o ty r a x y c).flt = s.flt := by simp [State.jAppend]
@[simp] theorem out_jStamp (o : Nat) : (s.jStamp o).out = s.out := by simp [State.jStamp]
@[simp] theorem flt_jStamp (o : Nat) : (s.jStamp o).flt = s.flt := by simp [State.jStamp]
@[simp] theorem out_jSafety (a : Nat) (x y : Word) : (s.jSafety a x y).out = s.out := by simp [State.jSafety]
@[simp] theorem flt_jSafety (a : Nat) (x y : Word) : (s.jSafety a x y).flt = s.flt := by simp [State.jSafety]
@[simp] theorem out_jFault (o c r : Nat) (w : Word) : (s.jFault o c r w).out = s.out := by simp [State.jFault]
@[simp] theorem flt_jFault (o c r : Nat) (w : Word) : (s.jFault o c r w).flt = s.flt := by simp [State.jFault]
@[simp] theorem out_putJ (o a : Nat) (v : Word) : (s.putJ o a v).out = s.out := by
  unfold State.putJ; split <;> simp
@[simp] theorem out_putFldJ (o a hi lo v : Nat) : (s.putFldJ o a hi lo v).out = s.out := by simp [State.putFldJ]
@[simp] theorem out_setRun (v : Nat) : (s.setRun v).out = s.out := by simp [State.setRun]
@[simp] theorem out_runFault : s.runFault.out = s.out := by
  unfold State.runFault; split
  · simp
  · split <;> simp
@[simp] theorem flt_putJ (o a : Nat) (v : Word) : (s.putJ o a v).flt = s.flt := by
  unfold State.putJ; split <;> simp
@[simp] theorem flt_putFldJ (o a hi lo v : Nat) : (s.putFldJ o a hi lo v).flt = s.flt := by simp [State.putFldJ]
@[simp] theorem flt_setRun (v : Nat) : (s.setRun v).flt = s.flt := by simp [State.setRun]
@[simp] theorem flt_runFault : s.runFault.flt = s.flt := by
  unfold State.runFault; split
  · simp
  · split <;> simp

/-- `t` has sent what `s` has, and the causes that persist in `s` persist in `t`. -/
def Grows (s t : State) : Prop := (∀ o ∈ s.out, o ∈ t.out) ∧ ∀ c ∈ s.flt.causes, c ∈ t.flt.causes

theorem Grows.refl : Grows s s := ⟨fun _ h => h, fun _ h => h⟩
theorem Grows.trans {a b c : State} (h : Grows a b) (k : Grows b c) : Grows a c :=
  ⟨fun o ho => k.1 o (h.1 o ho), fun c hc => k.2 c (h.2 c hc)⟩
theorem Grows.of_same {a b : State} (h : b.out = a.out ∧ b.flt = a.flt) : Grows a b :=
  ⟨fun _ ho => h.1 ▸ ho, fun _ hc => h.2 ▸ hc⟩
theorem Grows.of_eq {a b : State} (h : b.out = a.out) (k : b.flt = a.flt) : Grows a b :=
  ⟨fun _ ho => h ▸ ho, fun _ hc => k ▸ hc⟩
theorem forEach_grows {α : Type} {f : State → α → State} (h : ∀ s x, Grows s (f s x)) (l : List α) :
    Grows s (forEach f l s) := by
  induction l generalizing s with
  | nil => exact Grows.refl s
  | cons x xs ih => exact (h s x).trans (ih (f s x))

theorem grows_emit (o : Output) : Grows s (s.emit o) := ⟨fun x h => by simp [h], fun _ h => h⟩
theorem grows_ended (st : Nat) : Grows s (s.ended st) := Grows.of_eq (by simp) (by simp)
theorem grows_withEvr (x : Router) : Grows s (s.withEvr x) := Grows.of_eq (by simp) (by simp)
theorem grows_injectBlk : Grows s s.injectBlk := by
  unfold State.injectBlk
  exact forEach_grows s (fun s r => (grows_emit s _).trans (grows_emit _ _)) _
theorem grows_voterAssert (smt : Bool) : Grows s (s.voterAssert smt) := by
  unfold State.voterAssert; dsimp only
  generalize hx : s.withSaf _ = x
  have h0 : Grows s x := by subst hx; exact Grows.of_eq (by simp) (by simp)
  generalize hy : (if x.spb = true then x else _) = y
  have h1 : Grows x y := by
    subst hy; split
    · exact Grows.refl x
    · exact (Grows.of_eq (by simp) (by simp)).trans (grows_injectBlk _)
  split
  · exact h0.trans (h1.trans (Grows.of_eq (by simp) (by simp)))
  · exact h0.trans h1
theorem grows_safOnset (n : Nat) : Grows s (s.safOnset n) := by
  unfold State.safOnset; dsimp only
  exact (Grows.of_eq (by simp) (by simp)).trans (grows_voterAssert _ _)
theorem grows_safWait : Grows s s.safWait := Grows.of_eq (by simp [State.safWait]) (by simp [State.safWait])
theorem grows_safEval : Grows s s.safEval := by
  have h : ∀ l, Grows s (forEach State.safOnset l (s.setReg SAF_DEMAND (w32 s.safActive))) :=
    fun l => Grows.trans (Grows.of_eq (by simp) (by simp)) (forEach_grows _ grows_safOnset l)
  unfold State.safEval; dsimp only
  split
  · exact Grows.refl s
  · refine Grows.trans ?_ (grows_safWait _)
    exact (h _).trans (Grows.of_eq (State.withSaf_out _ _) (State.withSaf_flt _ _))
theorem grows_safPulse (n : Nat) : Grows s (s.safPulse n) := by
  unfold State.safPulse; dsimp only
  refine Grows.trans ?_ (grows_safWait _)
  exact (grows_safOnset s n).trans (Grows.of_eq (State.withSaf_out _ _) (State.withSaf_flt _ _))
theorem grows_withFlt (o : List Nat) : Grows s (s.withFlt { s.flt with order := o }) :=
  ⟨fun _ h => h, fun _ h => h⟩
theorem grows_markConcurrent (c t : Nat) : Grows s (s.markConcurrent c t) := by
  unfold State.markConcurrent; dsimp only; split
  · exact Grows.refl s
  · exact forEach_grows s (fun s r => Grows.of_eq (by simp) (by simp)) _
theorem grows_openRec (r c u t : Nat) (p : Bool) (cap : Option Capture) : Grows s (s.openRec r c u t p cap) := by
  unfold State.openRec; dsimp only
  refine Grows.trans ?_ (Grows.of_eq (out_jFault _ _ _ _ _) (flt_jFault _ _ _ _ _))
  refine Grows.trans ?_ (grows_markConcurrent _ _ _)
  refine Grows.trans ?_ (Grows.of_eq (out_orReg _ _ _) (flt_orReg _ _ _))
  refine Grows.trans ?_ (Grows.of_eq (State.setReg_out _ _ _) (State.setReg_flt _ _ _))
  refine Grows.trans ?_ (grows_withFlt _ _)
  split <;> exact Grows.of_eq (by simp) (by simp)
theorem grows_mergeRec (r c u t : Nat) (p : Bool) : Grows s (s.mergeRec r c u t p) := by
  unfold State.mergeRec; dsimp only
  split <;> cases p <;> exact Grows.of_eq (by simp) (by simp)
theorem grows_overflowRec (c u t : Nat) (p : Bool) : Grows s (s.overflowRec c u t p) := by
  unfold State.overflowRec; dsimp only
  generalize hx : (s.count FLT_CNT 31 16 1).orReg FLT_EVENTS (if c = 0x0D0C then 0 else 4) = x
  have h0 : Grows s x := by subst hx; exact Grows.of_eq (by simp) (by simp)
  split
  · exact h0.trans (grows_mergeRec _ _ _ _ _ _)
  · exact h0
theorem grows_placeRaise (c u t : Nat) (p : Bool) (cap : Option Capture) : Grows s (s.placeRaise c u t p cap).1 := by
  have h : Grows s (match s.freeRec (c / 256) with
    | some r => (s.openRec r c u t p cap, false)
    | none => (s.overflowRec c u t p, true)).1 := by
    split
    · exact grows_openRec _ _ _ _ _ _ _
    · exact grows_overflowRec _ _ _ _ _
  unfold State.placeRaise; dsimp only
  split
  · split
    · exact h
    · exact grows_mergeRec _ _ _ _ _ _
  · exact h
theorem grows_post (src : Nat) : Grows s (s.post src) := by
  unfold State.post; split
  · exact Grows.refl s
  · exact Grows.of_eq (by simp) (by simp)
theorem grows_alarm (c : Nat) : Grows s (s.alarm c) := by
  unfold State.alarm; split
  · exact (grows_emit s _).trans (grows_post _ _)
  · exact Grows.refl s
theorem grows_recordRaise (c u tag t : Nat) (p : Bool) (cap : Option Capture) :
    Grows s (s.recordRaise c u tag t p cap) := by
  unfold State.recordRaise
  generalize hx : (if p = true then s.withFlt _ else s) = x
  have h0 : Grows s x := by
    subst hx; split
    · exact ⟨fun _ h => h, fun _ h => List.mem_cons_of_mem _ h⟩
    · exact Grows.refl s
  have h1 := h0.trans (grows_placeRaise x c u t p cap)
  dsimp only
  split
  · exact (h1.trans (grows_placeRaise _ _ _ _ _ _)).trans (grows_alarm _ _)
  · exact h1
theorem grows_fltRefresh : Grows s s.fltRefresh :=
  Grows.of_eq (by simp [State.fltRefresh]) (by simp [State.fltRefresh])
theorem grows_faultHandoff (t : Nat) : Grows s (s.faultHandoff t) := by
  unfold State.faultHandoff
  split
  · split
    · exact Grows.of_eq (by simp) (by simp)
    · exact grows_recordRaise _ _ _ _ _ _ _
  · exact Grows.refl s
theorem grows_react (c t : Nat) : Grows s (s.react c t) := by
  unfold State.react
  generalize hx : s.alarm c = x
  have h0 : Grows s x := hx ▸ grows_alarm s c
  dsimp only
  split
  · refine h0.trans (Grows.trans ?_ (grows_safEval _))
    refine Grows.trans ?_ (grows_fltRefresh _)
    exact (Grows.of_eq (out_runFault x) (flt_runFault x)).trans (grows_faultHandoff _ _)
  · exact h0.trans (grows_fltRefresh x)
theorem grows_raiseCore (c u tag t : Nat) (p : Bool) (cap : Option Capture) :
    Grows s (s.raiseCore c u tag t p cap) := (grows_recordRaise _ _ _ _ _ _ _).trans (grows_react _ _ _)
theorem grows_lossCheck : Grows s s.lossCheck := by
  unfold State.lossCheck; split
  · exact Grows.refl s
  · exact Grows.trans (Grows.of_eq (by simp) (by simp)) (grows_raiseCore _ _ _ _ _ _ _)
theorem grows_raise (c u : Nat) : Grows s (s.raise c u) := grows_raiseCore _ _ _ _ _ _ _
theorem grows_raiseHeld (c u : Nat) : Grows s (s.raiseHeld c u) := grows_raiseCore _ _ _ _ _ _ _
theorem grows_raiseAcc (c u : Nat) (cap : Capture) : Grows s (s.raiseAcc c u cap) :=
  (grows_raiseCore s _ _ _ _ _ _).trans (grows_ended _ _)
theorem grows_rangeFault : Grows s s.rangeFault := by
  unfold State.rangeFault
  exact ((Grows.of_eq (out_orReg s TIM_EVENTS 0x1000) (flt_orReg s TIM_EVENTS 0x1000)).trans (grows_raise _ _ _)).trans
    (grows_ended _ _)
theorem grows_holdTag (c u tag : Nat) : Grows s (s.holdTag c u tag true) := by
  unfold State.holdTag; simp only [if_true]; split
  · exact Grows.refl s
  · exact grows_raiseCore _ _ _ _ _ _ _
/-- A cause raised to persist is a cause. -/
theorem cause_raiseHeld (c u : Nat) : (c, u) ∈ (s.raiseHeld c u).flt.causes := by
  unfold State.raiseHeld State.raiseCore
  refine (grows_react _ _ _).2 _ ?_
  unfold State.recordRaise
  simp only [if_true]
  have h := (grows_placeRaise (s.withFlt { s.flt with causes := (c, u) :: s.flt.causes }) c u (s.now 0) true none).2 (c, u)
    (by simp)
  split
  · exact (grows_alarm _ _).2 _ ((grows_placeRaise _ _ _ _ _ _).2 _ h)
  · exact h
theorem grows_canLate (c b : Nat) : Grows s (s.canLate c b) := by
  unfold State.canLate
  exact Grows.trans (Grows.of_eq (by simp) (by simp)) (grows_raise _ _ _)
theorem grows_submit (c b a : Nat) (m : Byte) : Grows s (s.submit c b a m) := by
  unfold State.submit; dsimp only
  split
  · exact Grows.trans (Grows.of_eq (by simp) (by simp)) (grows_raiseAcc _ _ _ _)
  split
  · exact Grows.of_eq (by simp) (by simp)
  split
  · split
    · exact grows_rangeFault s
    · split
      · exact Grows.trans (Grows.of_eq (by simp) (by simp)) (grows_canLate _ _ _)
      · exact Grows.of_eq (by simp) (by simp)
  · split
    · exact grows_rangeFault s
    · split
      · exact Grows.trans (Grows.of_eq (by simp) (by simp)) (grows_canLate _ _ _)
      · exact Grows.of_eq (by simp) (by simp)
theorem grows_chanOff (ch : Nat) : Grows s (s.chanOff ch) := by
  unfold State.chanOff; dsimp only; split <;> exact Grows.of_eq (by simp) (by simp)
theorem grows_gateGroupOff (g : Nat) : Grows s (s.gateGroupOff g) := by
  unfold State.gateGroupOff State.gdrShow
  refine Grows.trans ?_ (Grows.of_eq (out_setFld _ _ _ _ _) (flt_setFld _ _ _ _ _))
  refine Grows.trans ?_ (Grows.of_eq (out_setFld _ _ _ _ _) (flt_setFld _ _ _ _ _))
  split
  · exact Grows.refl s
  · exact forEach_grows s grows_chanOff _
theorem grows_crownIrq (j : Nat) : Grows s (s.crownIrq j) := by
  unfold State.crownIrq; dsimp only
  refine Grows.trans (Grows.of_eq (out_setBit s EVR_IRQ j true) (flt_setBit s EVR_IRQ j true)) ?_
  split
  · exact grows_emit _ _
  · exact Grows.refl _
theorem grows_safeBlockRequest : Grows s s.safeBlockRequest := by
  unfold State.safeBlockRequest; dsimp only
  refine Grows.trans ((Grows.of_eq (out_orReg s EVR_EVENTS 4) (flt_orReg s EVR_EVENTS 4)).trans (grows_raise _ 0x0806 31)) ?_
  split
  · exact grows_safPulse _ _
  · exact Grows.refl _
theorem grows_deliver (d : Nat) : Grows s (s.deliver d) := by
  unfold State.deliver; dsimp only
  refine Grows.trans (Grows.of_eq (out_count s (EVR_DST_CNT d) 15 0 1) (flt_count s (EVR_DST_CNT d) 15 0 1)) ?_
  generalize s.count (EVR_DST_CNT d) 15 0 1 = x
  split
  · exact Grows.trans (Grows.of_eq (by simp) (by simp)) (grows_gateGroupOff _ _)
  split
  · exact grows_safeBlockRequest x
  split
  · split
    · exact Grows.of_eq (by simp) (by simp)
    · exact Grows.refl x
  split
  · unfold State.heddleTrigger; dsimp only; split
    · exact Grows.of_eq (by simp) (by simp)
    · exact Grows.refl x
  split
  · unfold State.canTrigger; dsimp only; split
    · exact Grows.refl x
    · split
      · exact Grows.of_eq (by simp) (by simp)
      · exact grows_submit _ _ _ _ _
  split
  · exact grows_crownIrq _ _
  · exact Grows.of_eq (by simp) (by simp)
theorem grows_routerFire (src : Nat) : Grows s (s.routerFire src) := by
  have h : ∀ (l : List Nat) (t : State), Grows t (forEach State.deliver l t) :=
    fun l t => forEach_grows t grows_deliver l
  have hg : ∀ (t : State) (g : Guard), Grows t (t.setGuard src g) := fun t g => grows_withEvr t _
  unfold State.routerFire; dsimp only
  refine Grows.trans (Grows.of_eq (out_count s (EVR_SRC_STAT src) 31 16 1) (flt_count s (EVR_SRC_STAT src) 31 16 1)) ?_
  generalize s.count (EVR_SRC_STAT src) 31 16 1 = x
  have hm : Grows x (((x.setMasked (originBlk 8 15) src true).orReg EVR_EVENTS 1).holdTag 0x0801 31 src true) :=
    Grows.trans (Grows.of_eq (by simp [State.setMasked]) (by simp [State.setMasked])) (grows_holdTag _ _ _ _)
  split
  · exact Grows.refl x
  split
  · exact h _ _
  split
  · split
    · split
      · exact hm
      · exact (hg _ _).trans (h _ _)
    · exact (hg _ _).trans (h _ _)
  · exact (hg _ _).trans (h _ _)
theorem grows_drain (n : Nat) : Grows s (s.drain n) := by
  induction n generalizing s with
  | zero => exact Grows.refl s
  | succ n ih =>
    unfold State.drain
    split
    · exact Grows.refl s
    · dsimp only
      exact ((grows_withEvr s _).trans (grows_routerFire _ _)).trans (ih _)
theorem grows_settle : Grows s s.settle := (grows_drain s 256).trans (grows_withEvr _ _)

theorem grows_jOrder : Grows s s.jOrder := Grows.of_eq (by simp [State.jOrder]) (by simp [State.jOrder])
@[simp] theorem jOrder_evr : s.jOrder.evr = s.evr := by simp [State.jOrder]
@[simp] theorem settle_posted : s.settle.evr.posted = [] := by simp [State.settle]
@[simp] theorem settle_fired : s.settle.evr.fired = [] := by simp [State.settle]

/-! ## The end of a command -/

/-- What follows a command's own effect: it ends in a next state, keeps the access status, and has worked off every event. -/
theorem done_keeps : ∃ t, s.done = .next t ∧ t.kept = s.kept ∧ Grows s t ∧ t.acc = s.acc ∧ t.evr.posted = []
    ∧ t.evr.fired = [] ∧ t.jnl.mark = (t.reg JNL_HEAD).toNat :=
  ⟨_, rfl, by simp, (((grows_lossCheck s).trans (grows_settle _)).trans (grows_jOrder _)).trans (grows_ended _ _), by simp,
    by simp, by simp, by simp [State.jOrder, State.reg]⟩

/-- A command that has caused no event and lost no journal entry ends with its own effect. -/
theorem done_quiet (h : s.evr.posted = []) (k : s.evr.fired = []) (j : s.jnl.ovr = 0)
    (m : s.jnl.mark = (s.reg JNL_HEAD).toNat) : s.done = .next s := by
  have hl : s.lossCheck = s := by simp [State.lossCheck, j]
  have hd : s.drain 256 = s := by rw [State.drain]; rw [h]
  have hs : s.settle = s := by
    unfold State.settle; rw [hd]
    have : ({ s.evr with posted := [], fired := [] } : Router) = s.evr := by
      cases hr : s.evr; simp_all
    dsimp only; rw [this]; rfl
  have ho : s.jOrder = s := by
    unfold State.jOrder
    rw [← m]
    simp [upTo, jSorted, jGroups, State.withJnl]
  unfold State.done; rw [hl, hs, ho]; rfl

end Sys2Proof.Machine
end

