-- ==== Sys2Proof/Laws/Gives.lean ====
section
/-! SUPPORT. How a statement about a command follows from its own effect: for the fields that `State.done` keeps, for frames
sent and causes that persist, and, where nothing waits, for the whole state. -/

namespace Sys2Proof.Machine

variable {s t : State}

/-! ## The fields that are kept -/

theorem pending_of_kept (h : t.kept = s.kept) : t.pending = s.pending := by
  have := congrArg State.pending h; exact this
theorem freeCtr_of_kept (h : t.kept = s.kept) : t.freeCtr = s.freeCtr := by
  have := congrArg State.freeCtr h; exact this
theorem pairCap_of_kept (h : t.kept = s.kept) : t.pairCap = s.pairCap := by
  have := congrArg State.pairCap h; exact this
theorem pairHeld_of_kept (h : t.kept = s.kept) : t.pairHeld = s.pairHeld := by
  have := congrArg State.pairHeld h; exact this
theorem crown_of_kept (h : t.kept = s.kept) : t.crown = s.crown := by
  have := congrArg State.crown h; exact this
theorem poison_of_kept (h : t.kept = s.kept) : t.poison = s.poison := by
  have := congrArg State.poison h; exact this
theorem dirty_of_kept (h : t.kept = s.kept) : t.dirty = s.dirty := by
  have := congrArg State.dirty h; exact this
theorem cyc_of_kept (h : t.kept = s.kept) : t.cyc = s.cyc := by
  have := congrArg State.cyc h; exact this
theorem tbs_of_kept (h : t.kept = s.kept) : t.tbs = s.tbs := by
  have := congrArg State.tbs h; exact this
theorem tim_of_kept (h : t.kept = s.kept) : t.tim = s.tim := by
  have := congrArg State.tim h; exact this
theorem cmps_of_kept (h : t.kept = s.kept) : t.cmps = s.cmps := by
  have := congrArg State.cmps h; exact this
theorem rings_of_kept (h : t.kept = s.kept) : t.rings = s.rings := by
  have := congrArg State.rings h; exact this
theorem nodes_of_kept (h : t.kept = s.kept) : t.nodes = s.nodes := by
  have := congrArg State.nodes h; exact this
theorem engines_of_kept (h : t.kept = s.kept) : t.engines = s.engines := by
  have := congrArg State.engines h; exact this
theorem wvr_of_kept (h : t.kept = s.kept) : t.wvr = s.wvr := by
  have := congrArg State.wvr h; exact this
theorem eth_of_kept (h : t.kept = s.kept) : t.eth = s.eth := by
  have := congrArg State.eth h; exact this
theorem seed_of_kept (h : t.kept = s.kept) : t.seed = s.seed := by
  have := congrArg State.seed h; exact this
theorem therm_of_kept (h : t.kept = s.kept) : t.therm = s.therm := by
  have := congrArg State.therm h; exact this
theorem rdata_of_kept (h : t.kept = s.kept) : t.rdata = s.rdata := by
  have := congrArg State.rdata h; exact this
theorem tb_of_kept (h : t.kept = s.kept) (n : Nat) : t.tb n = s.tb n := by unfold State.tb; rw [tbs_of_kept h]
theorem now_of_kept (h : t.kept = s.kept) (n : Nat) : t.now n = s.now n := by unfold State.now; rw [tb_of_kept h]
theorem ring_of_kept (h : t.kept = s.kept) (r : Nat) : t.ring r = s.ring r := by unfold State.ring; rw [rings_of_kept h]
theorem node_of_kept (h : t.kept = s.kept) (r p : Nat) : t.node r p = s.node r p := by
  unfold State.node; rw [nodes_of_kept h]
theorem eng_of_kept (h : t.kept = s.kept) (e : Nat) : t.eng e = s.eng e := by unfold State.eng; rw [engines_of_kept h]
theorem cmp_of_kept (h : t.kept = s.kept) (c : Nat) : t.cmp c = s.cmp c := by unfold State.cmp; rw [cmps_of_kept h]

/-! ## Statements from effects -/

/-- What holds of every state that keeps what the effect wrote holds after the command. -/
theorem gives_done {c : Instr} {x : State} {P : State → Prop} (h : exec c s = x.done)
    (p : ∀ t, t.kept = x.kept → Grows x t → t.acc = x.acc → P t) : Gives c s P := by
  obtain ⟨t, ht, hk, hg, ha, _⟩ := done_keeps x
  exact ⟨t, h.trans ht, p t hk hg ha⟩

/-- Where nothing waits and nothing is lost, the command's effect is the next state. -/
theorem gives_settled {c : Instr} {x : State} {P : State → Prop} (h : exec c s = x.done) (hs : x.Settled)
    (hj : x.jnl.ovr = 0) (p : P x) : Gives c s P :=
  ⟨x, h.trans (done_quiet x hs.1 hs.2.1 hj hs.2.2), p⟩

/-- Every command ends with the router idle and the journal in order. -/
theorem done_settled (x t : State) (h : x.done = .next t) : t.Settled := by
  obtain ⟨u, hu, _, _, _, h1, h2, h3⟩ := done_keeps x
  rw [hu] at h; cases h; exact ⟨h1, h2, h3⟩

/-! ## Entries of the journal -/

/-- An entry that the ring has room for changes the ring, its head and the half-full mark (R318). -/
theorem jPut_room (e : JEntry) (n : Nat) (h : s.Room (n + 1)) :
    (s.jPut e).Room n ∧ (s.jPut e).evr = s.evr ∧ (s.jPut e).out = s.out ∧
    ∀ a, a ≠ JNL_HEAD → a ≠ JNL_STATUS → (s.jPut e).reg a = s.reg a := by
  obtain ⟨h0, h1⟩ := h
  have hf : decide (8192 ≤ (s.reg JNL_HEAD).toNat - (s.reg JNL_COPIED).toNat) = false := by
    simp only [decide_eq_false_iff_not]; omega
  have hh : ((w32 ((s.reg JNL_HEAD).toNat + 1)).toNat - (s.reg JNL_COPIED).toNat) + n ≤ 8192 := by
    have hlt := (s.reg JNL_HEAD).isLt
    simp only [w32, BitVec.toNat_ofNat]
    omega
  unfold State.jPut
  dsimp only
  rw [hf]
  simp only [b2n, Bool.false_eq_true, if_false, Nat.add_zero]
  refine ⟨⟨?_, ?_⟩, ?_, ?_, ?_⟩
  · simp [State.setBit_eq, h0]
  · simp only [State.setBit_eq, State.reg_setReg]
    norm_num
    exact hh
  · simp [State.setBit_eq]
  · simp [State.setBit_eq]
  · intro a ha hb
    simp [State.setBit_eq, State.reg_setReg, ha, hb]

theorem jAppend_room (o ty : Nat) (r : Bool) (tg : Nat) (x y : Word) (c : Bool) (n : Nat) (h : s.Room (n + 1)) :
    (s.jAppend o ty r tg x y c).Room n ∧ (s.jAppend o ty r tg x y c).evr = s.evr ∧
    (s.jAppend o ty r tg x y c).out = s.out ∧
    ∀ a, a ≠ JNL_HEAD → a ≠ JNL_STATUS → (s.jAppend o ty r tg x y c).reg a = s.reg a :=
  jPut_room (s := s.xstamp) _ n h

end Sys2Proof.Machine
end

