-- ==== Sys2Proof/Laws/Regs.lean ====
section
/-! SUPPORT. What is read of a register's bits and fields after an update of a register. -/

namespace Sys2Proof.Machine

variable (s : State)

theorem State.bit_setReg (a b i : Nat) (v : Word) :
    (s.setReg a v).bit b i = if b = a then Sys2Proof.bit v i else s.bit b i := by
  unfold State.bit; rw [State.reg_setReg]; split <;> rfl
theorem State.fld_setReg (a b hi lo : Nat) (v : Word) :
    (s.setReg a v).fld b hi lo = if b = a then Sys2Proof.fld v hi lo else s.fld b hi lo := by
  unfold State.fld; rw [State.reg_setReg]; split <;> rfl
theorem State.bit_setBit (a b i j : Nat) (v : Bool) (h : i < 32) :
    (s.setBit a i v).bit b j = if b = a ∧ j = i then v else s.bit b j := by
  rw [State.setBit_eq, State.bit_setReg]
  by_cases hb : b = a
  · subst hb; rw [if_pos rfl, bit_putBit _ _ _ _ h]; by_cases hj : j = i <;> simp [hj, State.bit]
  · simp [hb]
theorem State.bit_setFld (a b hi lo v j : Nat) (h : lo ≤ hi) (hh : hi < 32) :
    (s.setFld a hi lo v).bit b j = if b = a ∧ lo ≤ j ∧ j ≤ hi then nbit v (j - lo) else s.bit b j := by
  rw [State.setFld_eq, State.bit_setReg]
  by_cases hb : b = a
  · subst hb; rw [if_pos rfl, bit_putFld _ _ _ _ _ h hh]; by_cases hj : lo ≤ j ∧ j ≤ hi <;> simp [hj, State.bit]
  · simp [hb]
theorem State.fld_setFld_same (a hi lo v : Nat) (h : lo ≤ hi) (hh : hi < 32) :
    (s.setFld a hi lo v).fld a hi lo = v % 2 ^ (hi + 1 - lo) := by
  rw [State.setFld_eq, State.fld_setReg, if_pos rfl, fld_putFld_same _ _ _ _ h hh]
theorem State.reg_setBit_other {a b : Nat} (i : Nat) (v : Bool) (h : b ≠ a) : (s.setBit a i v).reg b = s.reg b := by
  rw [State.setBit_eq, State.reg_setReg_other _ _ h]
theorem State.reg_setFld_other {a b : Nat} (hi lo v : Nat) (h : b ≠ a) : (s.setFld a hi lo v).reg b = s.reg b := by
  rw [State.setFld_eq, State.reg_setReg_other _ _ h]
theorem State.reg_orReg_other {a b : Nat} (m : Nat) (h : b ≠ a) : (s.orReg a m).reg b = s.reg b := by
  rw [State.orReg_eq, State.reg_setReg_other _ _ h]
/-- A 64-bit pair read back. -/
theorem State.pair_setPair {a v : Nat} (h : v < 2 ^ 64) : (s.setPair a v).pair a = v := by
  rw [State.setPair_eq]; unfold State.pair
  rw [State.reg_setReg_other _ _ (by omega), State.reg_setReg_same, State.reg_setReg_same, join64_halves h]

end Sys2Proof.Machine
end

