-- ==== Sys2Proof/Laws/Low.lean ====
section
/-! SUPPORT. The registers below 0x3400_0000 (Heddle, Weaver, sorter, capture, Warp, time, Graft and Ethernet windows) are not
written by what follows a command's own effect, TIM_EVENTS apart: a raised fault, the journal, the voter and the router write
only registers above. -/

namespace Sys2Proof.Machine

/-- The low registers of `t` read as those of `s`. -/
def Low (s t : State) : Prop := ∀ a, a < 0x34000000 → a ≠ TIM_EVENTS → t.reg a = s.reg a

variable (s : State)

theorem Low.refl : Low s s := fun _ _ _ => rfl
theorem Low.trans {a b c : State} (h : Low a b) (k : Low b c) : Low a c :=
  fun x hx hy => (k x hx hy).trans (h x hx hy)
theorem Low.of_regs {t : State} (h : t.regs = s.regs) : Low s t := by
  intro a _ _; unfold State.reg; rw [h]
theorem low_forEach {α : Type} {f : State → α → State} (h : ∀ s x, Low s (f s x)) (l : List α) : Low s (forEach f l s) := by
  induction l generalizing s with
  | nil => exact Low.refl s
  | cons x xs ih => exact (h s x).trans (ih (f s x))
theorem low_setReg (b : Nat) (v : Word) (h : 0x34000000 ≤ b ∨ b = TIM_EVENTS) : Low s (s.setReg b v) := by
  intro a ha hb; apply State.reg_setReg_other; rintro rfl; rcases h with h | h
  · omega
  · exact hb h
theorem low_setFld (b hi lo v : Nat) (h : 0x34000000 ≤ b ∨ b = TIM_EVENTS) : Low s (s.setFld b hi lo v) := low_setReg s b _ h
theorem low_setBit (b i : Nat) (v : Bool) (h : 0x34000000 ≤ b ∨ b = TIM_EVENTS) : Low s (s.setBit b i v) := low_setReg s b _ h
theorem low_orReg (b m : Nat) (h : 0x34000000 ≤ b ∨ b = TIM_EVENTS) : Low s (s.orReg b m) := low_setReg s b _ h
theorem low_clrReg (b m : Nat) (h : 0x34000000 ≤ b ∨ b = TIM_EVENTS) : Low s (s.clrReg b m) := low_setReg s b _ h
theorem low_count (b hi lo d : Nat) (h : 0x34000000 ≤ b ∨ b = TIM_EVENTS) : Low s (s.count b hi lo d) := low_setReg s b _ h
theorem low_setPair (b v : Nat) (h : 0x34000000 ≤ b) : Low s (s.setPair b v) :=
  (low_setReg s b _ (.inl h)).trans (low_setReg _ (b + 4) _ (.inl (by omega)))
theorem low_emit (o : Output) : Low s (s.emit o) := Low.of_regs s (by simp)
theorem low_ended (st : Nat) : Low s (s.ended st) := Low.of_regs s (by simp)
theorem low_withFlt (x : FltUnit) : Low s (s.withFlt x) := Low.of_regs s (by simp)
theorem low_withEvr (x : Router) : Low s (s.withEvr x) := Low.of_regs s (by simp)
theorem low_withSaf (x : Safety) : Low s (s.withSaf x) := Low.of_regs s (by simp)
theorem low_withJnl (x : JnlUnit) : Low s (s.withJnl x) := Low.of_regs s (by simp)

theorem recReg_high (b r : Nat) : 0x34000000 ≤ 0x41000100 + b + 0x40 * r := by omega

theorem low_jPut (e : JEntry) : Low s (s.jPut e) := by
  unfold State.jPut; dsimp only
  refine Low.trans ?_ (low_setBit _ JNL_STATUS 1 _ (.inl (by decide)))
  split
  · exact ((low_withJnl s _).trans (low_setReg _ JNL_HEAD _ (.inl (by decide)))).trans (low_setReg _ JNL_COPIED _ (.inl (by decide)))
  · exact (low_withJnl s _).trans (low_setReg _ JNL_HEAD _ (.inl (by decide)))
theorem low_jAppend (o ty : Nat) (r : Bool) (a : Nat) (x y : Word) (c : Bool) : Low s (s.jAppend o ty r a x y c) :=
  (Low.of_regs s (t := s.xstamp) rfl).trans (low_jPut _ _)
theorem low_jSafety (a : Nat) (x y : Word) : Low s (s.jSafety a x y) := (low_jAppend s _ _ _ _ _ _ _).trans (low_jAppend _ _ _ _ _ _ _ _)
theorem low_putJ (o a : Nat) (v : Word) (h : 0x34000000 ≤ a) : Low s (s.putJ o a v) := by
  unfold State.putJ; split
  · exact Low.refl s
  · exact (low_setReg s a v (.inl h)).trans (low_jAppend _ _ _ _ _ _ _ _)
theorem low_putFldJ (o a hi lo v : Nat) (h : 0x34000000 ≤ a) : Low s (s.putFldJ o a hi lo v) := low_putJ s o a _ h
theorem low_injectBlk : Low s s.injectBlk := by
  unfold State.injectBlk; exact low_forEach s (fun s r => (low_emit s _).trans (low_emit _ _)) _
theorem low_voterAssert (smt : Bool) : Low s (s.voterAssert smt) := by
  unfold State.voterAssert; dsimp only
  generalize hx : s.withSaf _ = x
  have h0 : Low s x := by subst hx; exact low_withSaf s _
  generalize hy : (if x.spb = true then x else _) = y
  have h1 : Low x y := by
    subst hy; split
    · exact Low.refl x
    · exact ((low_setBit x SAF_STATUS 0 true (.inl (by decide))).trans (low_withSaf _ _)).trans (low_injectBlk _)
  split
  · refine h0.trans (h1.trans ?_)
    exact (((low_setBit y SAF_STATUS 1 true (.inl (by decide))).trans (low_setBit _ SAF_STATUS 2 true (.inl (by decide)))).trans
      (low_setFld _ SAF_OUT 7 4 0 (.inl (by decide)))).trans (low_setFld _ SAF_OUT 1 0 0 (.inl (by decide)))
  · exact h0.trans h1
theorem low_safOnset (n : Nat) : Low s (s.safOnset n) := by
  unfold State.safOnset; dsimp only
  refine Low.trans ?_ (low_voterAssert _ _)
  refine Low.trans ?_ (low_jSafety _ _ _ _)
  exact ((low_count s SAF_CNT1 31 16 1 (.inl (by decide))).trans (low_setPair _ SAF_LAST_LO _ (by decide))).trans
    (low_orReg _ SAF_LATCH _ (.inl (by decide)))
theorem low_safWait : Low s s.safWait := low_setBit s SAF_STATUS 4 _ (.inl (by decide))
theorem low_safEval : Low s s.safEval := by
  have h : ∀ l, Low s (forEach State.safOnset l (s.setReg SAF_DEMAND (w32 s.safActive))) :=
    fun l => Low.trans (low_setReg s SAF_DEMAND _ (.inl (by decide))) (low_forEach _ low_safOnset l)
  unfold State.safEval; dsimp only
  split
  · exact Low.refl s
  · refine Low.trans ?_ (low_safWait _)
    exact (h _).trans (low_withSaf _ _)
theorem low_safPulse (n : Nat) : Low s (s.safPulse n) := by
  unfold State.safPulse; dsimp only
  refine Low.trans ?_ (low_safWait _)
  exact (low_safOnset s n).trans (low_withSaf _ _)
theorem low_runFault : Low s s.runFault := by
  have h : ∀ v, Low s (s.setRun v) := fun v => low_putFldJ s _ SED_RUN 1 0 v (by decide)
  unfold State.runFault; split
  · exact h 3
  · split
    · exact Low.refl s
    · exact h 0
theorem low_markConcurrent (c t : Nat) : Low s (s.markConcurrent c t) := by
  unfold State.markConcurrent; dsimp only; split
  · exact Low.refl s
  · exact low_forEach s (fun s r => low_setBit s _ 28 true (.inl (by simp only [FLT_REC_STAT]; omega))) _
theorem low_openRec (r c u t : Nat) (p : Bool) (cap : Option Capture) : Low s (s.openRec r c u t p cap) := by
  unfold State.openRec; dsimp only
  refine Low.trans ?_ (low_jAppend _ _ _ _ _ _ _ _)
  refine Low.trans ?_ (low_markConcurrent _ _ _)
  refine Low.trans ?_ (low_orReg _ FLT_EVENTS _ (.inl (by decide)))
  refine Low.trans ?_ (low_setReg _ FLT_NEWEST _ (.inl (by decide)))
  refine Low.trans ?_ (low_withFlt _ _)
  have h4 := ((((((low_setReg s (FLT_REC_STAT r) (w32 (2 ^ 31 + b2n cap.isSome * 2 ^ 27 + classOf c * 2 ^ 24 + 2 ^ (15 + classOf c) + c))
      (.inl (by simp only [FLT_REC_STAT]; omega))).trans
    (low_setReg _ (FLT_REC_CODES r) (one (c % 256)) (.inl (by simp only [FLT_REC_CODES]; omega)))).trans
    (low_setReg _ (FLT_REC_SRC r) (one u) (.inl (by simp only [FLT_REC_SRC]; omega)))).trans
    (low_setReg _ (FLT_REC_ACTIVE r) (if p then one (c % 256) else 0) (.inl (by simp only [FLT_REC_ACTIVE]; omega)))).trans
    (low_setReg _ (FLT_REC_MERGE r) (w32 (c * 65536)) (.inl (by simp only [FLT_REC_MERGE]; omega)))).trans
    (low_setPair _ (FLT_REC_FIRST_LO r) t (by simp only [FLT_REC_FIRST_LO]; omega))).trans
    (low_setPair _ (FLT_REC_LAST_LO r) t (by simp only [FLT_REC_LAST_LO]; omega))
  refine h4.trans ?_
  have h5 : ∀ (x : State) (v w : Word), Low x ((x.setReg (FLT_REC_FEC_ADDR r) v).setReg (FLT_REC_FEC_INFO r) w) :=
    fun x v w => (low_setReg x _ v (.inl (by simp only [FLT_REC_FEC_ADDR]; omega))).trans
      (low_setReg _ _ w (.inl (by simp only [FLT_REC_FEC_INFO]; omega)))
  cases cap with
  | none => exact h5 _ _ _
  | some x => exact h5 _ _ _
theorem low_mergeRec (r c u t : Nat) (p : Bool) : Low s (s.mergeRec r c u t p) := by
  unfold State.mergeRec; dsimp only
  have h2 := ((low_setReg s (FLT_REC_MERGE r) (w32 (c * 65536 + satAdd 65535 (s.fld (FLT_REC_MERGE r) 15 0) 1))
      (.inl (by simp only [FLT_REC_MERGE]; omega))).trans
    (low_orReg _ (FLT_REC_CODES r) (2 ^ (c % 256)) (.inl (by simp only [FLT_REC_CODES]; omega)))).trans
    (low_orReg _ (FLT_REC_SRC r) (2 ^ u) (.inl (by simp only [FLT_REC_SRC]; omega)))
  generalize hx : ((s.setReg (FLT_REC_MERGE r) _).orReg (FLT_REC_CODES r) _).orReg (FLT_REC_SRC r) _ = x at h2 ⊢
  have h3 : Low s (if p = true then x.orReg (FLT_REC_ACTIVE r) (2 ^ (c % 256)) else x) := by
    split
    · exact h2.trans (low_orReg _ _ _ (.inl (by simp only [FLT_REC_ACTIVE]; omega)))
    · exact h2
  generalize (if p = true then x.orReg (FLT_REC_ACTIVE r) (2 ^ (c % 256)) else x) = y at h3 ⊢
  have h4 := (h3.trans (low_setPair y (FLT_REC_LAST_LO r) t (by simp only [FLT_REC_LAST_LO]; omega))).trans
    (low_orReg _ (FLT_REC_STAT r) (2 ^ (15 + classOf c)) (.inl (by simp only [FLT_REC_STAT]; omega)))
  split
  · exact ((h4.trans (low_setFld _ (FLT_REC_STAT r) 26 24 _ (.inl (by simp only [FLT_REC_STAT]; omega)))).trans
      (low_orReg _ FLT_EVENTS 2 (.inl (by decide)))).trans (low_jAppend _ _ _ _ _ _ _ _)
  · exact h4
theorem low_overflowRec (c u t : Nat) (p : Bool) : Low s (s.overflowRec c u t p) := by
  unfold State.overflowRec; dsimp only
  have h0 := (low_count s FLT_CNT 31 16 1 (.inl (by decide))).trans
    (low_orReg _ FLT_EVENTS (if c = 0x0D0C then 0 else 4) (.inl (by decide)))
  split
  · exact h0.trans (low_mergeRec _ _ _ _ _ _)
  · exact h0
theorem low_placeRaise (c u t : Nat) (p : Bool) (cap : Option Capture) : Low s (s.placeRaise c u t p cap).1 := by
  have h : Low s (match s.freeRec (c / 256) with
    | some r => (s.openRec r c u t p cap, false)
    | none => (s.overflowRec c u t p, true)).1 := by
    split
    · exact low_openRec _ _ _ _ _ _ _
    · exact low_overflowRec _ _ _ _ _
  unfold State.placeRaise; dsimp only
  split
  · split
    · exact h
    · exact low_mergeRec _ _ _ _ _ _
  · exact h
theorem low_post (src : Nat) : Low s (s.post src) := by
  unfold State.post; split
  · exact Low.refl s
  · exact low_withEvr s _
theorem low_alarm (c : Nat) : Low s (s.alarm c) := by
  unfold State.alarm; split
  · exact (low_emit s _).trans (low_post _ _)
  · exact Low.refl s
theorem low_recordRaise (c u tag t : Nat) (p : Bool) (cap : Option Capture) : Low s (s.recordRaise c u tag t p cap) := by
  unfold State.recordRaise
  generalize hx : (if p = true then s.withFlt _ else s) = x
  have h0 : Low s x := by
    subst hx; split
    · exact low_withFlt s _
    · exact Low.refl s
  have h1 := h0.trans (low_placeRaise x c u t p cap)
  dsimp only
  split
  · exact (h1.trans (low_placeRaise _ _ _ _ _ _)).trans (low_alarm _ _)
  · exact h1
theorem low_fltRefresh : Low s s.fltRefresh := low_setReg s FLT_STATUS _ (.inl (by decide))
theorem low_faultHandoff (t : Nat) : Low s (s.faultHandoff t) := by
  unfold State.faultHandoff
  split
  · split
    · exact Low.of_regs s (by simp)
    · exact low_recordRaise _ _ _ _ _ _ _
  · exact Low.refl s
theorem low_react (c t : Nat) : Low s (s.react c t) := by
  unfold State.react
  generalize hx : s.alarm c = x
  have h0 : Low s x := hx ▸ low_alarm s c
  dsimp only
  split
  · refine h0.trans (Low.trans ?_ (low_safEval _))
    refine Low.trans ?_ (low_fltRefresh _)
    exact (low_runFault x).trans (low_faultHandoff _ _)
  · exact h0.trans (low_fltRefresh x)
theorem low_raiseCore (c u tag t : Nat) (p : Bool) (cap : Option Capture) : Low s (s.raiseCore c u tag t p cap) :=
  (low_recordRaise _ _ _ _ _ _ _).trans (low_react _ _ _)
theorem low_raise (c u : Nat) : Low s (s.raise c u) := low_raiseCore _ _ _ _ _ _ _
theorem low_raiseAcc (c u : Nat) (cap : Capture) : Low s (s.raiseAcc c u cap) :=
  (low_raiseCore s _ _ _ _ _ _).trans (low_ended _ _)
theorem low_rangeFault : Low s s.rangeFault :=
  ((low_orReg s TIM_EVENTS 0x1000 (.inr rfl)).trans (low_raise _ _ _)).trans (low_ended _ _)
theorem low_lossCheck : Low s s.lossCheck := by
  unfold State.lossCheck; split
  · exact Low.refl s
  · exact (((low_withJnl s _).trans (low_count _ JNL_LOST 31 0 _ (.inl (by decide)))).trans
      (low_orReg _ JNL_EVENTS 1 (.inl (by decide)))).trans (low_raiseCore _ _ _ _ _ _ _)
theorem low_freeRecord (o r : Nat) : Low s (s.freeRecord o r) := by
  unfold State.freeRecord; dsimp only
  refine Low.trans ?_ (low_jAppend _ _ _ _ _ _ _ _)
  refine Low.trans ?_ (low_withFlt _ _)
  exact low_forEach s (fun s i => low_setReg s _ 0 (.inl (by simp only [FLT_REC_STAT]; omega))) _
theorem low_tryFree (r : Nat) : Low s (s.tryFree r) := by
  unfold State.tryFree; split
  · exact low_freeRecord s _ _
  · exact Low.refl s
theorem low_endCause (c u : Nat) : Low s (s.endCause c u) := by
  unfold State.endCause; dsimp only
  split
  · split
    · exact low_withFlt s _
    · refine Low.trans ?_ (low_safEval _)
      refine Low.trans ?_ (low_fltRefresh _)
      exact (low_withFlt s _).trans (low_forEach _ (fun s r =>
        (low_clrReg s _ _ (.inl (by simp only [FLT_REC_ACTIVE]; omega))).trans (low_tryFree _ _)) _)
  · exact Low.refl s
theorem low_holdTag (c u tag : Nat) (on : Bool) : Low s (s.holdTag c u tag on) := by
  unfold State.holdTag; split
  · split
    · exact Low.refl s
    · exact low_raiseCore _ _ _ _ _ _ _
  · exact low_endCause _ _ _
theorem low_level (src : Nat) (on : Bool) : Low s (s.level src on) := by
  unfold State.level; dsimp only
  have h1 := low_setBit s (EVR_SRC_STAT src) 2 on (.inl (by simp only [EVR_SRC_STAT]; omega))
  split
  · exact Low.refl s
  · split
    · exact h1.trans (low_post _ _)
    · split
      · exact ((h1.trans (low_setBit _ (EVR_SRC_STAT src) 1 false (.inl (by simp only [EVR_SRC_STAT]; omega)))).trans
          (low_putFldJ _ _ (EVR_STUCK (src / 32)) _ _ _ (by simp only [EVR_STUCK]; omega))).trans (low_holdTag _ _ _ _ _)
      · exact h1
theorem low_setBufSt (c b v : Nat) : Low s (s.setBufSt c b v) :=
  (Low.of_regs s (t := s.setCw (txWord c b 1) _) (by simp)).trans
    (low_setBit _ (CAN_TXPEND c) b _ (.inl (by simp only [CAN_TXPEND]; omega)))
theorem low_setTxb (c b : Nat) (t : TxBuf) : Low s (s.setTxb c b t) := Low.of_regs s (by simp [State.setTxb])
theorem low_canLate (c b : Nat) : Low s (s.canLate c b) := by
  unfold State.canLate
  refine Low.trans ?_ (low_raise _ _ _)
  exact (((low_setBufSt s _ _ _).trans (low_setTxb _ _ _ _)).trans
    (low_count _ (CAN_CNT1 c) 31 16 1 (.inl (by simp only [CAN_CNT1]; omega)))).trans
    (low_orReg _ (CAN_EVENTS c) 4 (.inl (by simp only [CAN_EVENTS]; omega)))
theorem low_submit (c b a : Nat) (m : Byte) : Low s (s.submit c b a m) := by
  have hc : ∀ u, Low s (s.setCan c u) := fun u => Low.of_regs s (by simp)
  unfold State.submit; dsimp only
  split
  · exact (low_orReg s (CAN_EVENTS c) 0x100 (.inl (by simp only [CAN_EVENTS]; omega))).trans (low_raiseAcc _ _ _ _)
  split
  · exact ((hc _).trans (low_setTxb _ _ _ _)).trans (low_setBufSt _ _ _ _)
  split
  · split
    · exact low_rangeFault s
    · split
      · exact (((hc _).trans (low_setTxb _ _ _ _)).trans (low_setBufSt _ _ _ _)).trans (low_canLate _ _ _)
      · exact ((hc _).trans (low_setTxb _ _ _ _)).trans (low_setBufSt _ _ _ _)
  · split
    · exact low_rangeFault s
    · split
      · exact (((hc _).trans (low_setTxb _ _ _ _)).trans (low_setBufSt _ _ _ _)).trans (low_canLate _ _ _)
      · exact ((hc _).trans (low_setTxb _ _ _ _)).trans (low_setBufSt _ _ _ _)
theorem low_chanOff (ch : Nat) : Low s (s.chanOff ch) := by
  unfold State.chanOff; dsimp only; split <;> exact Low.of_regs s (by simp)
theorem low_gateGroupOff (g : Nat) : Low s (s.gateGroupOff g) := by
  unfold State.gateGroupOff State.gdrShow
  refine Low.trans ?_ (low_setFld _ GDR_STATUS 15 12 _ (.inl (by decide)))
  refine Low.trans ?_ (low_setFld _ GDR_STATUS 3 0 _ (.inl (by decide)))
  split
  · exact Low.refl s
  · exact low_forEach s low_chanOff _
theorem low_crownIrq (j : Nat) : Low s (s.crownIrq j) := by
  unfold State.crownIrq; dsimp only
  refine Low.trans (low_setBit s EVR_IRQ j true (.inl (by decide))) ?_
  split
  · exact low_emit _ _
  · exact Low.refl _
theorem low_safeBlockRequest : Low s s.safeBlockRequest := by
  unfold State.safeBlockRequest; dsimp only
  refine Low.trans ((low_orReg s EVR_EVENTS 4 (.inl (by decide))).trans (low_raise _ 0x0806 31)) ?_
  split
  · exact low_safPulse _ _
  · exact Low.refl _
theorem low_deliver (d : Nat) : Low s (s.deliver d) := by
  unfold State.deliver; dsimp only
  refine Low.trans (low_count s (EVR_DST_CNT d) 15 0 1 (.inl (by simp only [EVR_DST_CNT]; omega))) ?_
  generalize s.count (EVR_DST_CNT d) 15 0 1 = x
  split
  · exact Low.trans (low_setBit x EVR_GDIS d true (.inl (by decide))) (low_gateGroupOff _ _)
  split
  · exact low_safeBlockRequest x
  split
  · split
    · exact Low.of_regs x (by simp)
    · exact Low.refl x
  split
  · unfold State.heddleTrigger; dsimp only; split
    · exact low_withEvr x _
    · exact Low.refl x
  split
  · unfold State.canTrigger; dsimp only; split
    · exact Low.refl x
    · split
      · exact low_count _ _ 31 16 1 (.inl (by simp only [EVR_DST_CNT]; omega))
      · exact low_submit _ _ _ _ _
  split
  · exact low_crownIrq _ _
  · exact Low.of_regs x (by simp)
theorem low_routerFire (src : Nat) : Low s (s.routerFire src) := by
  have h : ∀ (l : List Nat) (t : State), Low t (forEach State.deliver l t) := fun l t => low_forEach t low_deliver l
  have hg : ∀ (t : State) (g : Guard), Low t (t.setGuard src g) := fun t g => low_withEvr t _
  unfold State.routerFire; dsimp only
  refine Low.trans (low_count s (EVR_SRC_STAT src) 31 16 1 (.inl (by simp only [EVR_SRC_STAT]; omega))) ?_
  generalize s.count (EVR_SRC_STAT src) 31 16 1 = x
  have hm : Low x (((x.setMasked (originBlk 8 15) src true).orReg EVR_EVENTS 1).holdTag 0x0801 31 src true) := by
    unfold State.setMasked
    exact (((low_putFldJ x _ (EVR_MASKED (src / 32)) _ _ _ (by simp only [EVR_MASKED]; omega)).trans
      (low_setBit _ (EVR_SRC_STAT src) 0 true (.inl (by simp only [EVR_SRC_STAT]; omega)))).trans
      (low_orReg _ EVR_EVENTS 1 (.inl (by decide)))).trans (low_holdTag _ _ _ _ _)
  split
  · exact Low.refl x
  split
  · exact h _ _
  split
  · split
    · split
      · exact hm
      · exact (hg _ _).trans (h _ _)
    · exact (hg _ _).trans (h _ _)
  · exact (hg _ _).trans (h _ _)
theorem low_drain (n : Nat) : Low s (s.drain n) := by
  induction n generalizing s with
  | zero => exact Low.refl s
  | succ n ih =>
    unfold State.drain
    split
    · exact Low.refl s
    · dsimp only
      exact ((low_withEvr s _).trans (low_routerFire _ _)).trans (ih _)

/-- What follows a command's own effect leaves the low registers. -/
theorem done_low : ∃ t, s.done = .next t ∧ Low s t :=
  ⟨_, rfl, ((((low_lossCheck s).trans (low_drain _ 256)).trans (low_withEvr _ _)).trans (low_withJnl _ _)).trans (low_ended _ _)⟩

/-- What holds of every state that follows from a command's own effect holds after the command. -/
theorem gives_effect {s x : State} {c : Instr} {P : State → Prop} (h : exec c s = x.done)
    (p : ∀ t, t.kept = x.kept → Grows x t → Low x t → t.acc = x.acc → t.Settled → P t) : Gives c s P := by
  obtain ⟨t, ht, hk, hg, ha, h1⟩ := done_keeps x
  obtain ⟨u, hu, hl⟩ := done_low x
  rw [ht] at hu; cases hu
  exact ⟨t, h.trans ht, p t hk hg hl ha h1⟩

end Sys2Proof.Machine
end

