-- ==== Sys2Proof/Laws/Memory.lean ====
section
/-! SUPPORT. The laws of Crown SRAM: every operation keeps its canonical form, a byte written is read back, and no other byte
changes. -/

namespace Sys2Proof.Machine

/-- A write of bytes keeps the canonical form. -/
theorem State.setBytes_wf (s : State) (a : Nat) (bs : List Byte) (h : Memory.wf s.crown = true) :
    Memory.wf (s.setBytes a bs).crown = true := Sparse.wf_setList bs a h

@[simp] theorem State.rewritten_crown (s : State) (a : Nat) : (s.rewritten a).crown = s.crown := by
  unfold State.rewritten
  split
  · exact (crown_of_kept (forEach_kept _ (fun s (c : Nat × Nat) => kept_endCause s c.1 c.2) _)).trans (rfl)
  · rfl

/-- A write through the fabric keeps the canonical form, whatever its width. -/
theorem State.crownWrite_wf (s : State) (a : Nat) (width : BitVec 2) (v : Word) (h : Memory.wf s.crown = true) :
    Memory.wf (s.crownWrite a width v).crown = true := by
  unfold State.crownWrite
  by_cases hw : width = 2 <;> simp only [hw, if_true, if_false, State.rewritten_crown] <;> exact State.setBytes_wf _ _ _ h

/-- The bytes outside a write are as before. -/
theorem State.setBytes_other (s : State) (a : Nat) (bs : List Byte) {b : Nat} (h : b < a ∨ a + bs.length ≤ b) :
    (s.setBytes a bs).byteAt b = s.byteAt b := Sparse.get_setList_other crownFill bs s.crown h

/-- A byte written is read back. -/
theorem State.setBytes_same (s : State) (a : Nat) (b : Byte) : (s.setBytes a [b]).byteAt a = b :=
  Sparse.get_set_same crownFill s.crown a b

end Sys2Proof.Machine
end

