-- ==== Sys2Proof/WellFormed.lean ====
section
/-! DEFINITION. What an operand must be beside its type for a command to be one that can reach the block: the sizes that the
spec fixes for frames, samples, images and requests. Every command has a meaning whether it is well formed or not. -/

namespace Sys2Proof

/-- A CAN frame (R396, R400): at most 8 bytes, or 64 in the FD format. -/
def canFrameOk (f : CanFrame) : Bool := decide (f.data.length ≤ (if f.fdf then 64 else 8))

/-- A section of the seed image (R368, R415): twelve scale words. -/
def sectionOk : SectionData → Bool
  | .bootSet sap _ => sap.scales.length == 12
  | .firmware _ | .heddle _ | .weaver _ | .ringMaps _ _ | .network _ | .can _ | .safety | .roleKeys _ | .journalRegion _ => true

/-- A well-formed command. -/
def Instr.wf : Instr → Bool
  | .cycleBoundary | .collectLaunch | .inputCut | .tOut | .draftHandover .. | .tbWrap .. | .servoSample .. | .tbLoad ..
  | .tbAdj .. | .slewDone .. | .pendingTimeDue .. | .compSample .. | .holdoverTimeout .. | .holdoverLimit .. | .xchkSample
  | .rateCheck .. | .oscStopped .. | .xstampTrig .. | .disarm .. | .gridOriginWrite .. | .tcycWrite .. | .tinToutWrite ..
  | .servoResetI .. | .ringEnable .. | .ringDisable .. | .ringLockTimeout .. | .blockLockChange .. | .bypassMoveDone ..
  | .statusRecordReceive .. | .collectFrameReturn .. | .ringClose .. | .nodeLoss .. | .syncLaunch .. | .syncFrameReturn ..
  | .ringConverged .. | .convergeTimeout .. | .mgmtTransactionSend .. | .mgmtReplyReceive .. | .helloReceive ..
  | .readmit .. | .resync .. | .yield .. | .passForward .. => true
  | .nodeReset _ _ make => decide (make.nmeas ≤ 8 ∧ 1 ≤ make.ntgt ∧ make.ntgt ≤ 6 ∧ 4 ≤ make.maxEnt ∧ make.maxEnt ≤ 255)
  | .nodeFrameReceive .. | .nodeCycleFrameReceive .. => true
  | .nodeCollectAppend _ _ _ _ raw _ => decide (raw.length ≤ 8)
  | .nodeSyncReceive .. | .nodeMgmtReceive .. | .nodeHelloSend .. | .nodeBlkReceive .. | .nodeSlotDecision ..
  | .nodeAdoption .. | .nodeEntryDue .. | .nodeMasterTimeout .. | .nodeSyncTimeout .. | .nodePortLockLoss ..
  | .nodeWrapEnd .. | .nodeReturningFrame .. | .nop .. | .endPass .. | .ldc .. | .gain .. | .sum .. | .mul .. | .div ..
  | .lim .. | .rat .. | .biq .. | .trk .. | .xfd .. | .hld .. | .sel .. | .cmp .. | .lut .. | .clk .. | .iclk .. | .prk ..
  | .iprk .. | .cmag .. | .cang .. | .csin .. | .inj .. | .rly .. | .srt .. | .sortComplete .. | .wev .. | .hdlRunSet ..
  | .hdlRunClear .. | .clrStates .. | .patternCheck .. | .patternCheckDone .. | .swap .. | .swapAt .. | .cancel ..
  | .coefCopyDone .. | .patternWrite .. | .signalWrite .. | .mailboxWrite .. | .coefWrite .. | .stateWrite ..
  | .segEnWrite .. | .segRangeWrite .. | .lockGrpWrite .. | .imgCountWrite .. | .inMapWrite .. | .hovStart ..
  | .hovAbort .. | .rlyStart .. | .rlyStop .. | .capArm .. | .capStop .. | .capRelease .. | .oosSet .. | .oosClr ..
  | .bypassCommand .. | .bypassTimeout .. | .draftWrite .. | .graftStatusSend | .graftStatusReceive .. => true
  | .graftImageReceive img => decide (img.rings.length = 4 ∧ img.draft.length = 4 ∧ img.strings.length = 3 ∧ img.quads.length = 24
      ∧ img.engines.length = 8 ∧ img.supv.length = 6)
  | .graftMirrorSend => true
  | .graftMirrorReceive _ _ writes => decide (1 ≤ writes.length ∧ writes.length ≤ 64)
  | .gftResync .. | .gftHandoff .. | .revertHoldoffExpire | .peerStatusTimeout | .coldTakeover | .graftLaneLoss ..
  | .startWaitExpire | .safeInputDemand .. | .blkRepeat | .safeInputPermit .. | .testPulse .. | .testWindowEnd ..
  | .pairDiscrepancy .. | .resetInputAck .. | .outputTest .. | .outputTestEnd .. | .outputOverload .. | .sv24OutOfRange
  | .arDelayExpire | .safetyPduReceive .. | .safetyWinExpire | .remoteWatchdogExpire | .degradedExpire | .sealBankRead ..
  | .safetyBlockLoad .. | .selftestDone .. | .coreDisagree | .tpsOverload .. | .tpsRestart .. | .safetyParamDecided ..
  | .faultRaise .. | .faultCauseEnd .. | .fltAck .. | .fltClear .. | .fltInj .. | .eccUncorrectable .. | .eccReloadDone ..
  | .busError .. | .journalEntry .. | .journalCopy .. | .journalEraseDone .. | .journalRetry ..
  | .journalFlushEnd | .jnlNote .. | .comparatorResolve .. | .comparatorCrossing .. | .comparatorCalibration ..
  | .cmpCfgWrite .. | .cmpThresholdWrite .. | .cmpLatchClear .. | .routerEvent .. | .evrUnmask .. | .sourceStuck ..
  | .evrGdisRel .. | .evrSwtrig .. | .sapServiceMissing | .sapGateCommand .. | .deadTimeEnd .. | .hardCrossing ..
  | .softTurnoffEnd .. | .warnCrossing .. | .blankingEnd .. | .gdrRel .. | .grpEnWrite .. | .rptonlyWrite ..
  | .bootstrapRefresh .. | .bootstrapUv .. | .bootstrapRelease .. | .vdrvOutOfRange | .vdrvRecovered | .senseTrim ..
  | .sapStart .. | .sapStop .. | .mainsLoss | .mainsRestored | .inrushClose | .loopFault .. | .sapInputAction ..
  | .sapHeartbeat => true
  | .scrubPass x => x.heddle.length == 8
  | .hotAdcSample codes => decide (codes.length = 16)
  | .ethFrameReceive _ f => decide (f.pcp ≤ 7 ∧ f.payload.length ≤ f.len)
  | .prpSupervisionSend | .lanSilent .. | .ethLinkDown .. | .ethLinkUp .. | .relayMoveDone .. | .relayMismatch ..
  | .bypCloseWrite .. | .portEnWrite .. | .pdelayReqSend .. | .pdelayRespReceive .. | .pdelayReqReceive ..
  | .ptpSyncReceive .. | .ptpFollowUpReceive .. | .followUpTimeout .. | .ptpAnnounceReceive .. | .announceTimeout ..
  | .arpRequest .. => true
  | .icmpEcho _ data => decide (data.length ≤ 1472)
  | .openSession .. => true
  | .closeSession h => decide (h.session ≠ 0)
  | .keepalive h => decide (h.session ≠ 0)
  | .subscribe h _ => decide (h.session ≠ 0)
  | .mgmtRead h _ n => decide (h.session ≠ 0 ∧ n < 65536)
  | .mgmtWrite h _ words => decide (h.session ≠ 0 ∧ words.length ≤ 354)
  | .journalRead h _ _ n => decide (h.session ≠ 0 ∧ n < 256)
  | .captureRead h _ n => decide (h.session ≠ 0 ∧ n < 65536)
  | .cmdStart h => decide (h.session ≠ 0)
  | .cmdStop h => decide (h.session ≠ 0)
  | .hostmsg h bytes => decide (h.session ≠ 0 ∧ bytes.length ≤ 1424)
  | .safetyParam h block => decide (h.session ≠ 0 ∧ block.length ≤ 1424)
  | .seedBegin h _ total => decide (h.session ≠ 0 ∧ total < 2 ^ 32)
  | .seedData h off bytes => decide (h.session ≠ 0 ∧ off < 2 ^ 32 ∧ bytes.length ≤ 1420)
  | .seedCommit h => decide (h.session ≠ 0)
  | .seedCommitDone .. => true
  | .seedAbort h => decide (h.session ≠ 0)
  | .sessionIdleTimeout n => decide (n ≠ 0)
  | .notify n _ => decide (n ≠ 0)
  | .ethIslandRestart => true
  | .canFrameReceive _ f => canFrameOk f
  | .timeSyncMessage _ f => canFrameOk f
  | .timeFupMessage _ f => canFrameOk f
  | .canTxreq .. | .canTxBufferWrite .. | .canTxcancel .. | .canTxEligible .. | .canTxLate .. | .canTxSuccess ..
  | .canTxLost .. | .canErrorPassive .. | .canBusOff .. | .canRecover .. | .canRecoveryDone .. | .canRxqRel ..
  | .canModeWrite .. | .canIntegrated .. | .canTxdTimeout .. | .powerOn .. => true
  | .seedSectionApply _ data => sectionOk data
  | .endOfBoot .. | .seedCardRemoved | .seedCardInserted .. | .runCmdStart .. | .runCmdStop .. | .crownWatchdogExpire ..
  | .powerLoss => true
  | .thermalSample readings => decide (readings.length = 16)
  | .throttleInterval | .thermalCooled | .railSample .. | .registerWrite .. | .registerRead .. | .graftLaneLock ..
  | .nodeBlockLockGain .. | .masterLostAgreement .. | .sv24Restored | .tpsRecovered .. | .outputReturnTimeout ..
  | .scrubPassOverdue | .crownLockstepMismatch .. | .fabricHandshakeTimeout | .factoryJumperFitted | .canTxdRecessive ..
  | .sapBootDone | .switchReady => true

end Sys2Proof
end

