-- ==== Sys2Proof/Tests/Slice0.lean ====
section
/-! SUPPORT. Tests on fixed values: the checks of WellFormed, the worked examples of the spec, and for every statement with
hypotheses a state and operands that meet them. -/

namespace Sys2Proof.Tests

open Sys2Proof Sys2Proof.Machine

set_option Elab.async false

/-! ## States for the tests -/

/-- The state after reset with some registers set. -/
def rs (l : Sparse Word) : State := { State.reset with regs := l }

/-- A register that a quiet state may hold at any value: no route or guard of a source, no fault record, none of the journal's
counts, not GFT_CTRL. -/
def aside (a : Nat) : Bool :=
  (decide (a < 0x43001000) || decide (0x43002000 ≤ a) || a % 16 == 12) && (decide (a < 0x41000100) || decide (0x41001100 ≤ a)) &&
  a != JNL_HEAD && a != JNL_COPIED && a != GFT_CTRL

/-- A test, by evaluation, that a state is quiet. -/
def quietOk (s : State) : Bool :=
  s.regs.all (fun p => aside p.1) && s.evr.posted.isEmpty && s.evr.fired.isEmpty && s.jnl.ovr == 0 &&
  s.flt.causes.isEmpty && s.flt.order.isEmpty && s.jnl.mark == 0

/-- A test, by evaluation, that a state is calm. -/
def calmOk (s : State) (n : Nat) : Bool :=
  s.evr.posted.isEmpty && s.evr.fired.isEmpty && s.jnl.ovr == 0 &&
  decide ((s.reg JNL_HEAD).toNat - (s.reg JNL_COPIED).toNat + n ≤ 8192) && s.jnl.mark == (s.reg JNL_HEAD).toNat

theorem calm_of {s : State} {n : Nat} (h : calmOk s n = true) : s.Calm n := by
  simp only [calmOk, Bool.and_eq_true, List.isEmpty_iff, beq_iff_eq, decide_eq_true_eq] at h
  exact ⟨⟨h.1.1.1.1, h.1.1.1.2, h.2⟩, h.1.1.2, h.1.2⟩

/-- A register that is not listed reads its reset value. -/
theorem reg_unlisted {s : State} {a : Nat} (h : ∀ p ∈ s.regs, p.1 ≠ a) : s.reg a = regReset a := by
  unfold State.reg
  generalize s.regs = l at h
  induction l with
  | nil => rfl
  | cons p l ih =>
    obtain ⟨k, v⟩ := p
    have hk : k ≠ a := h (k, v) (by simp)
    simp only [Sparse.get, hk, if_false]
    exact ih fun q hq => h q (by simp [hq])

theorem reset_routes (src : Nat) (h : src < 256) : regReset (EVR_SRC_DST_LO src) = 0 ∧ regReset (EVR_SRC_DST_HI src) = 0 ∧
    regReset (EVR_SRC_CFG src) = 0 := by
  revert src; decide +kernel

theorem reset_records (r : Nat) (h : r < 64) : regReset (FLT_REC_STAT r) = 0 := by
  revert r; decide +kernel

theorem unrouted_of {s : State} (h : s.regs.all (fun p => aside p.1 || decide (p.1 < 0x43001000)) = true) : s.Unrouted := by
  intro src hs
  obtain ⟨h1, h2, h3⟩ := reset_routes src hs
  have key : ∀ a, 0x43001000 ≤ a → a < 0x43002000 → a % 16 ≠ 12 → s.reg a = regReset a := by
    intro a ha hb hc
    apply reg_unlisted
    intro p hp he
    have := List.all_eq_true.mp h p hp
    simp [aside, he] at this
    omega
  have k1 := key (EVR_SRC_DST_LO src) (by simp only [EVR_SRC_DST_LO]; omega) (by simp only [EVR_SRC_DST_LO]; omega)
    (by simp only [EVR_SRC_DST_LO]; omega)
  have k2 := key (EVR_SRC_DST_HI src) (by simp only [EVR_SRC_DST_HI]; omega) (by simp only [EVR_SRC_DST_HI]; omega)
    (by simp only [EVR_SRC_DST_HI]; omega)
  have k3 := key (EVR_SRC_CFG src) (by simp only [EVR_SRC_CFG]; omega) (by simp only [EVR_SRC_CFG]; omega)
    (by simp only [EVR_SRC_CFG]; omega)
  rw [k1, k2, State.fld, k3, h1, h2, h3]
  exact ⟨rfl, rfl, by decide⟩

theorem quiet_of {s : State} (h : quietOk s = true) : s.Quiet := by
  simp only [quietOk, Bool.and_eq_true, List.isEmpty_iff, beq_iff_eq] at h
  obtain ⟨⟨⟨⟨⟨⟨hr, hp⟩, hf⟩, hj⟩, hc⟩, ho⟩, hm⟩ := h
  have key : ∀ a, aside a = false → s.reg a = regReset a := fun a ha => reg_unlisted fun p hp he => by
    have := List.all_eq_true.mp hr p hp
    simp [he, ha] at this
  refine ⟨unrouted_of ?_, ⟨⟨hp, hf, ?_⟩, hj, ?_⟩, ⟨hc, ho, fun r h64 => ?_⟩, ?_⟩
  · exact List.all_eq_true.mpr fun p hp => by simp [List.all_eq_true.mp hr p hp]
  · rw [hm, key JNL_HEAD (by decide)]; decide
  · rw [key JNL_HEAD (by decide), key JNL_COPIED (by decide)]; decide
  · have ha : aside (FLT_REC_STAT r) = false := by
      have hs : FLT_REC_STAT r = 0x41000100 + 0x40 * r := rfl
      have h2 : ¬ (FLT_REC_STAT r < 0x41000100) := by omega
      have h3 : ¬ (0x41001100 ≤ FLT_REC_STAT r) := by omega
      simp only [aside, h2, h3, decide_false, Bool.or_self, Bool.and_false, Bool.false_and]
    rw [State.recUsed, State.bit, key _ ha, reset_records r h64]; decide
  · rw [State.duplex, State.bit, key GFT_CTRL (by decide)]; decide

theorem tame_of {s : State} (h : s.regs.all (fun p => aside p.1 || decide (p.1 < 0x43001000)) = true) (hc : calmOk s 128 = true)
    (hd : s.duplex = false) (ho : s.flt.order.all (fun r => decide (r < 64)) = true) : s.Tame :=
  ⟨unrouted_of h, calm_of hc, hd, fun r hr => by simpa using List.all_eq_true.mp ho r hr⟩

theorem reset_quiet : State.reset.Quiet := quiet_of (by decide)


/-! ## Hypotheses that are met: time -/

theorem meets_StepRunsTheFrontCommand : State.reset.pending = [] := rfl

theorem meets_CounterWrap : State.reset.Calm 1 ∧ State.reset.pending = [] := ⟨calm_of (by decide), rfl⟩

/-- TB3 driven by a source, its servo on. -/
def tb3Sourced : State := rs [(TIM_SERVO_CTRL, 8), (TIM_TB_CTRL 3, 1)]

/-- An offset that is the threshold itself. -/
theorem meets_ServoSample :
    let s := tb3Sourced;
    let e : Time := BitVec.ofInt 64 (s.thr 3)
    s.Calm 0 ∧ s.sourced 3 = true ∧ (s.tb 3).slewTo = none ∧ s.gated 3 e.toInt = false ∧ s.inHold 3 = false ∧
    (e.toInt.natAbs : Int) ≤ s.thr 3 := ⟨calm_of (by decide), by decide⟩

/-- The sample after GATE_N rejections. -/
theorem meets_ServoSample_rejected :
    let s := tb3Sourced.setTb 3 { TimeBase.reset with rej := 15 };
    s.sourced 3 = true ∧ max 1 (s.fld (TIM_TB_GATE 3) 19 16) ≤ (s.tb 3).rej := by decide

/-- The same on TB0, from a source of its own. -/
theorem meets_ServoSample_tb0 :
    let s := rs [(TIM_SERVO_CTRL, 1), (TIM_TB_CTRL 0, 2)];
    s.Calm 0 ∧ s.sourced 0 = true ∧ (s.tb 0).slewTo = none ∧ s.gated 0 0 = false ∧ s.inHold 0 = false ∧
    (s.src 0 ≠ 1 ∨ s.inHold 2 = false) ∧ (0 : Int) ≤ s.thr 0 := ⟨calm_of (by decide), by decide⟩

/-- An offset just beyond the threshold, with and without AUTO_STEP. -/
theorem meets_FarmAndTurbine :
    let e := fun s : State => (BitVec.ofInt 64 (s.thr 3 + 1) : Time);
    (let s := rs [(TIM_SERVO_CTRL, 8), (TIM_TB_CTRL 3, 0x11)];
      s.Calm 0 ∧ s.sourced 3 = true ∧ (s.tb 3).slewTo = none ∧ s.gated 3 (e s).toInt = false ∧ s.inHold 3 = false ∧
      (s.tb 3).rej < max 1 (s.fld (TIM_TB_GATE 3) 19 16) ∧ s.thr 3 < (e s).toInt.natAbs ∧ s.bit (TIM_TB_CTRL 3) 4 = true ∧ s.reg (CAN_TXPEND 0) = 0 ∧ s.reg (CAN_TXPEND 1) = 0) ∧
    (let s := tb3Sourced;
      s.Calm 0 ∧ s.sourced 3 = true ∧ (s.tb 3).slewTo = none ∧ s.gated 3 (e s).toInt = false ∧ s.inHold 3 = false ∧
      s.thr 3 < (e s).toInt.natAbs ∧ s.bit (TIM_TB_CTRL 3) 4 = false) :=
  ⟨⟨calm_of (by decide), by decide +kernel⟩, calm_of (by decide), by decide +kernel⟩

/-- TB0 not armed and armed; TB1 after and before the end of boot; a base that slews. -/
theorem meets_ReferenceCorrections :
    State.reset.armed = false ∧ (rs [(SED_STATUS, 1)]).booted = true ∧ (rs [(TIM_STATUS, 1)]).armed = true ∧
    State.reset.booted = false ∧
    (State.reset.setTb 0 { TimeBase.reset with slewTo := some 1 }).tb 0 = { TimeBase.reset with slewTo := some 1 } ∧
    ns (State.reset.fld TIM_XCHK_LIMIT 15 0) < (tdiff 655360000000 0).natAbs := by
  decide

/-- A temperature in range, and those at and beyond the ends. -/
theorem meets_CompSample :
    let ok := fun (x : Option (BitVec 16)) (s : State) =>
      ∃ w, x = some w ∧ -7040 ≤ w.toInt ∧ w.toInt ≤ 19200 ∧ ∀ p, s.tim.lastTemp = some p → (w.toInt - p).natAbs ≤ 640;
    ok (some 19200) State.reset ∧ ¬ ok (some 19201) State.reset ∧ ¬ ok none State.reset := by
  refine ⟨⟨19200, rfl, by decide, by decide, fun p h => nomatch h⟩, ?_, ?_⟩
  · rintro ⟨w, h, -, h3, -⟩
    cases h; exact absurd h3 (by decide)
  · rintro ⟨w, h, -⟩
    cases h

/-- TB2 in holdover with a limit. -/
theorem meets_Holdover :
    let s := rs [(TIM_TB_STATUS 2, 8), (TIM_TB_HOLD_LIM 2, 3600)];
    s.inHold 2 = true ∧ s.reg (TIM_TB_HOLD_LIM 2) ≠ 0 := by decide

/-- A transmit buffer that is pending; a capture trigger time; a grid origin. -/
theorem meets_GridSettings :
    (let s := State.reset.setCw (txWord 1 31 1) (BitVec.ofNat 32 (2 * 2 ^ 20)); s.Calm 0 ∧ s.bufSt 1 31 = 2) ∧
    (let s := State.reset.withCap { CapUnit.reset with trig := some 5 }; s.cap.trig.isSome = true ∧ s.Calm 0) ∧
    (State.reset.withTim { TimUnit.reset with origin := some 7 }).tim.origin = some 7 ∧
    State.reset.mirrorBars (.crown 0) = false ∧ Master.crown 0 ≠ .mirror :=
  ⟨⟨calm_of (by decide), by decide⟩, ⟨by decide, calm_of (by decide)⟩, by decide⟩

/-- No wait for a boundary; a running engine; a ring in service whose mandate is beaten. -/
theorem meets_CycleEvents : State.reset.duplex = false ∧ State.reset.tim.tcyc = none ∧
    (rs [(HDL_STATUS 7, 2)]).hdlState 7 = 2 ∧
    (let s := (rs [(WRP_CTRL, 8)]).setRing 3 { Ring.reset with step := 7 };
     s.ringsUp = [3] ∧ s.controls = true ∧ ringUp (s.ring 3) = true ∧ newer 1 (s.mandate 3) = true ∧ s.gft.hoPhase < 2) := by
  decide

/-! ## Hypotheses that are met: rings and nodes -/

/-- A frame header without a fault of its own; `formed` gives a frame its length and check words. -/
def hdr0 : FrameHdr :=
  { dir := .cw, dst := 0, src := 0, ring := 3, hops := 0, timed := true, seq := 0, mandate := 0, corr := 0, len := 0, hcrc := 0,
    dirOk := true, line := [], fcrc := 0, stomp := false }

/-- Frames of one entry, without records, and between the ends of a link, as their sender forms them. -/
def collect0 (h : FrameHdr) : CollectFrame :=
  match formed (.collect { hdr := h, bk := 0, records := [] }) with
  | .collect f => f
  | _ => { hdr := h, bk := 0, records := [] }
def sync0 (h : FrameHdr) (origin path : Time) : SyncFrame :=
  match formed (.sync { hdr := h, origin := origin, path := path }) with
  | .sync f => f
  | _ => { hdr := h, origin := origin, path := path }
def mgmt0 (h : FrameHdr) (op status : Byte) : MgmtFrame :=
  match formed (.mgmt { hdr := h, op := op, status := status, npad := 0, req := [0], rpl := [0] }) with
  | .mgmt f => f
  | _ => { hdr := h, op := op, status := status, npad := 0, req := [0], rpl := [0] }
def hello0 (h : FrameHdr) (serial : BitVec 64) : HelloFrame :=
  match formed (.hello { hdr := h, nodeId := 0, serial := serial, hstate := 1, mandHi := 0 }) with
  | .hello f => f
  | _ => { hdr := h, nodeId := 0, serial := serial, hstate := 1, mandHi := 0 }

/-- What `formed` makes is valid; each fault of R73 makes it invalid; a COLLECT frame may pre-empt it (R77). -/
theorem test_frames : frameValid (.sync (sync0 hdr0 5 6)) = true ∧ frameValid (.collect (collect0 hdr0)) = true ∧
    (let f := sync0 hdr0 5 6;
     frameValid (.sync { f with hdr := { f.hdr with stomp := true } }) = false ∧ frameValid (.sync { f with path := 7 }) = false ∧
     frameValid (.sync { f with hdr := { f.hdr with hops := 1 } }) = false ∧
     frameValid (.sync { f with hdr := { f.hdr with line := [.blk, .collect, .resume] } }) = true ∧
     frameValid (.sync { f with hdr := { f.hdr with line := [.collect] } }) = false ∧
     frameValid (.sync { f with hdr := { f.hdr with line := [.lockLost] } }) = false) ∧
    frameValid (.sync (sync0 { hdr0 with dirOk := false } 5 6)) = false := by decide +kernel

/-- Ring 3 enabled, at a step of R100. -/
def ringAt (step : Nat) : State := (rs [(WRP_CTRL, 8)]).setRing 3 { Ring.reset with step := step }

theorem meets_RingsOpenClose : State.reset.ringEn 3 = false ∧ ((ringAt 1).ring 3).step = 1 ∧
    ((State.reset.setRing 3 { Ring.reset with wrapped := true }).ring 3).wrapped = true ∧
    (let s := State.reset.setRing 3 { Ring.reset with map := { RingMap.none with nodes := [{ addr := 40, role := 1, index := 0 }] } };
     (mapEntry (s.ring 3) 40).isSome = true ∧ (s.rnode 3 40).lost = false) := by decide

theorem meets_StatusRecords : (collect0 hdr0).hdr.hcrcOk = true ∧ frameValid (.sync (sync0 hdr0 5 6)) = true ∧
    isReturning 1 (sync0 hdr0 5 6).hdr.dir = false ∧ (let s := ringAt 7; ringUp (s.ring 3) = true ∧ s.controls = true ∧ s.silent = false ∧ (s.ring 3).step = 7 ∧
     (s.ring 3).wrapped = false ∧ hdr0.mandate.toNat = s.mandate 3) ∧ ((ringAt 6).ring 3).step = 6 := by decide +kernel

/-- A transaction that waits, of each kind the statement names. -/
def waiting (p : MgmtUse) (seq : Option Nat) : MgmtTx :=
  { side := none, blanks := 0, purpose := p, dst := 1, op := 2, req := [0], nrpl := 0, npad := 0, seq := seq }

theorem meets_RingTransactions :
    (let s := (ringAt 7).setRing 3 { Ring.reset with step := 7, txq := [waiting .scales none] };
     s.controls = true ∧ s.silent = false ∧ ringUp (s.ring 3) = true ∧ (s.ring 3).txq = waiting .scales none :: [] ∧
     (waiting .scales none).seq = none ∧ (waiting .scales none).purpose ≠ .address) ∧
    (let s := (ringAt 7).setRing 3 { Ring.reset with step := 7, txq := [waiting .scales (some 5)] };
     let f := mgmt0 { hdr0 with seq := 5 } 2 1;
     frameValid (.mgmt f) = true ∧ (s.ring 3).step = 7 ∧ f.hdr.mandate.toNat = s.mandate 3 ∧
     (s.ring 3).txq = waiting .scales (some 5) :: [] ∧ (waiting .scales (some 5)).seq = some f.hdr.seq.toNat ∧
     (waiting .scales (some 5)).purpose = .scales ∧ f.status ≠ 4) ∧
    (let s := ringAt 7; frameValid (.hello (hello0 hdr0 9)) = true ∧ (s.ring 3).step = 7 ∧ (hello0 hdr0 9).hstate.getLsbD 0 = true ∧ (s.ring 3).wrapped = false ∧
     (s.ring 3).hello = none) ∧ ((ringAt 8).ring 3).step = 8 := by decide +kernel

/-- A frame at its last hop and with hops left; frames on the wrong port of a node that knows its near port. -/
theorem meets_NodeForwarding : State.reset.Calm 0 ∧
    (∀ hops ∈ [(0 : BitVec 6), 62, 63], let f := WarpFrame.unknown 0x77 { hdr0 with hops := hops } [1, 2];
      frameHdr f = some { hdr0 with hops := hops } ∧ ownHello (State.reset.node 3 63) f = false ∧
      wrongPort (State.reset.node 3 63) { hdr0 with hops := hops } 1 = false ∧ ownRow (State.reset.node 3 63) f = false) ∧
    (62 : BitVec 6) ≠ 63 ∧
    (let n := { Node.fresh NodeMake.none with near := some 0 };
     wrongPort n hdr0 1 = true ∧ wrongPort n hdr0 0 = false ∧ wrongPort n { hdr0 with dir := .ccw } 0 = true) ∧
    (let s := State.reset.setNode 3 63 { Node.fresh NodeMake.none with addr := 40 };
     let f := mgmt0 { hdr0 with dst := 40 } 1 0;
     frameValid (.mgmt f) = true ∧ f.hdr.hops ≠ 63 ∧ f.hdr.dst.toNat = (s.node 3 63).addr ∧ (s.node 3 63).addr ≠ 63 ∧ f.op = 1 ∧
     f.req = [0] ∧ f.rpl = [(0 : Word)]) := ⟨calm_of (by decide), by decide +kernel⟩

/-- A broadcast WRITE of NODE_ADDR to a node that is not yet assigned. -/
def addr0 : MgmtFrame :=
  let f : MgmtFrame := { hdr := { hdr0 with dst := 63 }, op := 2, status := 0, npad := 0, req := [0x14, 0], rpl := [] }
  match formed (.mgmt f) with
  | .mgmt g => g
  | _ => f

theorem meets_NodeForwarding_addr : let n := Node.fresh NodeMake.none;
    frameValid (.mgmt addr0) = true ∧ addr0.hdr.dst = 63 ∧ addr0.op = 2 ∧ addr0.req = [0x14, 0] ∧
    lowMandate n addr0.hdr.mandate.toNat = false ∧ remembered n addr0 = none ∧ n.held = [] ∧ n.chosen = [] ∧ n.near = none := by
  decide +kernel

theorem meets_NodeMasterFrames : (let s := State.reset.setNode 3 63 { Node.fresh NodeMake.none with addr := 40 };
    (s.node 3 63).addr ≠ 62) ∧ (collect0 hdr0).hdr.hops ≠ 63 ∧ (collect0 hdr0).hdr.dst.toNat < 41 ∧
    frameValid (.sync (sync0 { hdr0 with dst := 40 } 1 2)) = true ∧ frameValid (.sync (sync0 { hdr0 with dst := 41 } 1 2)) = true ∧
    lowMandate { Node.fresh NodeMake.none with mandHi := 2 } 1 = true := by decide +kernel

/-- An entry that waits on a target of a node. -/
theorem meets_NodeSlots : let s := State.reset.setNode 3 63 { Node.fresh NodeMake.none with
      blocked := true, legs := [(7, { Leg.reset with todo := [Entry.zero] })] };
    (legOf (s.node 3 63) 7).todo = Entry.zero :: [] ∧ (s.node 3 63).blocked = true ∧ permitPair (s.node 3 63) = false := by decide

theorem meets_NodeCommands : State.reset.Calm 0 := calm_of (by decide)

/-! ## Hypotheses that are met: engines -/

/-- An engine at pick 0 of a pass, which has opcode `op` and flags `flg` and reads word 1 and word 2. -/
def passing (op flg : Nat) : Engine :=
  { Engine.reset with
    inRun := true, pat := [(0, BitVec.ofNat 64 (op * 2 ^ 58 + flg * 2 ^ 52 + 3 * 2 ^ 39 + 2 ^ 26 + 2 * 2 ^ 13))] }

/-- That engine is engine 7. -/
def picking (op flg : Nat) : State := { State.reset with engines := [(7, passing op flg)] }

/-- Every pick the statements name is the next of some pass. -/
theorem meets_pickReady : ∀ op ∈ [0x01, 0x02, 0x04, 0x05, 0x06, 0x07, 0x08, 0x09, 0x0A, 0x0C, 0x0D, 0x0E, 0x10, 0x11, 0x12, 0x13,
    0x14, 0x15, 0x16, 0x17, 0x18, 0x19, 0x1A, 0x1C, 0x1D, 0x1E, 0x1F],
    (picking op 0).pickReady 7 op = true ∧ (picking op 0).badRead 7 = none := by decide

/-- A poisoned word of the pick itself, and one that it reads. -/
theorem meets_poisonedPick : (let s : State := { picking 0x05 0 with poison := [(pickAddr 7 0, true)] };
      s.pickReady 7 0x05 = true ∧ s.badRead 7 = some (pickAddr 7 0)) ∧
    (let s : State := { picking 0x05 0 with poison := [(hdlBase 7 + 0x10000 + 4, true)] };
      s.badRead 7 = some (hdlBase 7 + 0x10000 + 4)) := by decide

/-- A divisor of 0 and another; a clamp with REP; the relations of CMP; the tests signals of INJ. -/
theorem meets_pickFlags : sigGet ((picking 8 0).eng 7) 2 = 0 ∧
    sigGet { passing 8 0 with sig := [(2, 5)] } 2 ≠ 0 ∧
    (∀ f, f < 6 → ((picking 0x12 f).curPick 7).flg % 8 = f) ∧ (∀ f, f < 4 → ((picking 0x1C f).curPick 7).flg % 4 = f) ∧
    pflag ((picking 9 4).curPick 7) 2 = true ∧ pflag ((picking 0x1D 4).curPick 7) 2 = true ∧ ((picking 9 4).eng 7).idx < 2048 := by
  decide

/-- A LUT pick of two spans (m = 1, span 1: `u` runs from 0 to 2^29) with its input. -/
def lutOf (v : Word) : State := { State.reset with engines := [(7, { passing 0x13 1 with sig := [(1, v)] })] }

/-- LUT below its span, at its upper end, and inside it at both ends of its last segment. -/
theorem meets_lut : (lutOf 0xEFFFFFFF).pickReady 7 0x13 = true ∧ (lutOf 0x10000000).pickReady 7 0x13 = true ∧
    (lutOf 0).pickReady 7 0x13 = true ∧ (lutOf 0x0FFFFFFF).pickReady 7 0x13 = true ∧
    (sigGet ((lutOf 0xEFFFFFFF).eng 7) 1).toInt + 268435456 < 0 ∧
    536870912 ≤ (sigGet ((lutOf 0x10000000).eng 7) 1).toInt + 268435456 ∧
    (sigGet ((lutOf 0).eng 7) 1).toInt + 268435456 = 1 * 268435456 + 0 ∧
    (sigGet ((lutOf 0x0FFFFFFF).eng 7) 1).toInt + 268435456 = 1 * 268435456 + 268435455 := by decide

/-- A sort that runs. -/
theorem meets_sort : let q : SortReq := { at_ := 0, pick := 0, dst := 8, n := 2, ch := 0, desc := true, ord := false, excl := 0, vals := [1, 2] };
    let s : State := { State.reset with engines := [(7, { Engine.reset with inRun := true, sort := some q })] };
    (s.eng 7).sort = some q ∧ (s.eng 7).inRun = true ∧ s.sortFront = some 7 := by decide

/-- END alone, and END with another member of the group still in its pass. -/
theorem meets_endPass : let s := picking 2 0;
    let t := { picking 2 0 with regs := [(HDL_CTRL 6, 0x101), (HDL_STATUS 6, 2), (HDL_CTRL 7, 0x101), (HDL_STATUS 7, 2)] };
    (s.pickReady 7 2 = true ∧ s.group 7 = [7] ∧ (s.eng 7).presets = [] ∧ s.hovPhase 7 = 0 ∧ (s.eng 7).hovRes = 0 ∧
      Sparse.wf (fun _ => none) (s.eng 7).stNew = true) ∧
    t.pickReady 7 2 = true ∧ ∃ x ∈ t.group 7, x ≠ 7 ∧ (t.eng x).atEnd = false ∧ t.hdlState x = 2 := by decide +kernel

/-- An engine 7 under a pattern check, with pick 0 and END at pick 1. -/
def checked (w0 : Nat) (chk : Bool) : State :=
  { State.reset with engines := [(7, { Engine.reset with
      check := some chk, pat := [(0, BitVec.ofNat 64 w0), (1, BitVec.ofNat 64 (2 * 2 ^ 58))] })] }

/-- A pick of an opcode with FLG, D, A, B and P. -/
def pickWord (opc flg d a b p : Nat) : Nat := opc * 2 ^ 58 + flg * 2 ^ 52 + d * 2 ^ 39 + a * 2 ^ 26 + b * 2 ^ 13 + p

/-- A check during which the pattern was written; a pattern with END at pick 1; one that is not loaded, and one without END. -/
theorem meets_PatternCheck : ((checked 0 true).eng 7).check = some true ∧ ((checked 0 false).eng 7).check = some false ∧
    (pickOf (patGet ((checked 0 false).eng 7) 1)).opc = 2 ∧ (∀ n, n < 16 → (checked 0 false).segValid 7 n = false) ∧
    (Engine.reset.pat = [] ∧ ∀ i, i < 2048 → (pickOf (patGet Engine.reset i)).opc ≠ 2) := by
  refine ⟨by decide, by decide, by decide, by decide, rfl, fun i _ => ?_⟩
  simp [patGet, Engine.reset, Sparse.get]; decide

set_option synthInstance.maxSize 2048 in
set_option synthInstance.maxHeartbeats 200000 in
/-- A pick 0 for each way of breaking its opcode's row of R154, at the first value that breaks it. -/
theorem meets_PatternCheck_pick : ∀ w0 ∈ [pickWord 0x00 0 0 0 0 0, pickWord 0x1B 0 0 0 0 0, pickWord 0x20 0 0 0 0 0, pickWord 0x01 0 0 0 0 1,
      pickWord 0x04 2 0 0 0 0, pickWord 0x04 0 0 1 0 0, pickWord 0x05 0 0 0 1 0, pickWord 0x06 16 0 0 0 0, pickWord 0x06 4 0 0 1 0,
      pickWord 0x07 0 0 0 0 1, pickWord 0x09 8 0 0 0 0, pickWord 0x0A 1 0 0 0 0, pickWord 0x0E 2 0 0 0 0, pickWord 0x10 1 0 0 1 0,
      pickWord 0x11 0 0 0 0 1, pickWord 0x12 6 0 0 0 0, pickWord 0x13 10 0 0 0 0, pickWord 0x14 3 0 0 0 0, pickWord 0x15 2 0 0 0 0,
      pickWord 0x19 0 0 0 0 1, pickWord 0x1A 0 0 0 1 0, pickWord 0x1C 0 0 0 1 0, pickWord 0x1D 1 0 0 0 0, pickWord 0x1E 0 0 0 1 0,
      pickWord 0x1F 0 1 0 0 0],
    let k := pickOf (patGet ((checked w0 false).eng 7) 0)
    let on := pflag k
    k.opc ≠ 2 ∧
    (k.opc ∈ [0x00, 0x03, 0x0B, 0x0F, 0x1B] ∨ 0x1F < k.opc ∨ (k.opc = 0x01 ∧ (k.flg, k.d, k.a, k.b, k.p) ≠ (0, 0, 0, 0, 0)) ∨
      (k.opc = 0x04 ∧ (1 < k.flg ∨ k.a ≠ 0 ∨ k.b ≠ 0)) ∨ (k.opc = 0x05 ∧ (1 < k.flg ∨ on 0 = false ∧ k.b ≠ 0)) ∨
      (k.opc = 0x06 ∧ (15 < k.flg ∨ (if on 2 then k.b else k.p) ≠ 0)) ∨ (k.opc = 0x07 ∧ (1 < k.flg ∨ k.p ≠ 0)) ∨
      (k.opc = 0x09 ∧ (7 < k.flg ∨ (if on 1 then k.p else k.b) ≠ 0)) ∨ (k.opc ∈ [0x0A, 0x0C, 0x0D] ∧ k.flg ≠ 0) ∨
      (k.opc = 0x0E ∧ 1 < k.flg) ∨ (k.opc = 0x10 ∧ (1 < k.flg ∨ on 0 = true ∧ k.b ≠ 0)) ∨
      (k.opc = 0x11 ∧ (1 < k.flg ∨ on 0 = false ∧ k.p ≠ 0)) ∨
      (k.opc = 0x12 ∧ (31 < k.flg ∨ 5 < k.flg % 8 ∨ (if on 3 then k.b else k.p) ≠ 0)) ∨
      (k.opc = 0x13 ∧ (k.flg % 16 = 0 ∨ 9 < k.flg % 16 ∨ k.b ≠ 0)) ∨ (k.opc = 0x14 ∧ (2 < k.flg ∨ k.b ≠ 0 ∨ k.p ≠ 0)) ∨
      (k.opc = 0x15 ∧ (1 < k.flg ∨ k.b ≠ 0 ∨ k.p ≠ 0)) ∨ (k.opc ∈ [0x08, 0x16, 0x17, 0x18, 0x19] ∧ (k.flg ≠ 0 ∨ k.p ≠ 0)) ∨
      (k.opc = 0x1A ∧ (1 < k.flg ∨ k.p ≠ 0 ∨ on 0 = false ∧ k.b ≠ 0)) ∨
      (k.opc = 0x1C ∧ (3 < k.flg ∨ k.flg = 0 ∧ k.b ≠ 0)) ∨ (k.opc = 0x1D ∧ (7 < k.flg ∨ on 2 = false ∧ k.flg ≠ 0)) ∨
      (k.opc = 0x1E ∧ (31 < k.flg ∨ on 4 = false ∧ k.b ≠ 0)) ∨ (k.opc = 0x1F ∧ (k.flg ≠ 0 ∨ k.d ≠ 0))) := by decide +kernel

theorem meets_PatternCheck_passed : let s : State := { State.reset with engines := [(7, { Engine.reset with
      check := some false, pat := [(0, BitVec.ofNat 64 (2 * 2 ^ 58))] })] };
    (s.eng 7).check = some false ∧ s.checkPattern 7 = (1, none) := by decide +kernel

/-- A module in control, and a standby of a duplex pair. -/
theorem meets_EngineSettings : State.reset.mirrorBars (.crown 1) = false ∧ Master.crown 1 ≠ .mirror ∧
    (rs [(GFT_CTRL, 7), (GFT_STATUS, 3)]).mirrorBars (.crown 1) = true ∧ State.reset.hovPhase 7 = 0 ∧
    (rs [(HDL_HOV_STATUS 7, 2)]).hovPhase 7 ≠ 0 := by decide

theorem meets_EngineMemoryWrites : State.reset.mirrorBars (.host 3 2 127) = false ∧ ¬ (992 ≤ (991 : Fin 8192).val ∧ (991 : Fin 8192).val < 1024) ∧
    ¬ (992 ≤ (1024 : Fin 8192).val ∧ (1024 : Fin 8192).val < 1024) := by decide

/-- A hand-over that may start: segments 0 to 3 as outgoing, incoming, tracking and fade, the outgoing one enabled and active. -/
theorem meets_TuningUnits : let s := rs [(HDL_STATUS 7, 0xA), (HDL_SEG_EN 7, 1), (HDL_SEG_ACT 7, 1),
      (HDL_SEG_RANGE 7 0, 0x8000), (HDL_SEG_RANGE 7 1, 0x8000), (HDL_SEG_RANGE 7 2, 0x8000), (HDL_SEG_RANGE 7 3, 0x8000),
      (HDL_HOV_SEGS 7, 0x80003210), (HDL_HOV_GAP 7, 0x00011C00)];
    s.group 7 = [7] ∧ s.hovReady 7 = true ∧ State.reset.hovReady 7 = false ∧ State.reset.Calm 8 := by
  refine ⟨by decide, by decide +kernel, by decide, calm_of (by decide)⟩

/-- A bypass command that is due for cell 0 of string 2. -/
theorem meets_WeaverAndBypass : let x : BypTask := { npad := 4, isOpen := true, tries := 7, taken := false };
    let s : State := { rs [(WRP_CTRL, 4)] with
      rings := [(2, { Ring.reset with step := 7, map := { RingMap.none with nodes := [{ addr := 40, role := 0, index := 31 }] } })]
      wvr := { Weaver.reset with tasks := [(95, some x)] } };
    (∀ k, Master.crown 0 ≠ .loader k) ∧ s.duplex = false ∧ s.bypTask (32 * 2 + 31) = some x ∧ s.cellAddr (32 * 2 + 31) = some 40 ∧
    x.taken = false ∧ s.controls = true ∧ s.silent = false ∧ ringUp (s.ring 2) = true ∧ x.tries < 8 ∧ (s.rnode 2 40).lost = false := by decide

/-! ## Hypotheses that are met: the duplex pair -/

/-- A module of a duplex pair in a role, its lanes up. -/
def inPair (role : Nat) : State := rs [(GFT_CTRL, 7), (GFT_STATUS, BitVec.ofNat 32 (0x30 + role))]

/-- A peer's STATUS frame, from the other position. -/
def peerFrame : GraftStatus :=
  let f : GraftStatus :=
    { line := graftFormed true true 3 0 [], origin := 0, rxPeer := 0, rxK := 0, flags := 0, configId := 0, tcyc := 0, bk := 0 }
  { f with line := graftFormed true true 3 0 (statusBody f) }

/-- A MIRROR frame with the write of a coefficient of engine 7. -/
def mirror0 : MirrorFrame :=
  let f : MirrorFrame := { line := graftFormed true true 4 0 [], mseq := 1, writes := [(BitVec.ofNat 32 (coefAddr 7 1 2047), 5)] }
  { f with line := graftFormed true true 4 0 (mirrorBody f) }

/-- A state image without its ring sections. -/
def bareImage : Image :=
  { line := graftFormed true true 4 0 [], k := 0, bk := 0, tcyc := 0, configId := 0, size := 0, handoff := false, mirrorSeq := 0, run := 0
    cls := 0, epoch := 0, supv := List.replicate 6 0, rings := [], front := false, draft := List.replicate 4 ⟨0, 0, 0⟩
    strings := List.replicate 3 ⟨0, 0, 0, 0, 0, 0, false, 0⟩, quads := List.replicate 24 ⟨0, []⟩
    engines := List.replicate 8 ⟨0, 0, 0, 0, 0, 0, 0, []⟩ }

/-- An image with its line as the active module forms it. -/
def lined (f : Image) : Image := { f with line := graftFormed true true 4 0 (imageBody f) }

theorem lined_valid (f : Image) : imageOk (lined f) = true := graftFormed_valid true true 4 0 (imageBody f)

/-- A whole one. -/
def image0 : Image := lined { bareImage with rings := List.replicate 4 ⟨0, 0, 0, 0, 0, 0, 0⟩ }

/-- Frames of the Graft link are valid as formed, and not with one word changed. -/
theorem test_graft_frames : statusOk peerFrame = true ∧ statusOk { peerFrame with configId := 1 } = false ∧ mirrorOk mirror0 = true ∧
    mirrorOk { mirror0 with mseq := 2 } = false := by decide +kernel

theorem test_image_valid : imageOk image0 = true := lined_valid _

/-- An image that is next, of this configuration and size, for this cycle. -/
theorem meets_GraftFrames_image : let s := inPair 3;
    s.duplex = true ∧ s.isStandby = true ∧ s.gft.lastK = none ∧ image0.configId = s.reg GFT_CONFIG_ID ∧
    image0.size ≤ imageLimit s.tcyc ∧ sext 32 (image0.mirrorSeq.toNat + 2 ^ 32 - (s.reg GFT_MSEQ).toNat) ≤ 0 ∧ image0.k.toNat = s.k := by
  decide

theorem meets_GraftFrames : (inPair 4).duplex = true ∧ (inPair 4).linkUp = true ∧ (inPair 4).role = 4 ∧ mirror0.writes = [(BitVec.ofNat 32 (coefAddr 7 1 2047), 5)] ∧ mirror0.mseq = (inPair 3).reg GFT_MSEQ + 1 ∧
    (inPair 3).isStandby = true ∧ (inPair 1).isStandby = true ∧ (inPair 3).standby = true ∧ (inPair 3).engRuns 7 = false ∧
    (let s : State := (inPair 4).withGft { Graft.reset with mirrorQ := [(0x20000000, 1)] }; s.gft.copyQ = [] ∧ s.gft.mirrorQ ≠ []) := by decide

theorem meets_ControlOfTheRings : (inPair 1).standby = true ∧
    (let s := inPair 4; s.gft.hoPhase = 0 ∧ s.gft.hoReq = 0 ∧ s.Calm 8) ∧
    (let s := rs [(GFT_CTRL, 7), (GFT_STATUS, 0x33), (GFT_CFG, 2), (GFT_REVERT, 10)];
     s.duplex = true ∧ s.role = 3 ∧ s.bit GFT_CFG 1 = true ∧ s.fld GFT_REVERT 15 0 ≠ 0 ∧ s.gft.peer = none) ∧
    mayHandoff (.host 0 2 1) = true ∧ mayHandoff (.host 0 1 1) = false ∧
    (let s := (inPair 1).withGft { Graft.reset with peer := some peerFrame };
     s.duplex = true ∧ s.role = 1 ∧ s.bit GFT_CTRL 2 = true ∧ s.samePos = false ∧ s.faulted = false) ∧
    (inPair 0).role = 0 ∧ (inPair 0).bit GFT_STATUS 6 = false := by
  refine ⟨by decide, ⟨by decide, by decide, calm_of (by decide)⟩, by decide, by decide, by decide, by decide⟩

/-! ## Hypotheses that are met: safety -/

/-- A safety parameter block (R297) for S1 code 0x1234: channels 0 and 1 are a pair with function SPB and test pulses, 4 and 5 have SMT,
6 is RESET; manual restart, remote safety on. Its PCRC was computed apart from the model. -/
def block1 : SafetyBlock :=
  [52, 18, 1, 0, 7, 0, 9, 0, 17, 21, 17, 1, 2, 2, 3, 0, 1, 4, 100, 0, 10, 0, 2, 0, 10, 0, 10, 0, 200, 0, 1, 0, 208, 7, 20, 0, 20, 0, 0, 0,
    60, 0, 0, 0, 0, 0, 0, 0, 0, 0, 0, 0, 0, 0, 0, 0, 0, 0, 0, 0, 14, 233, 55, 0]

/-- The same block with automatic restart. -/
def block2 : SafetyBlock :=
  [52, 18, 1, 0, 7, 0, 9, 0, 17, 21, 17, 1, 2, 2, 3, 0, 1, 4, 100, 0, 10, 0, 2, 1, 10, 0, 10, 0, 200, 0, 1, 0, 208, 7, 20, 0, 20, 0, 0, 0,
    60, 0, 0, 0, 0, 0, 0, 0, 0, 0, 0, 0, 0, 0, 0, 0, 0, 0, 0, 0, 172, 152, 82, 255]

/-- Both blocks are valid, whole, for their code; a byte changed is not. -/
theorem test_block : blockReason block1 = 0 ∧ blockReason block2 = 0 ∧ setCode block1 = 0x1234 ∧ blockReason (block1.set 5 1) = 2 := by
  decide +kernel

/-- Safety in force with a block, and some registers. -/
def guarded (b : SafetyBlock) (l : Sparse Word) : State :=
  { rs ((SAF_SEAL, 0x1234) :: l) with saf := { Safety.reset with block := b, valid := true, cond := 0 } }

theorem meets_SafeInputs :
    (let s := guarded block1 [(SAF_IN, 0x10100)]; s.Quiet ∧ s.permits 0 = true ∧ s.chanFn 0 = 1 ∧ s.bit SAF_DEMAND 0 = false) ∧
    (let s := guarded block1 [(SAF_IN, 0x1000)]; s.Quiet ∧ s.permits 4 = true ∧ s.chanFn 4 = 2 ∧ s.bit SAF_DEMAND 4 = false) ∧
    (let s := { guarded block1 [] with saf := { (guarded block1 []).saf with chans := [(0, { SafeChan.reset with returned := 1 })] } };
     s.Quiet ∧ s.permits 0 = false ∧ (s.chan 0).repeated = false ∧ s.tested 0 = true ∧ 1 ≤ (s.chan 0).returned) ∧
    (let s := guarded block1 []; s.Quiet ∧ s.saf.tpsOff.getLsbD 3 = false ∧ s.fedBy 0 = [0, 2]) ∧
    (let s := { guarded block1 [(SAF_IN, 0x101)] with saf := { (guarded block1 []).saf with
        tpsPulse := 1, chans := [(0, { SafeChan.reset with high := true }), (2, { SafeChan.reset with high := true })] } };
     s.Quiet ∧ s.saf.tpsPulse.getLsbD 0 = true ∧ 0 ∈ s.fedBy 0 ∧ (s.chan 0).high = true ∧ (s.chan 0).repeated = false ∧
     (0 : BitVec 8).getLsbD 0 = false ∧ (1 : BitVec 8).getLsbD 0 = true ∧ 2 ∈ s.fedBy 0 ∧ (s.chan 2).high = true ∧
     s.paired (2 / 2) = false) ∧
    (let s := guarded block1 [(SAF_IN, 0x100)];
     s.Quiet ∧ s.paired 0 = true ∧ s.pairLatched 0 = false ∧ s.permits (2 * 0) ≠ s.permits (2 * 0 + 1)) := by
  refine ⟨⟨quiet_of ?_, ?_⟩, ⟨quiet_of ?_, ?_⟩, ⟨quiet_of ?_, ?_⟩, ⟨quiet_of ?_, ?_⟩, ⟨quiet_of ?_, ?_⟩, ⟨quiet_of ?_, ?_⟩⟩ <;>
    decide +kernel

/-- A restart acknowledgement, by channel 6 or after AR_DELAY, and the test of an output. -/
theorem meets_SafeOutputs :
    (let s := guarded block1 [(SAF_DEMAND, 0)]; s.Quiet ∧ s.chanFn 6 = 3 ∧ s.manual = true ∧ s.saf.testOut = none ∧ s.reg SAF_DEMAND = 0) ∧
    (let s := { guarded block2 [] with saf := { (guarded block2 []).saf with arRunning := true } };
     s.Quiet ∧ s.saf.arRunning = true ∧ s.saf.valid = true ∧ s.manual = false ∧ s.saf.testOut = none) ∧
    (let s := guarded block1 [(SAF_OUT, 2)]; s.Quiet ∧ s.bit SAF_OUT 1 = true ∧ s.saf.testOut = none) ∧
    (let s := { guarded block1 [(SAF_OUT, 2), (SAF_STATUS, 0)] with saf := { (guarded block1 []).saf with testOut := some 1 } };
     s.Quiet ∧ s.saf.testOut = some 1 ∧ s.saf.hitInTest = false ∧ s.saf.ackPend = false ∧ s.bit SAF_STATUS 1 = false) ∧
    (let s := rs [(WRP_CTRL, 15), (SAF_STATUS, 3)]; s.spb = true ∧ s.controls = true ∧ s.ringsEn = [0, 1, 2, 3]) := by
  refine ⟨⟨quiet_of ?_, ?_⟩, ⟨quiet_of ?_, ?_⟩, ⟨quiet_of ?_, ?_⟩, ⟨quiet_of ?_, ?_⟩, ?_⟩ <;> decide +kernel

/-- A PERMIT with PSEQ 1 from controller 9 to address 7, and a STOP and a TRIP of the same number; their SCRC was computed apart from the
model. -/
def permitPdu : SafetyPdu :=
  { lanB := false,
    bytes := [1, 0, 9, 0, 7, 0, 0, 0, 1, 0, 0, 0, 90, 165, 165, 90, 0, 0, 0, 0, 0, 0, 0, 0, 0, 0, 0, 0, 57, 16, 225, 239] }
def stopPdu : SafetyPdu :=
  { lanB := true,
    bytes := [1, 0, 9, 0, 7, 0, 0, 0, 1, 0, 0, 0, 195, 60, 60, 195, 0, 0, 0, 0, 0, 0, 0, 0, 0, 0, 0, 0, 68, 43, 5, 183] }
def tripPdu : SafetyPdu :=
  { lanB := true,
    bytes := [1, 0, 9, 0, 7, 0, 0, 0, 1, 0, 0, 0, 240, 15, 15, 240, 0, 0, 0, 0, 0, 0, 0, 0, 0, 0, 0, 0, 112, 132, 176, 197] }

/-- Copies that are sound and one that is not; a first copy that waits. -/
theorem meets_RemotePermits :
    (let s := guarded block1 []; s.Quiet ∧ s.remote = true ∧ s.pduSound permitPdu = true ∧ s.pduSound stopPdu = true ∧
     s.pduSound tripPdu = true ∧ s.pduSound { permitPdu with bytes := permitPdu.bytes.set 16 1 } = false ∧ s.saf.pend.find? (fun q => pduSeq q == 1) = none ∧
     0 < sext 32 (pduSeq permitPdu + 2 ^ 32 - (s.reg SAF_REMOTE).toNat) ∧ pduCode permitPdu = 0xA55A ∧ pduCode stopPdu = 0x3CC3 ∧
     pduCode tripPdu = 0x0FF0 ∧ blkAt s.saf.block 0x28 4 ≠ 0 ∧ s.saf.degOver = false) ∧
    (let s := { guarded block1 [(SAF_STATUS, 0x20)] with saf := { (guarded block1 []).saf with pend := [permitPdu] } };
     s.Quiet ∧ s.remote = true ∧ s.saf.pend.find? (fun q => pduSeq q == 1) = some permitPdu ∧ s.saf.pend = permitPdu :: [] ∧
     pduSeq permitPdu = 1 ∧ pduSeq stopPdu = 1 ∧ permitPdu.lanB ≠ stopPdu.lanB ∧
     s.bit SAF_STATUS 5 = true ∧ s.saf.degOver = false) ∧
    (guarded block1 []).s1Code = setCode block1 := by
  refine ⟨⟨quiet_of ?_, ?_⟩, ⟨quiet_of ?_, ?_⟩, ?_⟩ <;> decide +kernel

/-! ## Hypotheses that are met: faults and the journal -/

/-- A code that is listed, one that is not; a record that takes a merge. -/
theorem meets_FaultRaises : State.reset.Quiet ∧ State.reset.Calm 0 ∧ classOf 0x0D06 ≠ 0 ∧ classOf 0x0D04 = 4 ∧ classOf 0x0DFF = 0 ∧
    State.reset.reg FLT_STATUS = 0 ∧
    (let s : State := { rs [(FLT_REC_STAT 63, 0x89010D06)] with flt := { order := [63], causes := [], reloads := [] } };
     s.Unrouted ∧ s.Calm 128 ∧ s.duplex = false ∧ classOf 0x0D06 < 4 ∧ s.newestRec (0x0D06 / 256) false = some 63 ∧
     s.pair (FLT_REC_FIRST_LO 63) ≠ (1 : Time).toNat) := by
  refine ⟨reset_quiet, calm_of (by decide), by decide, by decide, by decide, by decide, unrouted_of (by decide), calm_of (by decide), ?_⟩
  decide

/-- Records that may be acknowledged and cleared, and by whom. -/
theorem meets_AcknowledgeAndClear : let s : State := { rs [(FLT_REC_STAT 0, 0xCC000D04), (FLT_REC_STAT 63, 0x89010D06)] with
      flt := { order := [63, 0], causes := [], reloads := [] } };
    s.Unrouted ∧ s.Calm 128 ∧ mayBy true 1 (.crown 1) = true ∧ s.recUsed 63 = true ∧ s.recAcked 63 = false ∧ s.recClass 63 < 4 ∧
    s.reg (FLT_REC_ACTIVE 63) = 0 ∧ mayBy false 2 (.host 0 2 1) = true ∧ s.recUsed 0 = true ∧ s.recClass 0 = 4 ∧ s.recAcked 0 = true ∧
    s.reg (FLT_REC_ACTIVE 0) = 0 ∧ mayBy false 2 (.crown 1) = false := by
  refine ⟨unrouted_of (by decide), calm_of (by decide), ?_⟩
  decide

/-- Words of Crown SRAM and of an engine's stores; a poisoned word whose copy on the card is clean; factory test mode. -/
theorem meets_MemoryFaults : ¬ (0x10 ≤ (0x30 : Byte).toNat ∧ (0x30 : Byte).toNat ≤ 0x17) ∧
    cardStore (coefAddr 7 1 2047) = true ∧
    ({ State.reset with engines := [(7, { Engine.reset with inRun := true })] } : State).eng 7 = { Engine.reset with inRun := true } ∧
    (let a := coefAddr 7 1 2047;
     let s : State := { State.reset with poison := [(a, true)], seed := { SeedUnit.reset with cardOk := true } };
     a = (BitVec.ofNat 32 a).toNat / 4 * 4 ∧ s.poisoned a = true ∧ s.isDirty a = false ∧ s.seed.cardOk = true ∧
     (let c : Capture := ⟨BitVec.ofNat 32 a, 0x17, 0, 2⟩;
      c ∈ (s.withFlt { s.flt with reloads := [c] }).flt.reloads ∧ c.addr.toNat = a)) ∧
    (let s := rs [(SED_FACTORY, 3), (SAF_STATUS, 2)]; s.Quiet ∧ s.injAllowed (.host 0 4 1) = s.factoryMode) := by
  refine ⟨by decide, by decide, by decide, by decide, quiet_of (by decide), by decide⟩

/-- A ring with seven entries and with one; blocks to erase and to write. -/
theorem meets_JournalCopier : State.reset.Calm 2 ∧
    (let s : State := { rs [(JNL_HEAD, 7), (JNL_STATUS, 1)] with jnl := { JnlUnit.reset with mark := 7, started := true, nblocks := 4 } };
     s.Calm 0 ∧ s.jRuns = true ∧ s.jnl.lost = none ∧ (s.jblk s.jnl.cur).bad = false ∧ 0 < s.jPending ∧ s.jPending ≤ 8192 ∧ (s.jblk s.jnl.cur).entries.length + 7 ≤ 1785) ∧
    (let s : State := { rs [(JNL_STATUS, 1)] with jnl := { JnlUnit.reset with
        started := true, nblocks := 4, blocks := [(1, { JBlock.fresh with seq := 1 })] } };
     s.Calm 2 ∧ s.jRuns = true ∧ s.jnl.flushing = false ∧ s.jPending = 0 ∧ s.jErased.length < 2 ∧ s.jOldest = some 2 ∧
     (s.jblk 2).erases + 1 ≠ 90000) ∧
    (let s : State := { State.reset with jnl := { JnlUnit.reset with started := true, nblocks := 4 } };
     s.Unrouted ∧ s.Calm 128 ∧ s.jnl.started = true ∧ s.bit JNL_STATUS 0 = false ∧ (∀ r ∈ s.flt.order, r < 64) ∧
     2 ≤ (s.jUsable.filter (fun j => j != s.jnl.cur)).length) ∧
    (let s : State := { rs [(JNL_HEAD, 8192)] with jnl := { JnlUnit.reset with mark := 8192, flushing := true } };
     s.Calm 0 ∧ s.jnl.flushing = true ∧ 0 < s.jPending) := by
  refine ⟨calm_of ?_, ⟨calm_of ?_, ?_⟩, ⟨calm_of ?_, ?_⟩, ⟨unrouted_of ?_, calm_of ?_, ?_⟩, ⟨calm_of ?_, ?_⟩⟩ <;> decide +kernel

/-- A block to which entries are copied, and an erased one behind it. -/
theorem meets_JournalCopier_fails : let s : State := { rs [(JNL_HEAD, 7), (JNL_STATUS, 1)] with jnl := { JnlUnit.reset with
      mark := 7, started := true, nblocks := 4, blocks := [(1, { JBlock.fresh with erased := true })] } };
    s.jRuns = true ∧ 0 < s.jPending ∧ (s.jblk s.jnl.cur).erased = false ∧ s.jErased = 1 :: [] := by decide +kernel

/-! ## Hypotheses that are met: comparators, gate drive and the Sap engine -/

/-- A stamp of a base at 0 is less than 2 ns: the interpolator adds less than a clock (R57). -/
theorem stamp_start (s : State) (n : Nat) (h : s.tb n = TimeBase.reset) : s.stamp n < ns 2 := by
  unfold State.stamp
  rw [h]
  have : Config.interp n TimeBase.reset.cnt.toNat % 200 < 200 := Nat.mod_lt _ (by decide)
  simp only [show TimeBase.reset.cnt.toNat = 0 from rfl] at this ⊢
  refine Nat.lt_of_le_of_lt (Nat.mod_le _ _) (Nat.div_lt_of_lt_mul ?_)
  simp only [ns]
  omega

theorem early (x : Nat) (h : x < ns 2) : tdiff x (0 + ns (2 ^ 0 * 1000)) < 0 := by
  have h2 : ns 2 = 131072 := rfl
  rw [show (0 + ns (2 ^ 0 * 1000)) = 65536000 from rfl]
  unfold tdiff sext
  rw [h2] at h
  omega

/-- An event of source 255, routed to one destination: the last interrupt, and the first gate group. -/
theorem meets_RouterDelivers :
    (let s := rs [(EVR_SRC_DST_HI 255, 0x00800000)]; s.Calm 0 ∧ (255 : Fin 256).val ≠ 167 ∧ pulseSource 255 = true ∧
     s.bit (EVR_SRC_STAT 255) 0 = false ∧ s.fld (EVR_SRC_CFG 255) 31 24 = 0 ∧
     join64 (s.reg (EVR_SRC_DST_LO 255)) (s.reg (EVR_SRC_DST_HI 255)) = 2 ^ (30 + 25)) ∧
    (let s := rs [(EVR_SRC_DST_LO 0, 1), (CMP_LATCH_HOT, 1)]; s.Calm 0 ∧ s.bit (EVR_SRC_STAT 0) 2 = false ∧ s.srcMay 0 = true ∧ s.bit (EVR_SRC_STAT 0) 0 = false ∧
     s.fld (EVR_SRC_CFG 0) 31 24 = 0 ∧ join64 (s.reg (EVR_SRC_DST_LO 0)) (s.reg (EVR_SRC_DST_HI 0)) = 2 ^ 0 ∧
     s.bit GDR_STATUS (8 + 0) = false) ∧
    (let s := rs [(EVR_SRC_STAT 0, 1)]; s.Calm 0 ∧ s.bit (EVR_SRC_STAT 0) 0 = true) ∧
    (let s : State := { State.reset with evr := { Router.reset with guards := [(105, { t0 := some 0, count := 8 })] } };
     s.Quiet ∧ pulseSource 105 = true ∧ s.bit (EVR_SRC_STAT 105) 0 = false ∧ (s.guard 105).t0 = some 0 ∧
     (s.guard 105).count = fld 0x08000000 31 24 ∧
     fld 0x08000000 31 24 ≠ 0 ∧ fld 0x08000000 23 20 = s.fld (EVR_SRC_CFG 105) 23 20 ∧
     tdiff (s.stamp 0) (0 + ns (2 ^ s.fld (EVR_SRC_CFG 105) 23 20 * 1000)) < 0) := by
  refine ⟨⟨calm_of ?_, ?_⟩, ⟨calm_of ?_, ?_⟩, ⟨calm_of ?_, ?_⟩, ⟨quiet_of ?_, ?_, ?_, ?_, ?_, ?_, ?_, ?_⟩⟩
  case refine_14 =>
    exact early _ (stamp_start _ 0 rfl)
  all_goals decide +kernel

theorem reset_tame : State.reset.Tame := tame_of (by decide) (by decide) (by decide) (by decide)

theorem meets_RouterCommands : State.reset.Tame ∧ State.reset.Quiet ∧ State.reset.Unrouted ∧ State.reset.Calm 1 :=
  ⟨reset_tame, reset_quiet, reset_quiet.1, calm_of (by decide)⟩

theorem meets_Comparators : State.reset.Quiet := reset_quiet

/-- A group in service whose legs' bootstraps are released. -/
def gateOn : State := rs [(GDR_CTRL, 15), (GDR_STATUS, 0x7F000F)]

theorem meets_GateChannels : gateOn.Quiet ∧ gateOn.chanFree 15 = true ∧ gateOn.chanFree 0 = true ∧ gateOn.bstOk 7 = true ∧
    gateOn.bit GDR_STATUS (8 + 3) = false ∧ (rs [(GDR_STATUS, 0x800)]).bit GDR_STATUS (8 + 15 / 4) = true ∧
    State.reset.chanFree 15 = false ∧ gateOn.gate.refresh.getLsbD 7 = false ∧ gateOn.lowLong 14 = false ∧
    (let s := { gateOn with gate := { GateUnit.reset with refresh := 0xFC } };
     s.Quiet ∧ s.gate.refresh.getLsbD 2 = true ∧ s.gate.refresh.getLsbD 7 = true ∧ s.bstOk 7 = true) ∧
    State.reset.Tame := by
  refine ⟨quiet_of ?_, ?_, ?_, ?_, ?_, ?_, ?_, ?_, ?_, ⟨quiet_of ?_, ?_⟩, reset_tame⟩ <;> decide +kernel

theorem meets_GateTrips : State.reset.Quiet ∧ State.reset.Calm 0 ∧ State.reset.Tame ∧
    (let s := rs [(GDR_CTRL, 8), (GDR_RPTONLY, 8)]; s.Quiet ∧ s.bit GDR_CTRL 3 = true ∧ s.bit GDR_RPTONLY 3 = true ∧
     s.bit GDR_STATUS (8 + 3) = false ∧ s.bit GDR_STATUS (4 + 3) = false) := by
  refine ⟨reset_quiet, calm_of (by decide), reset_tame, quiet_of (by decide), by decide⟩

theorem meets_GatePermits : State.reset.Calm 2 ∧ State.reset.Quiet ∧ State.reset.Tame := ⟨calm_of (by decide), reset_quiet, reset_tame⟩

/-- A start that is refused, and one of each stage that is not. -/
theorem meets_SapStages : State.reset.Tame ∧ State.reset.startBad 0 = true ∧ (List.replicate 16 (0xFFF : BitVec 12)).length = 16 := by
  refine ⟨reset_tame, by decide +kernel, by decide⟩

/-! ## Hypotheses that are met: the farm network -/

/-- The network in stage 3, line port 3 up and with a valid link delay. -/
def linked : State := rs [(ETH_STATUS, 0x300), (ETH_PORT_STATUS 3, 7)]

/-- A frame that nothing is wrong with. -/
def frame0 : EthFrame :=
  { errored := false, dst := 5, src := 6, ethertype := 0x0800, listened := false, len := 64, vid := none, pcp := 0, rct := some (1, 10),
    supervision := false, ipDst := 0, ipPlain := true, proto := 17, udpSrc := 0, udpPort := 0, payload := [] }

/-- Line port 3 has a frame on the wire whose time ends with the next clock, and two that wait. -/
def crowded : State :=
  { linked with eth := { EthUnit.reset with ports := [(3,
    ⟨[⟨1, 1522, 0, .ethForward 3 { frame0 with src := 7 }⟩, ⟨6, 64, 0, .ethForward 3 { frame0 with src := 8 }⟩],
      some ⟨0, 64, 0, .ethForward 3 frame0⟩, 2⟩)] } }

/-- The share of LAN A is full behind port 1's frames. -/
def fullShare : State :=
  { linked with eth := { EthUnit.reset with ports := [(1, { cur := none, left := 0, queue := [⟨0, 65500, 0, .ethForward 1 frame0⟩] })] } }

theorem meets_EthernetQueues : crowded.pending = [] ∧ (crowded.ethPort 3).cur.isSome = true ∧ (crowded.ethPort 3).left ≤ 2 ∧
    crowded.portUp 3 = true ∧ nextItem (crowded.ethPort 3).queue = some ⟨6, 64, 0, .ethForward 3 { frame0 with src := 8 }⟩ ∧
    crowded.shareFits 0 frame0.len = true ∧ crowded.shareFits 2 frame0.len = true ∧ fullShare.shareFits 0 frame0.len = false ∧
    linked.LinesIdle ∧ linked.isSafety frame0 = false := by
  refine ⟨rfl, ?_, ?_, ?_, ?_, ?_, ?_, ?_, rfl, ?_⟩ <;> decide +kernel

theorem meets_EthernetFrames : linked.Quiet ∧ linked.stage = 3 ∧ linked.relayShut 1 = false ∧ linked.bit ETH_CTRL 3 = true ∧
    frame0.errored = false ∧ ¬ frame0.len < 64 ∧ frame0.rct = some (1, 10) ∧ State.reset.stage = 0 := by
  refine ⟨quiet_of (by decide), ?_⟩
  decide

theorem meets_NetworkPorts : State.reset.Calm 1 ∧ State.reset.Tame ∧ linked.Quiet ∧ linked.Calm 0 ∧ linked.portUp 3 = true ∧ 2 ≤ linked.stage ∧
    linked.LinesIdle ∧ State.reset.stage < 2 ∧ State.reset.eth.sessions.length ≤ 32 := by
  refine ⟨calm_of (by decide), reset_tame, quiet_of (by decide), calm_of (by decide), ?_, ?_, rfl, ?_⟩ <;> decide

/-- A message that passes the profile checks of a state with domain 0. -/
def msg0 : PtpMsg :=
  { version := 2, lengthOk := true, domain := 0, sdo := 0, srcPort := 9, seqId := 7, correction := 0, origin := 0, wraps := 0, twoStep := true }

theorem meets_Ptp : let s := rs [(ETH_STATUS, 0x300), (ETH_PORT_STATUS 3, 7), (ETH_PTP_CFG, 0)];
    s.LinesIdle ∧ s.Quiet ∧ s.Calm 0 ∧ 1 ≤ s.stage ∧ s.portUp 3 = true ∧ s.bit (ETH_PORT_STATUS 3) 2 = true ∧ s.profileBad msg0 = false ∧
    s.wrongMaster 3 msg0.srcPort = false ∧ s.profileBad { msg0 with version := 1 } = true ∧
    (let u := { s with eth := { EthUnit.reset with ptp := [(1, { PtpPort.reset with wait := some ⟨9, 7, 0, 0⟩ })] } };
     u.Quiet ∧ 2 ≤ u.stage ∧ u.profileBad msg0 = false ∧ u.wrongMaster 3 msg0.srcPort = false ∧
     (u.ptpPort (3 / 2)).wait = some ⟨9, 7, 0, 0⟩) := by
  refine ⟨rfl, quiet_of ?_, calm_of ?_, ?_, ?_, ?_, ?_, ?_, ?_, ⟨quiet_of ?_, ?_⟩⟩ <;> decide +kernel

/-! ## Hypotheses that are met: management -/

/-- A session of a role with H = 4. -/
def session0 (role : Nat) : Session :=
  { port := 3, role := role, key := 0, high := 4, reply := some ⟨131, 4, 0, []⟩, subs := true, notes := 0, sec := 0, inSec := 0, dropped := 0 }

/-- A state in which session 127 is open with a role, and a request in it that is next in order. -/
def serving (role : Nat) : State := { linked with eth := { EthUnit.reset with sessions := [(127, some (session0 role))] } }
def request0 : MgmtHdr := { port := 3, session := 127, seq := 5, tagOk := true }

theorem serving_quiet (role : Nat) : (serving role).Quiet := quiet_of (by simp [serving, quietOk, linked, rs, State.reset]; decide)

theorem serving_accepts (role : Nat) (h : role < 5) : (serving role).Accepts request0 (session0 role) :=
  ⟨show 3 ≤ linked.stage by decide, rfl, h, rfl, show 4 < (5 : BitVec 64).toNat by decide⟩

/-- Every request of the table is one. -/
theorem meets_IsRequest : IsRequest (.closeSession request0) request0 0x02 0 ∧ IsRequest (.keepalive request0) request0 0x03 0 ∧
    IsRequest (.subscribe request0 true) request0 0x04 0 ∧ IsRequest (.mgmtRead request0 0 1) request0 0x10 0 ∧
    IsRequest (.mgmtWrite request0 0 [1]) request0 0x11 0 ∧ IsRequest (.journalRead request0 0 0 1) request0 0x20 0 ∧
    IsRequest (.captureRead request0 0 1) request0 0x21 0 ∧ IsRequest (.cmdStart request0) request0 0x30 1 ∧
    IsRequest (.cmdStop request0) request0 0x30 1 ∧ IsRequest (.hostmsg request0 [1]) request0 0x31 1 ∧
    IsRequest (.safetyParam request0 [1]) request0 0x40 3 ∧ IsRequest (.seedBegin request0 0 1) request0 0x50 2 ∧
    IsRequest (.seedData request0 0 [1]) request0 0x51 2 ∧ IsRequest (.seedCommit request0) request0 0x52 2 ∧
    IsRequest (.seedAbort request0) request0 0x53 2 := by
  refine ⟨⟨rfl, rfl, rfl⟩, ⟨rfl, rfl, rfl⟩, ⟨rfl, rfl, rfl⟩, ⟨rfl, rfl, rfl⟩, ⟨rfl, rfl, rfl⟩, ⟨rfl, rfl, rfl⟩, ⟨rfl, rfl, rfl⟩,
    ⟨rfl, rfl, rfl⟩, ⟨rfl, rfl, rfl⟩, ⟨rfl, rfl, rfl⟩, ⟨rfl, rfl, rfl⟩, ⟨rfl, rfl, rfl⟩, ⟨rfl, rfl, rfl⟩, ⟨rfl, rfl, rfl⟩, ⟨rfl, rfl, rfl⟩⟩

theorem meets_ManagementSessions : (serving 1).LinesIdle ∧ (serving 1).Quiet ∧ (serving 1).Accepts request0 (session0 1) ∧ (session0 1).role < 2 ∧
    (serving 1).sess request0.session = some (session0 1) ∧ (serving 1).Calm 0 ∧
    (∃ r, (session0 1).reply = some r ∧ 4 * r.data.length ≤ 1084) ∧ ({ session0 1 with reply := none } : Session).reply = none ∧ (BitVec.ofNat 64 4 : BitVec 64).toNat = (session0 1).high := by
  refine ⟨rfl, serving_quiet 1, serving_accepts 1 (by decide), by decide, rfl, calm_of (by decide), ⟨_, rfl, by decide⟩, rfl, by decide⟩

/-- A replacement block that is offered. -/
def offered : State := { serving 3 with saf := { Safety.reset with offer := some (block1, request0) } }

theorem meets_ManagementOperations : (serving 3).LinesIdle ∧ offered.LinesIdle ∧ (serving 3).Quiet ∧ (serving 3).Accepts request0 (session0 3) ∧ 3 ≤ (session0 3).role ∧
    offered.Quiet ∧ offered.saf.offer = some (block1, request0) :=
  ⟨rfl, rfl, serving_quiet 3, serving_accepts 3 (by decide), by decide, quiet_of (by decide), rfl⟩

/-- A bank of the card whose checks hold (R414 to R416). -/
def bank0 : BankHeader :=
  { magic := 0x47494C56, format := 1, types := [1, 2, 3, 4, 5, 6, 7, 8, 9, 10], pubkeyOk := true, sigOk := true, hashOk := true,
    inside := true, keySlot := 0, revoke := 0, imageVer := 1, maps := List.replicate 4 RingMap.none, tcyc := 0 }

/-- An update that runs in session 127, and one whose verification is under way, in a part with a trusted key slot. -/
theorem meets_SeedUpdates : (serving 2).LinesIdle ∧ (serving 2).Quiet ∧ (serving 2).Accepts request0 (session0 2) ∧ 2 ≤ (session0 2).role ∧
    (let u : SeedUpdate := ⟨127, 9, 100⟩;
     let s : State := { serving 2 with
      regs := [(SED_KEYSLOT 0, 0x80000000), (SED_UPDATE, 0x10000000)]
      seed := { SeedUnit.reset with update := some u, commit := some request0 } };
     s.LinesIdle ∧ s.Quiet ∧ s.seed.update = some u ∧ u.session = request0.session.val ∧ s.updState = 1 ∧ s.seed.commit = some request0 ∧
     s.eth.sessions.length ≤ 32 ∧
     s.imageOk bank0 = true ∧ s.imageOk { bank0 with sigOk := false } = false) := by
  refine ⟨rfl, serving_quiet 2, serving_accepts 2 (by decide), by decide, rfl, quiet_of ?_, ?_, ?_, ?_, ?_, ?_, ?_, ?_⟩ <;>
    decide +kernel

/-! ## Hypotheses that are met: CAN, start-up, thermal data, accesses -/

/-- A controller that is integrated and may send, a time message, and buffers in each state the statements name. -/
theorem meets_Can : let s := rs [(CAN_STATUS 1, 0x12), (CAN_CTRL 1, 0x22)];
    s.Quiet ∧ s.Calm 1 ∧ s.Tame ∧ s.canOn 1 = true ∧ s.canTx 1 = true ∧ s.bit (CAN_CTRL 1) 5 = true ∧
    ({ s with canMem := [(txWord 1 31 1, 0x00200000)] } : State).bufSt 1 31 = 2 := by
  refine ⟨quiet_of ?_, calm_of ?_, tame_of ?_ ?_ ?_ ?_, ?_⟩ <;> decide +kernel

/-- A copy of the descriptor: bank 0 active, none pending, 16 blocks; the CRC of its bytes is 0x2AF77C11. -/
def descriptor0 : Descriptor := { magic := 0x53444346, seq := 0, active := 0, pending := 0xFF, blocks := 16, crc := 0x2AF77C11 }

/-- A card scan without a fault. -/
def scan0 : CardScan :=
  { present := true, supported := true, uniqueId := 1, desc0 := descriptor0,
    desc1 := { descriptor0 with seq := 1, crc := 0x63CB0136 }, bank0 := bank0, bank1 := { bank0 with sigOk := false }, journal := none }

/-- A part whose key slot 0 is trusted starts from bank 0 where no bank is pending. The newer copy governs; one whose CRC does not hold does not. -/
theorem meets_StartUp_banks :
    descOf scan0 = some scan0.desc1 ∧ descOf { scan0 with desc1 := { scan0.desc1 with seq := 2 } } = some descriptor0 ∧
    descOf { scan0 with desc0 := scan0.desc1, desc1 := descriptor0 } = some scan0.desc1 ∧
    descOf { scan0 with desc0 := { descriptor0 with crc := 0 }, desc1 := { scan0.desc1 with magic := 0 } } = none ∧
    descPend descriptor0 = none ∧ descPend { descriptor0 with pending := 1 } = some true ∧
    (rs [(SED_KEYSLOT 0, 0x80000000)]).imageBad bank0 = 0 ∧ (rs [(SED_KEYSLOT 0, 0xC0000000)]).imageBad bank0 = 4 ∧
    (rs [(SED_KEYSLOT 0, 0x80000000)]).imageBad { bank0 with hashOk := false } = 5 ∧
    (rs [(SED_KEYSLOT 0, 0x80000000)]).imageBad { bank0 with types := [1, 2, 3, 4, 5, 6, 7, 8, 9, 9] } = 6 := by
  decide +kernel

/-- A start-up under way, with another bank to fall back to, and with keys to take. -/
theorem meets_StartUp_sections :
    (let s := { rs [(SED_STATUS, 0x10000), (SED_KEYSLOT 1, 0x80000000), (CAN_CTRL 1, 1)] with
      seed := { SeedUnit.reset with other := some bank0, header := some { bank0 with revoke := 2 }, jblocks := 16 } };
     s.Quiet ∧ s.booting = true ∧ s.seed.other = some bank0 ∧ s.seed.header = some { bank0 with revoke := 2 } ∧ s.slotOk 1 = true ∧
     (2 : BitVec 4).getLsbD 1 = true ∧ s.fld (CAN_CTRL 1) 1 0 = 1 ∧ s.seed.canKeep.getLsbD 1 = false ∧ s.eth.sessions.length ≤ 32 ∧
     s.seed.jblocks = 16) ∧ SeedUnit.reset.other = none ∧
    ringMapsOk State.reset.tcycNext (List.replicate 4 RingMap.none) = true := by
  refine ⟨⟨quiet_of ?_, ?_⟩, ?_⟩ <;> decide +kernel

theorem meets_StartUp : State.reset.Quiet ∧ State.reset.eth.sessions.length ≤ 32 ∧ State.reset.phase = 0 ∧ scan0.present = true ∧
    (rs [(SED_STATUS, 0x10000)]).Quiet ∧ (rs [(SED_STATUS, 0x10000)]).booting = true ∧ (rs [(SED_STATUS, 1)]).booted = true ∧
    (rs [(SED_STATUS, 1)]).booting = false ∧ State.reset.Calm 2 ∧ State.reset.Tame := by
  refine ⟨reset_quiet, by decide, by decide, by decide, quiet_of (by decide), by decide, by decide, by decide, calm_of (by decide), reset_tame⟩

/-- The second bank of the scan fails its checks in every part. -/
theorem meets_StartUp_bad : State.reset.showSlots.imageOk (bankOf scan0 true) = false := by
  simp [State.imageOk, State.imageBad, State.sigBad, headOk, bankOf, scan0, bank0, upTo]

/-- Sixteen readings of 25 °C, none far from the one before. -/
theorem meets_Thermal : (List.replicate 16 (some (3200 : BitVec 16))).length = 16 ∧ State.reset.Quiet ∧ State.reset.Tame :=
  ⟨rfl, reset_quiet, reset_tame⟩

theorem meets_FabricAccesses : State.reset.Quiet ∧ State.reset.Calm 1 ∧ State.reset.poison = [] ∧
    (let a := (BitVec.ofNat 32 0x103FFFFC : Word).toNat;
     0x10000000 ≤ a ∧ a < 0x10400000 ∧ a % 2 ^ (2 : BitVec 2).toNat = 0 ∧ State.reset.poisoned (a / 4 * 4) = false) ∧
    ({ State.reset with poison := [(0x10000000, true)] } : State).poisoned 0x10000000 = true := by
  refine ⟨reset_quiet, calm_of (by decide), rfl, by decide, by decide⟩

theorem meets_EveryCommandCompletesSettled : State.reset.Settled := ⟨rfl, rfl, rfl⟩

/-! ## WellFormed refuses what breaks a check -/

/-- A request of session 0, which none has. -/
def noSession : MgmtHdr := { port := 0, session := 0, seq := 1, tagOk := true }

/-- A CAN frame with `n` bytes. -/
def canFrame (fdf : Bool) (n : Nat) : CanFrame :=
  { id := 5 * 2 ^ 18, ide := false, rtr := false, fdf := fdf, brs := false, esi := false, dlc := 8, data := List.replicate n 0x10, since := 0 }

theorem test_wf_nodes : Instr.wf (.nodeReset 0 0 { NodeMake.none with nmeas := 9 }) = false ∧
    Instr.wf (.nodeReset 0 0 { NodeMake.none with ntgt := 0 }) = false ∧ Instr.wf (.nodeReset 0 0 { NodeMake.none with ntgt := 9 }) = false ∧
    Instr.wf (.nodeReset 0 0 NodeMake.none) = true ∧
    Instr.wf (.nodeCollectAppend 0 0 0 (collect0 hdr0) (List.replicate 9 0) ⟨0, 0, false⟩) = false ∧
    Instr.wf (.nodeCollectAppend 0 0 0 (collect0 hdr0) (List.replicate 8 0) ⟨0, 0, false⟩) = true := by decide

theorem test_wf_graft : Instr.wf (.graftImageReceive bareImage) = false ∧
    Instr.wf (.graftImageReceive { bareImage with rings := List.replicate 4 ⟨0, 0, 0, 0, 0, 0, 0⟩ }) = true ∧
    Instr.wf (.graftMirrorReceive mirror0.line 1 []) = false ∧
    Instr.wf (.graftMirrorReceive mirror0.line 1 (List.replicate 65 (0, 0))) = false ∧
    Instr.wf (.graftMirrorReceive mirror0.line 1 (List.replicate 64 (0, 0))) = true := by decide

theorem test_wf_samples : Instr.wf (.hotAdcSample (List.replicate 15 0)) = false ∧ Instr.wf (.hotAdcSample (List.replicate 16 0)) = true ∧
    Instr.wf (.thermalSample (List.replicate 17 none)) = false ∧ Instr.wf (.thermalSample (List.replicate 16 none)) = true ∧
    Instr.wf (.scrubPass ⟨0, List.replicate 7 0⟩) = false ∧ Instr.wf (.scrubPass ⟨0, List.replicate 8 0⟩) = true := by decide

theorem test_wf_network : Instr.wf (.ethFrameReceive 0 { frame0 with pcp := 8 }) = false ∧
    Instr.wf (.ethFrameReceive 0 { frame0 with payload := List.replicate 65 0 }) = false ∧ Instr.wf (.ethFrameReceive 0 frame0) = true := by
  decide

theorem test_wf_echo : Instr.wf (.icmpEcho 0 (List.replicate 1473 0)) = false ∧ Instr.wf (.icmpEcho 0 (List.replicate 1472 0)) = true := by
  decide +kernel

theorem test_wf_sessions : Instr.wf (.closeSession noSession) = false ∧ Instr.wf (.keepalive noSession) = false ∧
    Instr.wf (.subscribe noSession true) = false ∧ Instr.wf (.cmdStart noSession) = false ∧ Instr.wf (.cmdStop noSession) = false ∧
    Instr.wf (.seedCommit noSession) = false ∧ Instr.wf (.seedAbort noSession) = false ∧ Instr.wf (.sessionIdleTimeout 0) = false ∧
    Instr.wf (.notify 0 0) = false ∧ Instr.wf (.mgmtRead noSession 0 1) = false ∧ Instr.wf (.keepalive request0) = true := by decide

theorem test_wf_lengths : Instr.wf (.mgmtRead request0 0 65536) = false ∧ Instr.wf (.mgmtWrite request0 0 (List.replicate 355 0)) = false ∧
    Instr.wf (.journalRead request0 0 0 256) = false ∧ Instr.wf (.captureRead request0 0 65536) = false ∧
    Instr.wf (.hostmsg request0 (List.replicate 1425 0)) = false ∧ Instr.wf (.safetyParam request0 (List.replicate 1425 0)) = false ∧
    Instr.wf (.seedBegin request0 0 4294967296) = false ∧ Instr.wf (.seedData request0 4294967296 []) = false ∧
    Instr.wf (.seedData request0 0 (List.replicate 1421 0)) = false := by
  decide +kernel

theorem test_wf_can : Instr.wf (.canFrameReceive 0 (canFrame false 9)) = false ∧ Instr.wf (.canFrameReceive 0 (canFrame true 65)) = false ∧
    Instr.wf (.timeSyncMessage 0 (canFrame false 9)) = false ∧ Instr.wf (.timeFupMessage 0 (canFrame false 9)) = false ∧
    Instr.wf (.canFrameReceive 0 (canFrame true 64)) = true := by decide

theorem test_wf_seed : Instr.wf (.seedSectionApply true (.bootSet ⟨[], 0, 0, 0, 0, List.replicate 11 0⟩ [])) = false ∧
    Instr.wf (.seedSectionApply true (.bootSet ⟨[], 0, 0, 0, 0, List.replicate 12 0⟩ [])) = true := by decide

/-! ## The spec's worked examples -/

/-- The state that a meaning answers. -/
def after : Host.Outcome State Fault Refusal → State
  | .next t => t
  | _ => State.reset

/-- R14's example: the high word held, then the low word; the pair takes effect on the second write. -/
theorem test_time_pair :
    (after (execRegisterWrite (.crown 0) (BitVec.ofNat 32 CAP_TRIG_LO) 2 0x42408000
      { State.reset with pairHeld := [(CAP_TRIG_LO, some 0x0000000F)] })).pair CAP_TRIG_LO = 0x0000000F42408000 := by decide +kernel

/-- The example under R39: an entry across the wrap is due 45,000 ns later. -/
theorem test_wrap : tdiff 0x0000000038080000 0xFFFFFFFFD6600000 = 0x61A80000 ∧ tdiff 0x99B00000 0xFFFFFFFFE9E80000 = 0xAFC80000 := by
  decide

/-- The example under R157: picks 0 and 2 of the controller. -/
theorem test_pick_words : pickOf 0x1822260F80080000 = { opc := 6, flg := 2, d := 1100, a := 992, b := 64, p := 0 } ∧
    pickOf 0x3002271130000008 = { opc := 0x0C, flg := 0, d := 1102, a := 1100, b := 0, p := 8 } := by decide

/-- The example under R165: the first step of the 50 Hz section after a state clear. -/
def biqBefore : State :=
  { State.reset with engines := [(0, { Engine.reset with
      inRun := true, pat := [(0, 0x3002271130000008)], sig := [(1100, 0x0028F5C3)],
      coef := [(8, 670998), (10, BitVec.ofInt 32 (-670998)), (11, BitVec.ofInt 32 (-1073574512)), (12, 536736712)] })] }

theorem test_biq : let x := (after (execBiq 0 biqBefore)).eng 0;
    sigGet x 1102 = 0x00000D1B ∧ Sparse.get (fun _ => none) x.stNew 0 = some 439676800 ∧
    Sparse.get (fun _ => none) x.stNew 1 = some (BitVec.ofInt 48 (-439690361)) ∧ x.idx = 1 ∧ x.clocks = 2 := by decide +kernel

/-- The example under R80: CORR of a SYNC frame after one hop. -/
theorem test_corr : (after (execNodeFrameReceive 0 4 0 0x0000000000674000
      (.sync (sync0 { hdr0 with corr := 0x0000000001A48000 } 0 0))
      (State.reset.setNode 0 4 (Node.fresh NodeMake.none)))).out.any (fun o => match o with
    | .nodeTx 0 4 1 f => (frameHdr f).any (fun h => h.corr == 0x00000000020BC000 && h.hops == 1)
    | _ => false) = true := by decide +kernel

/-- The example under R104: node 10 with its clock 37.5 ns ahead, from both copies: D_up = 100 ns. -/
theorem test_offset : let n := (after (execNodeSyncReceive 0 9 (BitVec.ofNat 64 (ns 4037 + 32768))
      (sync0 { hdr0 with dir := .ccw, seq := 3, corr := BitVec.ofNat 64 (ns 2760) } (BitVec.ofNat 64 (ns 1000)) (BitVec.ofNat 64 (ns 340)))
      { State.reset with nodes := [(9, { Node.fresh NodeMake.none with
          lock := 3, syncCw := some (3, ns 2217 + 32768, ns 2080) })] })).node 0 9;
    n.dUp = some ((ns 100 : Nat) : Int) ∧ n.toff = -2457600 := by decide +kernel

/-- The example under R340: what the two configuration words set, and that CODE 256 of 10 bits is K = 64. -/
theorem test_comparator : (after (execCmpCfgWrite 42 (.crown 0) 0x8BE40000 State.reset)).reg (CMP_C_CFG 42) = 0x8BE40000 ∧
    (after (execCmpCfgWrite 43 (.crown 0) 0x88E40000 State.reset)).reg (CMP_C_CFG 43) = 0x88E40000 := by decide +kernel

theorem test_comparator_dac : ((after (execCmpThresholdWrite 42 (.crown 0) true 0x8100
      (rs [(CMP_C_CFG 42, 0x8BF40000)]))).cmp 42).thr = 1024 ∧
    ((after (execCmpThresholdWrite 42 (.crown 0) false 0x40 State.reset)).cmp 42).thr = 1024 := by decide +kernel

/-- The same example: the trigger word of the cut, one event first seen 10 ns into the cycle. -/
theorem test_trigger_word : sigGet ((after (execInputCut
    { rs [(EVR_HDL 1, 0x8000001E)] with evr := { Router.reset with trigs := [(1, { count := 1, first := ns 10, clk := 0, inClk := 0 })] } })).eng 1) 1022 =
      0x00020001 := by decide +kernel

/-- The example under R308: the byte write of Crown core 1 to TIM_T_IN, and the same again. -/
def busErrors : State := after (execRegisterWrite (.crown 1) 0x31000014 0 0 State.reset)

theorem test_bus_error : busErrors.reg (FLT_REC_STAT 13) = 0x89010D06 ∧ busErrors.reg (FLT_REC_CODES 13) = 0x00000040 ∧
    busErrors.reg (FLT_REC_FEC_ADDR 13) = 0x31000014 ∧
    busErrors.fld (FLT_REC_MERGE 13) 15 0 = 0 := by decide +kernel

theorem test_bus_error_merged :
    (after (execRegisterWrite (.crown 1) 0x31000014 0 0
      { busErrors with tbs := [(0, { TimeBase.reset with cnt := BitVec.ofNat 80 (ns 3000 * 65536) })] })).reg (FLT_REC_MERGE 13) = 0x0D060001 := by decide +kernel

theorem test_bough_merge : let t := after (execEccUncorrectable 0x10032A40 ⟨0x40, 0, 2⟩
      { busErrors with tbs := [(0, { TimeBase.reset with cnt := BitVec.ofNat 80 (ns 40000 * 65536) })] });
    t.reg (FLT_REC_STAT 13) = 0x8C090D06 ∧ t.reg (FLT_REC_CODES 13) = 0x50 ∧ t.reg (FLT_REC_ACTIVE 13) = 0x10 ∧
    t.reg (FLT_REC_MERGE 13) = 0x0D040001 := by decide +kernel

/-- The example under R384: a one-step Sync that gives e = −33.25 ns, so that I = 12 − 3.325 = 8.675 ppb; the copy leaves with
correctionField 0x08DC_0000. The stamps are those of the example (the model's own carry the interpolator's reading). The units of I are 2^-32 ppb. -/
def syncBefore : State :=
  { rs [(ETH_STATUS, 0x300), (ETH_PORT_STATUS 0, 7), (ETH_PORT_STATUS 1, 7), (ETH_PORT_LDLY 0, 79936), (ETH_PTP_CFG, 0),
      (TIM_SERVO_CTRL, 4), (TIM_TB_CTRL 2, 0x11)] with
    tbs := [(2, { TimeBase.reset with cnt := BitVec.ofNat 80 (ns 1580 * 65536), integ := 12 * 2 ^ 32 })]
    eth := { EthUnit.reset with sel := some (⟨9, ⟨0, [], 0, 0⟩, [], true⟩, 0) } }

def syncMsg : PtpMsg :=
  { version := 2, lengthOk := true, domain := 0, sdo := 0, srcPort := 9, seqId := 1, correction := 0x04D28000, origin := 0, wraps := 0,
    twoStep := false }

theorem test_sync : let corr := syncMsg.correction.toInt + syncBefore.portDelay 0
    let e := syncOffset syncMsg.origin.toNat corr (ns 1580)
    BitVec.ofInt 64 (corr + tdiff (ns 2301 + 16384) (ns 1580)) = (0x08DC0000 : BitVec 64) ∧ e = -2179072 ∧
    ((syncBefore.servo 2 e).tb 2).integ = 37257969664 := by decide +kernel

/-- The example under R230: KU and PHI of the mean amplitude, h = 0.1 and ε = 0.002. -/
theorem test_relay : relayKu 53687091 (2 * (4 * 6845104)) 4 = 0x0004FE3C ∧ lagBits 1073742 (2 * (4 * 6845104)) 4 15 0 = 0x333 := by
  decide +kernel

/-- The example under R258: ΣCOUNT = 2,948 makes 24,576 bytes, the limit at 25 µs. -/
theorem test_image : imageBytes 2948 = 24576 ∧ imageLimit 25000 = 24576 := by decide

/-- The example under R207: cell 5 and its quad in slot k+2. -/
def woven : State :=
  { rs [(WVR_STR_CAR_PER 0, 800000), (WVR_STR_EN 0, 0xFFFFFFFF), (WVR_CH_CFG 0, 1), (WVR_CH_CFG 1, 0x103), (WVR_PH_MAX, 0x2000),
      (WVR_QUAD_PER 1, 100000), (WVR_QUAD_CFG 1, 3)] with
    tim := { TimUnit.reset with nextB := ns 999975000 }
    wvr := { Weaver.reset with
      strRef := [(0, some (ns 999760000))], quadRef := [(1, some (ns 999963000))],
      words := [(0, [161061274]), (1, [13421773, 0, 83886])] } }

theorem test_weave_leg : entryOf 0 7 0 0x3A12 7 true (woven.slotStart 2) 0 (woven.strLeg 0 (woven.strPlan 0) 5 0) =
    { time := 0x00003B914A5C199A, ctrl := 0x00073A1261A83007 } := by decide +kernel

theorem test_weave_dab : cmdTime (woven.slotStart 2) (woven.quadLeg 1 1 0) = 999913000 * 65536 ∧
    cmdTime (woven.slotStart 2) (woven.quadLeg 1 0 (nth (woven.psiPlan 5).1 0 0)) = 999957968 * 65536 + 49152 ∧
    cmdTime (woven.slotStart 2) (woven.quadLeg 1 1 (nth (woven.psiPlan 5).1 0 0)) = 999907968 * 65536 + 49152 := by decide +kernel

/-- The example under R223: string S1 with cells 9 and 22 out of service. -/
def derated2 : State :=
  rs [(WVR_STR_EN 1, 0xFFFFFFFF), (WVR_STR_OOS 1, 0x400200), (WVR_STR_RWV 1, 0x4F20), (WVR_STR_DEMAND 1, 0x051FEB85)]

theorem test_derate : (derated2.derate 1).reg (WVR_STR_HEAD 1) = 0x7FA6047B ∧
    derated2.cellPhase 1 (derated2.strPlan 1) 23 = 1503238554 := by decide +kernel

/-- The example under R436: T_max above 110 °C raises the throttle by one and fault 0x0C01. -/
theorem test_throttle : let t := after (execThermalSample (List.replicate 16 (some 14100)) State.reset);
    t.throttle = 1 ∧ (0x0C01, 31) ∈ t.flt.causes := by decide +kernel

end Sys2Proof.Tests
end

section
/-! The wrap of a time base (R39). The wrap writes the epoch register of its base; a wrap of TB0 also makes one journal entry, which
R316 then puts in its place. The facts about that entry and about the journal's order are stated first. -/

namespace Sys2Proof.Machine

variable (s : State)

/-! ## The end of a command that causes no event -/

@[simp] theorem reg_jOrder (a : Nat) : s.jOrder.reg a = s.reg a := by simp [State.jOrder, State.reg]
@[simp] theorem out_jOrder : s.jOrder.out = s.out := by simp [State.jOrder]
@[simp] theorem flt_jOrder : s.jOrder.flt = s.flt := by simp [State.jOrder]

/-- A router in which no event waits and none has fired is as the end of a command leaves it. -/
theorem Router.cleared_eq (r : Router) (hp : r.posted = []) (hf : r.fired = []) : { r with posted := [], fired := [] } = r := by
  cases r; cases hp; cases hf; rfl

/-- Without an event and without a lost entry, only the order of the journal's entries is left to be made (R316). -/
theorem done_unposted (hp : s.evr.posted = []) (hf : s.evr.fired = []) (hj : s.jnl.ovr = 0) : s.done = .next s.jOrder := by
  have hloss : s.lossCheck = s := by simp [State.lossCheck, hj]
  have hdrain : s.drain 256 = s := by rw [State.drain, hp]
  have hsettle : s.settle = s := by
    unfold State.settle
    rw [hdrain]
    exact congrArg s.withEvr (Router.cleared_eq s.evr hp hf)
  unfold State.done
  rw [hloss, hsettle]
  rfl

/-! ## Room in the journal -/

variable {s}

theorem State.Room.mono {m n : Nat} (h : s.Room n) (hmn : m ≤ n) : s.Room m := ⟨h.1, by have := h.2; omega⟩

/-- Room depends on the journal's losses and on its two counts alone. -/
theorem State.Room.setReg {n a : Nat} (v : Word) (h : s.Room n) (hh : JNL_HEAD ≠ a) (hc : JNL_COPIED ≠ a) : (s.setReg a v).Room n := by
  unfold State.Room
  rw [State.setReg_jnl, State.reg_setReg_other s v hh, State.reg_setReg_other s v hc]
  exact h

/-! ## The recovery epoch (R317) -/

variable (s)

@[simp] theorem out_setEpoch (c e : Nat) : (s.setEpoch c e).out = s.out := by simp [State.setEpoch]
@[simp] theorem flt_setEpoch (c e : Nat) : (s.setEpoch c e).flt = s.flt := by simp [State.setEpoch]

theorem low_setEpoch (c e : Nat) : Low s (s.setEpoch c e) :=
  ((low_setReg s JNL_EPOCH _ (.inl (by decide))).trans (low_orReg _ JNL_EVENTS 8 (.inl (by decide)))).trans
    (low_jAppend _ _ _ _ _ _ _ _)

/-- An EPOCH entry takes one place of the journal and causes no event. -/
theorem setEpoch_room (c e n : Nat) (h : s.Room (n + 1)) : (s.setEpoch c e).Room n ∧ (s.setEpoch c e).evr = s.evr := by
  have hr : ((s.setReg JNL_EPOCH (w32 (e % 2 ^ 16))).orReg JNL_EVENTS 8).Room (n + 1) :=
    (h.setReg _ (by decide) (by decide)).setReg _ (by decide) (by decide)
  obtain ⟨hroom, hevr, _, _⟩ := jAppend_room (originBlk 0x0B 15) 0x06 false c (s.reg JNL_EPOCH) (w32 (e % 2 ^ 16)) false n hr
  exact ⟨hroom, by rw [State.setEpoch, hevr, State.orReg_eq, State.setReg_evr, State.setReg_evr]⟩

/-! ## The wrap -/

@[simp] theorem kept_wrapped (n : Nat) : (s.wrapped n).kept = s.kept := by
  unfold State.wrapped; dsimp only; split <;> simp
@[simp] theorem out_wrapped (n : Nat) : (s.wrapped n).out = s.out := by
  unfold State.wrapped; dsimp only; split <;> simp [State.nextEpoch]
@[simp] theorem flt_wrapped (n : Nat) : (s.wrapped n).flt = s.flt := by
  unfold State.wrapped; dsimp only; split <;> simp [State.nextEpoch]

/-- Of the low registers, a wrap writes the epoch register of its base alone. -/
theorem low_wrapped (n : Nat) : Low (s.setReg (TIM_TB_EPOCH n) (s.reg (TIM_TB_EPOCH n) + 1)) (s.wrapped n) := by
  unfold State.wrapped; dsimp only; split
  · exact low_setEpoch _ _ _
  · exact Low.refl _

/-- A wrap makes at most one journal entry and causes no event. -/
theorem wrapped_room (n : Nat) (h : s.Room 1) : (s.wrapped n).Room 0 ∧ (s.wrapped n).evr = s.evr := by
  have hr : (s.setReg (TIM_TB_EPOCH n) (s.reg (TIM_TB_EPOCH n) + 1)).Room 1 :=
    h.setReg _ (by unfold JNL_HEAD TIM_TB_EPOCH; omega)
      (by unfold JNL_COPIED TIM_TB_EPOCH; omega)
  unfold State.wrapped; dsimp only; split
  · exact setEpoch_room _ _ _ 0 hr
  · exact ⟨hr.mono (by omega), rfl⟩

/-- The epoch registers after a wrap: that of the base counts, the others stand (R39). -/
theorem reg_epoch_wrapped (n k : Fin 4) :
    (s.wrapped n).reg (TIM_TB_EPOCH k) = if k = n then s.reg (TIM_TB_EPOCH n) + 1 else s.reg (TIM_TB_EPOCH k) := by
  have hlow : (TIM_TB_EPOCH k : Nat) < 0x34000000 := by have := k.isLt; unfold TIM_TB_EPOCH; omega
  have hev : (TIM_TB_EPOCH k : Nat) ≠ TIM_EVENTS := by unfold TIM_TB_EPOCH TIM_EVENTS; omega
  have haddr : TIM_TB_EPOCH k = TIM_TB_EPOCH n ↔ k = n := by rw [Fin.ext_iff]; unfold TIM_TB_EPOCH; omega
  rw [low_wrapped s n _ hlow hev, State.reg_setReg]
  exact if_congr haddr rfl rfl

/-- The counter of base `n` at 0, everything else as it was. -/
def State.zeroed (n : Nat) : State := s.setTb n { s.tb n with cnt := 0 }

/-- TB_WRAP sets the counter to 0 and counts the epoch, and leaves the journal in its order. -/
theorem exec_tbWrap (n : Fin 4) (h : s.Calm 1) : exec (.tbWrap n) s = .next ((s.zeroed n).wrapped n).jOrder := by
  obtain ⟨⟨hposted, hfired, _⟩, hroom⟩ := h
  obtain ⟨⟨hovr, _⟩, hevr⟩ := wrapped_room (s.zeroed n) n hroom
  exact done_unposted _ ((congrArg Router.posted hevr).trans hposted) ((congrArg Router.fired hevr).trans hfired) hovr

/-- Settles O2: the wrap writes the counter and the epoch register of its base, and the EPOCH entry that a wrap of TB0 makes reaches
only the journal. -/
theorem counterWrapHasNoOtherEffect : Obligations.CounterWrapHasNoOtherEffect := by
  intro n s hcalm
  refine ⟨_, exec_tbWrap s n hcalm, ?_⟩
  have htb (k : Nat) : ((s.zeroed n).wrapped n).jOrder.tb k = (s.zeroed n).tb k := tb_of_kept (by simp) k
  have hreg (k : Fin 4) : ((s.zeroed n).wrapped n).jOrder.reg (TIM_TB_EPOCH k) =
      if k = n then s.reg (TIM_TB_EPOCH n) + 1 else s.reg (TIM_TB_EPOCH k) :=
    (reg_jOrder _ _).trans (reg_epoch_wrapped (s.zeroed n) n k)
  refine ⟨?counter, ?epoch, fun k hk => ⟨?otherBase, ?otherEpoch⟩, ?faults, ?router, ?output⟩
  case counter => rw [htb, State.zeroed, State.tb_setTb_same]
  case epoch => rw [hreg, if_pos rfl]
  case otherBase => rw [htb, State.zeroed, State.tb_setTb, if_neg (Fin.val_ne_of_ne hk)]
  case otherEpoch => rw [hreg, if_neg hk]
  case faults => simp [State.zeroed]
  case router => exact (jOrder_evr _).trans (wrapped_room (s.zeroed n) n hcalm.2).2
  case output => simp [State.zeroed]

end Sys2Proof.Machine
end

section
/-! Rounding and narrowing (R127, R128): what `rne`, `rneDiv`, `satBits` and `narrow` answer, and that the rounded value is the only one
that `RoundsTo` admits. -/

namespace Sys2Proof.Machine

/-! ## The nearest quotient -/

/-- `r` is an integer nearest to `n / d`, and the even one of two. -/
def Nearest (n : Int) (d : Nat) (r : Int) : Prop := 2 * (n - r * d).natAbs ≤ d ∧ (2 * (n - r * d).natAbs = d → r % 2 = 0)

theorem roundsTo_iff_nearest (v : Int) (sh : Nat) (r : Int) : RoundsTo v sh r ↔ Nearest v (2 ^ sh) r := by
  simp [RoundsTo, Nearest]

/-- The quotient rounded down, or one more: how `rne` and `rneDiv` both round. -/
def nearestDiv (n : Int) (d : Nat) : Int :=
  if (d : Int) < 2 * (n % d) ∨ (2 * (n % d) = d ∧ n / d % 2 = 1) then n / d + 1 else n / d

theorem rne_eq (x : Int) (k : Nat) : rne x k = nearestDiv x (2 ^ k) := (rfl)
theorem rneDiv_eq (a b : Int) : rneDiv a b = nearestDiv (if b < 0 then -a else a) b.natAbs := (rfl)

theorem nearest_nearestDiv (n : Int) {d : Nat} (hd : 0 < d) : Nearest n d (nearestDiv n d) := by
  have hdown : n - n / d * d = n % d := by rw [Int.emod_def, Int.mul_comm]
  have hup : n - (n / d + 1) * d = n % d - d := by rw [← hdown]; ring
  have hpos : 0 ≤ n % d := Int.emod_nonneg n (by omega)
  have hlt : n % d < d := Int.emod_lt_of_pos n (by omega)
  unfold nearestDiv Nearest
  split
  · rw [hup]; omega
  · rw [hdown]; omega

/-- Of two nearest integers neither lies below the other: they would be neighbours and both even. -/
theorem Nearest.le {n : Int} {d : Nat} {r q : Int} (hd : 0 < d) (hr : Nearest n d r) (hq : Nearest n d q) : q ≤ r := by
  by_contra hlt
  obtain ⟨hr, hrEven⟩ := hr
  obtain ⟨hq, hqEven⟩ := hq
  have hgap : (q - r) * d ≤ 1 * d := by rw [Int.sub_mul]; omega
  have hone : q - r ≤ 1 := le_of_mul_le_mul_right hgap (by omega)
  obtain rfl : q = r + 1 := by omega
  rw [Int.add_mul] at hq hqEven
  omega

theorem Nearest.unique {n : Int} {d : Nat} {r q : Int} (hd : 0 < d) (hr : Nearest n d r) (hq : Nearest n d q) : r = q :=
  le_antisymm (hq.le hd hr) (hr.le hd hq)

theorem roundsTo_rne (x : Int) (k : Nat) : RoundsTo x k (rne x k) :=
  (roundsTo_iff_nearest x k _).mpr (nearest_nearestDiv x (by positivity))

theorem RoundsTo.eq_rne {x : Int} {k : Nat} {r : Int} (h : RoundsTo x k r) : r = rne x k :=
  ((roundsTo_iff_nearest x k r).mp h).unique (by positivity) ((roundsTo_iff_nearest x k _).mp (roundsTo_rne x k))

/-- The quotient of R163: the sign of the divisor is taken into the dividend. -/
theorem rneDiv_nearest (a : Int) {b : Int} (hb : b ≠ 0) :
    2 * (a - rneDiv a b * b).natAbs ≤ b.natAbs ∧ (2 * (a - rneDiv a b * b).natAbs = b.natAbs → rneDiv a b % 2 = 0) := by
  have h : Nearest (if b < 0 then -a else a) b.natAbs (rneDiv a b) := nearest_nearestDiv _ (by omega)
  generalize rneDiv a b = r at h ⊢
  have habs : ((if b < 0 then -a else a) - r * b.natAbs).natAbs = (a - r * b).natAbs := by
    split
    case isTrue hneg =>
      rw [Int.ofNat_natAbs_of_nonpos hneg.le, ← Int.natAbs_neg (a - r * b)]
      congr 1; ring
    case isFalse hpos => rw [Int.natAbs_of_nonneg (by omega)]
  unfold Nearest at h
  rwa [habs] at h

/-! ## Saturation -/

theorem satBits_v (n : Nat) (x : Fx) : (satBits n x).v = max (-(2 ^ (n - 1))) (min (2 ^ (n - 1) - 1) x.v) := by
  have hpos : (0 : Int) < 2 ^ (n - 1) := by positivity
  simp only [satBits, Nat.cast_pow, Nat.cast_ofNat, apply_ite Fx.v]
  split_ifs <;> omega

theorem satBits_exactFx_sat (n : Nat) (x : Int) :
    (satBits n (exactFx x)).sat = true ↔ x < -(2 ^ (n - 1)) ∨ 2 ^ (n - 1) ≤ x := by
  simp only [satBits, exactFx, Nat.cast_pow, Nat.cast_ofNat]
  split
  case isTrue high => exact iff_of_true rfl (.inr high)
  case isFalse high =>
    split
    case isTrue low => exact iff_of_true rfl (.inl low)
    case isFalse low => exact iff_of_false Bool.false_ne_true (not_or.mpr ⟨low, high⟩)

theorem narrow_exactFx (k n : Nat) (x : Int) : narrow k n (exactFx x) = satBits n (exactFx (rne x k)) := (rfl)

theorem narrowed_narrow (v : Int) (k n : Nat) : Narrowed v k n (narrow k n (exactFx v)).v :=
  ⟨rne v k, roundsTo_rne v k, satBits_v n _⟩

theorem narrow_sat_iff_leaves (v : Int) (k n : Nat) : (narrow k n (exactFx v)).sat = true ↔ Leaves v k n := by
  rw [narrow_exactFx, satBits_exactFx_sat]
  constructor
  · intro h; exact ⟨rne v k, roundsTo_rne v k, h⟩
  · rintro ⟨r, hr, h⟩; rwa [hr.eq_rne] at h

/-- A quotient below the Q3.28 range has a magnitude of 8 or more (R163). -/
theorem eight_le_of_rneDiv_lt {a b : Int} (hb : b ≠ 0) (h : rneDiv (a * 2 ^ 28) b < -(2 ^ 31)) : 8 * b.natAbs ≤ a.natAbs := by
  obtain ⟨hnear, _⟩ := rneDiv_nearest (a * 2 ^ 28) hb
  generalize rneDiv (a * 2 ^ 28) b = r at h hnear
  have hmul : (2 ^ 31 + 1) * b.natAbs ≤ (r * b).natAbs := by
    rw [Int.natAbs_mul]; exact Nat.mul_le_mul_right _ (by omega)
  omega

/-! ## Words -/

theorem wordOfInt_eq (x : Int) : wordOfInt x = BitVec.ofInt 32 x := by
  apply BitVec.eq_of_toNat_eq
  simp [wordOfInt, toU, BitVec.toNat_ofInt]; omega

end Sys2Proof.Machine
end

section
/-! One pick (R136, R155): what it writes and what it leaves. `State.pickDone` is followed through its three parts: the engine's own
writes, the rewritten signal words, and the notice of a saturation (R129). -/

namespace Sys2Proof.Machine

variable (s : State)

/-! ## What no pick touches -/

/-- The parts of the machine beside the engines that `PickRan` says a pick leaves. -/
def State.aside := (s.pending, s.tbs, s.rings, s.nodes, s.wvr, s.crown)

theorem aside_of_kept {s t : State} (h : t.kept = s.kept) : t.aside = s.aside := by
  simp only [State.aside, pending_of_kept h, tbs_of_kept h, rings_of_kept h, nodes_of_kept h, wvr_of_kept h, crown_of_kept h]

@[simp] theorem aside_setEng (e : Nat) (x : Engine) : (s.setEng e x).aside = s.aside := (rfl)

/-! ## A rewritten word -/

/-- Of what `State.kept` holds, a rewritten word changes the poison alone. -/
theorem kept_rewritten_poison (a : Nat) :
    (s.rewritten a).kept = ({ s with poison := (s.rewritten a).poison } : State).kept := by
  unfold State.rewritten
  split
  · have h := forEach_kept { s with poison := Sparse.set (fun _ => false) s.poison a false }
      (fun s (c : Nat × Nat) => kept_endCause s c.1 c.2) (s.flt.causes.filter (fun c => c.2 == wordTag a))
    rw [h, poison_of_kept h]
  · rfl

@[simp] theorem aside_rewritten (a : Nat) : (s.rewritten a).aside = s.aside :=
  (aside_of_kept (kept_rewritten_poison s a)).trans (rfl)

@[simp] theorem eng_rewritten (a e : Nat) : (s.rewritten a).eng e = s.eng e :=
  (eng_of_kept (kept_rewritten_poison s a) e).trans (rfl)

theorem low_rewritten (a : Nat) : Low s (s.rewritten a) := by
  unfold State.rewritten
  split
  · exact (Low.of_regs s rfl).trans (low_forEach _ (fun s (c : Nat × Nat) => low_endCause s c.1 c.2) _)
  · exact Low.refl s

/-- What every step of a run over a list leaves, the run leaves. -/
theorem forEach_leaves {α β : Type} {f : State → α → State} {g : State → β} (h : ∀ s x, g (f s x) = g s) (l : List α) :
    g (forEach f l s) = g s := by
  induction l generalizing s with
  | nil => rfl
  | cons x xs ih => rw [forEach, ih, h]

/-! ## The signal words -/

theorem sigGet_sigPut (x : Engine) (w k : Nat) (v : Word) : sigGet (sigPut x w v) k = if k = w then v else sigGet x k := by
  unfold sigGet sigPut
  by_cases hw : w < 7168 <;> by_cases hk : k < 7168 <;> simp only [hw, hk, if_true, if_false, Sparse.get_set]
  all_goals rw [if_neg (by omega)]

/-- What a pick answers that writes one signal word and no state. -/
def oneWord (d : Nat) (w : Word) (sat : Bool) : PickOut := { words := [(d, w)], sts := [], sat := sat }

theorem pickWrites_oneWord (x : Engine) (d : Nat) (w : Word) (b : Bool) : pickWrites x (oneWord d w b) = sigPut x d w := (rfl)

theorem sigPut_eq (x : Engine) (d : Nat) (w : Word) :
    sigPut x d w = { x with sig := (sigPut x d w).sig, shadow := (sigPut x d w).shadow } := by
  unfold sigPut; split <;> rfl

/-! ## The writes of a pick -/

/-- The engine after its current pick: the writes made, and the pass at its next pick. -/
def State.engAfter (e cost : Nat) (o : PickOut) : Engine :=
  let next := s.nextPick e 16 ((s.eng e).idx + 1) ((s.eng e).clocks + cost)
  { pickWrites (s.eng e) o with idx := next.1, clocks := next.2 }

/-- The state after a pick's writes, before a saturation is noted. -/
def State.pickWritten (e cost : Nat) (o : PickOut) : State :=
  forEach (fun s p => s.rewritten (sigAddr e p.1)) (o.words.filter (fun p => decide (p.1 < 7168))) (s.setEng e (s.engAfter e cost o))

theorem pickDone_eq (e cost : Nat) (o : PickOut) : s.pickDone e cost o =
    if o.sat then (s.pickWritten e cost o).saturated e (s.eng e).idx else s.pickWritten e cost o := (rfl)

@[simp] theorem aside_pickWritten (e cost : Nat) (o : PickOut) : (s.pickWritten e cost o).aside = s.aside :=
  forEach_leaves (s.setEng e _) (fun s _ => aside_rewritten s _) _

theorem eng_pickWritten (e cost k : Nat) (o : PickOut) :
    (s.pickWritten e cost o).eng k = if k = e then s.engAfter e cost o else s.eng k :=
  (forEach_leaves (s.setEng e _) (g := fun s => s.eng k) (fun s _ => eng_rewritten s _ k) _).trans (State.eng_setEng s e k _)

theorem low_pickWritten (e cost : Nat) (o : PickOut) : Low s (s.pickWritten e cost o) :=
  (Low.of_regs s (by simp)).trans (low_forEach (s.setEng e (s.engAfter e cost o)) (fun s _ => low_rewritten s _) _)

/-! ## A saturation (R129) -/

/-- The registers after a saturation of pick `i`: its bit of the map, the event, the first pick and the count of passes. -/
def State.satNoted (e i : Nat) : State :=
  let s1 := (s.setBit (HDL_SATMAP e (i / 32)) (i % 32) true).orReg (HDL_EVENTS e) 4
  let s2 := if !s.bit (HDL_SAT e) 11 then (s1.setFld (HDL_SAT e) 10 0 i).setBit (HDL_SAT e) 11 true else s1
  if (s2.eng e).satPass then s2 else s2.count (HDL_SAT e) 31 16 1

/-- The state after a saturation of pick `i`, before its fault. -/
def State.satMarked (e i : Nat) : State :=
  let x := s.satNoted e i
  x.setEng e { x.eng e with satPass := true, satTrk := (x.eng e).satTrk || x.inSeg e (x.fld (HDL_HOV_SEGS e) 11 8) i }

theorem saturated_eq (e i : Nat) : s.saturated e i =
    if !s.bit (HDL_SAT e) 11 && (s.satMarked e i).bit (HDL_CTRL e) 2 then (s.satMarked e i).raise 0x0307 e
    else s.satMarked e i := (rfl)

@[simp] theorem kept_satNoted (e i : Nat) : (s.satNoted e i).kept = s.kept := by
  unfold State.satNoted; dsimp only; split <;> split <;> simp

theorem kept_saturated (e i : Nat) : (s.saturated e i).kept = (s.satMarked e i).kept := by
  rw [saturated_eq]; split <;> simp

@[simp] theorem aside_saturated (e i : Nat) : (s.saturated e i).aside = s.aside :=
  (aside_of_kept (kept_saturated s e i)).trans
    ((aside_setEng (s.satNoted e i) e _).trans (aside_of_kept (kept_satNoted s e i)))

theorem eng_saturated_same (e i : Nat) :
    ∃ trk, (s.saturated e i).eng e = { s.eng e with satPass := true, satTrk := trk } := by
  rw [eng_of_kept (kept_saturated s e i), State.satMarked, State.eng_setEng_same, eng_of_kept (kept_satNoted s e i)]
  exact ⟨_, rfl⟩

theorem eng_saturated_other {e k : Nat} (i : Nat) (h : k ≠ e) : (s.saturated e i).eng k = s.eng k := by
  rw [eng_of_kept (kept_saturated s e i), State.satMarked, State.eng_setEng, if_neg h, eng_of_kept (kept_satNoted s e i)]

theorem low_saturated (e i : Nat) : Low (s.satNoted e i) (s.saturated e i) := by
  have hmarked : Low (s.satNoted e i) (s.satMarked e i) := Low.of_regs _ (State.setEng_regs _ _ _)
  rw [saturated_eq]
  split
  · exact hmarked.trans (low_raise _ _ _)
  · exact hmarked

/-- The map's words are none of the other registers that a saturation writes. -/
theorem reg_satmap_satNoted (e i : Nat) : (s.satNoted e i).reg (HDL_SATMAP e (i / 32)) =
    putBit (s.reg (HDL_SATMAP e (i / 32))) (i % 32) true := by
  have hev : HDL_SATMAP e (i / 32) ≠ HDL_EVENTS e := by unfold HDL_SATMAP HDL_EVENTS; omega
  have hsat : HDL_SATMAP e (i / 32) ≠ HDL_SAT e := by unfold HDL_SATMAP HDL_SAT; omega
  have hset : ((s.setBit (HDL_SATMAP e (i / 32)) (i % 32) true).orReg (HDL_EVENTS e) 4).reg (HDL_SATMAP e (i / 32)) =
      putBit (s.reg (HDL_SATMAP e (i / 32))) (i % 32) true := by
    rw [State.reg_orReg_other _ _ hev, State.setBit_eq, State.reg_setReg_same]
  unfold State.satNoted
  dsimp only
  split <;> split <;> simp only [State.count, State.reg_setFld_other _ _ _ _ hsat, State.reg_setBit_other _ _ _ hsat, hset]

/-- A pick that has saturated shows in the map, and still does when the command is over (R129). -/
theorem satmap_saturated {t : State} (e : Fin 8) {i : Nat} (hi : i < 2048) (ht : Low (s.saturated e i) t) :
    t.bit (HDL_SATMAP e (i / 32)) (i % 32) = true := by
  have he := e.isLt
  have hlow := ((low_saturated s e i).trans ht) (HDL_SATMAP e (i / 32)) (by unfold HDL_SATMAP; omega)
    (by unfold HDL_SATMAP TIM_EVENTS; omega)
  unfold State.bit
  rw [hlow, reg_satmap_satNoted, bit_putBit _ _ _ _ (Nat.mod_lt _ (by decide)), if_pos rfl]

/-! ## A pick that writes one signal word -/

variable {s}

/-- A pick's command runs the pick where it is the next of its engine. -/
theorem runPick_next {e opc : Nat} (cost : Nat) (f : PickIn → PickOut) (h : s.PickNext e opc) :
    s.runPick e opc cost f = s.pickDone e cost (f (s.pickIn e)) := by
  obtain ⟨hready, hclean⟩ := h
  unfold State.runPick State.atPick
  rw [hready, hclean]
  rfl

/-- Whether it has saturated or not, a pick leaves its engine as `engAfter` gives it but for the two notes of a saturation. -/
theorem eng_pickDone_same (e cost : Nat) (o : PickOut) :
    ∃ p trk, (s.pickDone e cost o).eng e = { s.engAfter e cost o with satPass := p, satTrk := trk } := by
  have hwritten := eng_pickWritten s e cost e o
  rw [if_pos rfl] at hwritten
  rw [pickDone_eq]
  split
  · obtain ⟨trk, h⟩ := eng_saturated_same (s.pickWritten e cost o) e (s.eng e).idx
    exact ⟨true, trk, h.trans (by rw [hwritten])⟩
  · exact ⟨_, _, hwritten⟩

theorem eng_pickDone_other {e k : Nat} (cost : Nat) (o : PickOut) (h : k ≠ e) : (s.pickDone e cost o).eng k = s.eng k := by
  have hwritten := eng_pickWritten s e cost k o
  rw [if_neg h] at hwritten
  rw [pickDone_eq]
  split
  · exact (eng_saturated_other _ _ h).trans hwritten
  · exact hwritten

theorem aside_pickDone (e cost : Nat) (o : PickOut) : (s.pickDone e cost o).aside = s.aside := by
  rw [pickDone_eq]; split <;> simp

theorem pickRan_oneWord {t : State} (e : Fin 8) (cost d : Nat) (w : Word) (b : Bool)
    (h : t.kept = (s.pickDone e cost (oneWord d w b)).kept) : PickRan s t e cost [(d, w)] [] := by
  have haside : t.aside = s.aside := (aside_of_kept h).trans (aside_pickDone e cost _)
  obtain ⟨p, trk, heng⟩ := eng_pickDone_same (s := s) e cost (oneWord d w b)
  rw [← eng_of_kept h, State.engAfter, pickWrites_oneWord, sigPut_eq] at heng
  simp only [State.aside, Prod.mk.injEq] at haside
  refine ⟨fun k => ?words, fun i => ?states, ?pass, ?st, ?pub, ?coef, fun k hk => ?others, haside⟩
  case words =>
    have hget : sigGet (t.eng e) k = sigGet (sigPut (s.eng e) d w) k := by rw [heng]; rfl
    rw [hget, sigGet_sigPut]
    by_cases hk : k = d
    · simp [hk]
    · simp [hk, Ne.symm hk]
  case states => rw [heng]; rfl
  case pass => rw [heng]
  case st => rw [heng]
  case pub => rw [heng]
  case coef => rw [heng]
  case others => exact (eng_of_kept h k).trans (eng_pickDone_other cost _ (Fin.val_ne_of_ne hk))

theorem satShown_pickDone {t : State} (e : Fin 8) (cost : Nat) (o : PickOut) (h : Low (s.pickDone e cost o) t) :
    SatShown s t e (o.sat = true) := by
  rw [pickDone_eq] at h
  refine ⟨fun hsat hi => ?saturated, fun hexact => ?exact⟩
  case saturated => rw [if_pos hsat] at h; exact satmap_saturated _ e hi h
  case exact => rw [if_neg hexact] at h; exact (low_pickWritten s e cost o).trans h

/-- What a pick's command gives that writes one signal word. -/
theorem gives_oneWord {c : Instr} {e : Fin 8} {opc cost d : Nat} {f : PickIn → PickOut} {w : Word} {b : Bool}
    (hexec : exec c s = (s.runPick e opc cost f).done) (hnext : s.PickNext e opc) (hf : f (s.pickIn e) = oneWord d w b) :
    Gives c s fun t => SatShown s t e (b = true) ∧ PickRan s t e cost [(d, w)] [] := by
  rw [runPick_next cost f hnext, hf] at hexec
  exact gives_effect hexec fun t hkept _ hlow _ _ => ⟨satShown_pickDone e cost _ hlow, pickRan_oneWord e cost d w b hkept⟩

theorem Gives.mono {c : Instr} {P Q : State → Prop} (h : Gives c s P) (hPQ : ∀ t, P t → Q t) : Gives c s Q := by
  obtain ⟨t, ht, hP⟩ := h
  exact ⟨t, ht, hPQ t hP⟩

theorem SatShown.congr {t : State} {e : Fin 8} {b b' : Prop} (h : SatShown s t e b) (hb : b ↔ b') : SatShown s t e b' :=
  propext hb ▸ h

end Sys2Proof.Machine
end

section
/-! LDC, MUL and DIV (R159, R162, R163): the word that each pick answers, and the obligations about them. -/

namespace Sys2Proof.Machine

/-! ## The answers -/

theorem copyOut_eq (d : Nat) (w : Word) : copyOut d w = oneWord d w false := (rfl)

theorem pickOut_word (d : Nat) (v : Fx) : pickOut [(d, v)] [] = oneWord d (BitVec.ofInt 32 v.v) v.sat := by
  simp [pickOut, oneWord, wordOfInt_eq]

theorem pickLdc_raw {c : PickIn} (h : c.f 0 = true) : pickLdc c = oneWord c.k.d (c.cw c.k.p) false := by
  rw [pickLdc, if_pos h, copyOut_eq]

theorem pickLdc_converted {c : PickIn} (h : ¬ c.f 0 = true) :
    pickLdc c = oneWord c.k.d (BitVec.ofInt 32 (rne (c.co c.k.p) 1)) false := by
  rw [pickLdc, if_neg h, copyOut_eq, wordOfInt_eq, coefSig]

/-- The exact product of a MUL, negated with NEG (R162). -/
def mulExact (c : PickIn) : Int := if c.f 0 then -(c.sg c.k.a * c.sg c.k.b) else c.sg c.k.a * c.sg c.k.b

theorem pickMul_eq (c : PickIn) : pickMul c =
    oneWord c.k.d (BitVec.ofInt 32 (narrow 28 32 (exactFx (mulExact c))).v) (narrow 28 32 (exactFx (mulExact c))).sat :=
  pickOut_word c.k.d _

theorem pickDiv_zero {c : PickIn} (h : c.sg c.k.b = 0) : pickDiv c =
    oneWord c.k.d (if c.sg c.k.a = 0 then 0 else if 0 < c.sg c.k.a then 0x7FFFFFFF else 0x80000000) true := by
  rw [pickDiv, if_pos h, pickOut_word]
  congr 1
  split_ifs <;> rfl

/-- The quotient of a DIV before it is saturated (R163). -/
def quotient (c : PickIn) : Int := rneDiv (c.sg c.k.a * 2 ^ 28) (c.sg c.k.b)

theorem pickDiv_nonzero {c : PickIn} (h : c.sg c.k.b ≠ 0) : pickDiv c =
    oneWord c.k.d (BitVec.ofInt 32 (satBits 32 (exactFx (quotient c))).v)
      ((satBits 32 (exactFx (quotient c))).sat || decide (8 * (c.sg c.k.b).natAbs ≤ (c.sg c.k.a).natAbs)) := by
  rw [pickDiv, if_neg h, pickOut_word, quotient]

/-- A DIV saturates where the quotient's magnitude reaches 8, or where the quotient is rounded up to 8 (R163). -/
theorem div_sat_iff {c : PickIn} (h : c.sg c.k.b ≠ 0) :
    ((satBits 32 (exactFx (quotient c))).sat || decide (8 * (c.sg c.k.b).natAbs ≤ (c.sg c.k.a).natAbs)) = true ↔
      8 * (c.sg c.k.b).natAbs ≤ (c.sg c.k.a).natAbs ∨ 2 ^ 31 ≤ quotient c := by
  have hbelow : quotient c < -(2 ^ 31) → 8 * (c.sg c.k.b).natAbs ≤ (c.sg c.k.a).natAbs := eight_le_of_rneDiv_lt h
  rw [Bool.or_eq_true, satBits_exactFx_sat, decide_eq_true_eq]
  tauto

/-! ## The obligations -/

/-- Settles O17: a copied word never saturates, and the converted one is the rounding of R156. -/
theorem ldcConvertsOrCopies : Obligations.LdcConvertsOrCopies := by
  intro e s hnext
  by_cases hraw : pflag (s.curPick e) 0 = true
  · refine (gives_oneWord (f := pickLdc) rfl hnext (pickLdc_raw hraw)).mono fun t ⟨hsat, hran⟩ => ?_
    dsimp only
    rw [if_pos hraw]
    exact ⟨hsat.congr (by simp), hran⟩
  · refine (gives_oneWord (f := pickLdc) rfl hnext (pickLdc_converted hraw)).mono fun t ⟨hsat, hran⟩ => ?_
    dsimp only
    rw [if_neg hraw]
    exact ⟨hsat.congr (by simp), _, roundsTo_rne _ 1, hran⟩

/-- Settles O18: one narrowing of the exact product gives both the word and the saturation. -/
theorem mulRoundsAndSaturates : Obligations.MulRoundsAndSaturates := by
  intro e s hnext
  refine (gives_oneWord (f := pickMul) rfl hnext (pickMul_eq _)).mono fun t ⟨hsat, hran⟩ => ?_
  exact ⟨hsat.congr (narrow_sat_iff_leaves _ 28 32), _, narrowed_narrow _ 28 32, hran⟩

/-- Settles O19, by cases on the divisor: 0 is answered by the sign of A, any other by the nearest quotient. -/
theorem divQuotient : Obligations.DivQuotient := by
  intro e s hnext
  by_cases hb : (s.pickIn e).sg (s.curPick e).b = 0
  · refine (gives_oneWord (f := pickDiv) rfl hnext (pickDiv_zero hb)).mono fun t ⟨hsat, hran⟩ => ?_
    exact ⟨fun _ => ⟨hsat.congr (by simp), hran⟩, fun hne => absurd hb hne⟩
  · refine (gives_oneWord (f := pickDiv) rfl hnext (pickDiv_nonzero hb)).mono fun t ⟨hsat, hran⟩ => ?_
    obtain ⟨hnear, heven⟩ := rneDiv_nearest ((s.pickIn e).sg (s.curPick e).a * 2 ^ 28) hb
    rw [satBits_v] at hran
    exact ⟨fun h => absurd h hb, fun _ => ⟨_, hnear, heven, hsat.congr (div_sat_iff hb), hran⟩⟩

end Sys2Proof.Machine
end
